-- ==== Sys2Proof/Word.lean ====
section
/-!
DEFINITION. The byte and the two-byte word that the serial lines and the Configuration Store carry
(R164, R168, R190): "one byte, unsigned", "two bytes, high byte first".
-/

namespace Sys2Proof

/-- One byte of a frame, or of a sector of the Configuration Store. -/
abbrev Byte := BitVec 8

/-- A two-byte field, high byte first (R168, R190). -/
abbrev Half := BitVec 16

end Sys2Proof
end

