-- ==== Sys2Proof/Syntax.lean ====
section
/-!
DEFINITION. The commands: one constructor of `Instr` per row of spec/opcode_table.json, with the row's operands
(the fields a request's body carries under R167 and R168, or what an event concerns).
-/

namespace Sys2Proof

/-- The four lines, each with a fixed role (R163). -/
inductive Line where
  | panelA | panelB | override | building
deriving DecidableEq, Repr, Inhabited

/-- The fire panels, named by the line a request is taken on (R43, R163). -/
inductive Panel where
  | panelA | panelB
deriving DecidableEq, Repr, Inhabited

/-- What a port receives at one moment: a byte, a byte with no stop bit, or a break (R165). -/
inductive Received where
  | byte (b : Byte)
  | byteError
  | lineBreak
deriving DecidableEq, Repr, Inhabited

/-- Why a warm restart begins (R14, R16). -/
inductive WarmCause where
  | request | supervisor
deriving DecidableEq, Repr, Inhabited

/-- The operations and events of the part: the rows of spec/opcode_table.json, in the table's order.
A request command stands for the owning block's taking of a request that the Line Interface has dispatched
(R167); `frameReceived` and `byteReceived` stand for the reception before it. Zone, actuator, page, part and
option fields are the body's bytes, unchecked (R167: "The Line Interface does not look inside a body"). Bodies of
varying length are the body's bytes whole, because their owning rules check their form. An event names the
terminal, actuator, zone or line it concerns. -/
inductive Instr where
  /-- POLL (R178). -/
  | poll (line : Line)
  /-- READ-SUMMARY (R179): page. -/
  | readSummary (line : Line) (page : Byte)
  /-- READ-ZONE (R57, R180): zone, part. -/
  | readZone (line : Line) (zone part : Byte)
  /-- READ-ACTUATOR (R36, R106, R129). -/
  | readActuator (line : Line) (actuator : Byte)
  /-- ZONE-ALARM (R43 to R45) from one of the two panel lines. -/
  | zoneAlarm (panel : Panel) (zone : Byte)
  /-- ZONE-RESET (R46) from one of the two panel lines. -/
  | zoneReset (panel : Panel) (zone : Byte)
  /-- OVERRIDE-SET (R152): actuator, command code, speed. -/
  | overrideSet (actuator command : Byte) (speed : Half)
  /-- OVERRIDE-RELEASE (R154): an actuator, or FFh for ALL. -/
  | overrideRelease (actuator : Byte)
  /-- STAND-DOWN (R156): option code. -/
  | standDown (option : Byte)
  /-- RESUME (R160). -/
  | resume
  /-- FAULT-CLEAR (R171) from the Override Line or the Building Line. -/
  | faultClear (line : Line) (actuator : Byte)
  /-- NORMAL-SET (R32): actuator, command code, speed. -/
  | normalSet (actuator command : Byte) (speed : Half)
  /-- NORMAL-RELEASE (R33). -/
  | normalRelease (actuator : Byte)
  /-- NORMAL-GROUP (R34): the whole body, count first. -/
  | normalGroup (body : List Byte)
  /-- TEST-START (R48): zone, test reason code. -/
  | testStart (zone reason : Byte)
  /-- TEST-END (R50). -/
  | testEnd (zone : Byte)
  /-- CONFIG-READ (R182): the whole body. -/
  | configRead (body : List Byte)
  /-- CONFIG-WRITE (R183): the whole body. -/
  | configWrite (body : List Byte)
  /-- CONFIG-ACTIVATE with action APPLY (R185): sector code. -/
  | configActivateApply (sector : Byte)
  /-- CONFIG-ACTIVATE with action DISCARD (R185): sector code. -/
  | configActivateDiscard (sector : Byte)
  /-- RESTART (R172). -/
  | restart
  /-- A complete frame arrives on a line and is judged at its last byte (R166). -/
  | frameReceived (line : Line) (frame : List Byte)
  /-- The gap timer of a port expires (R165). -/
  | gapTimerExpiry (line : Line)
  /-- The last byte of an answer leaves the line (R165). -/
  | answerSent (line : Line)
  /-- The supervision timer of a line expires (R173). -/
  | supervisionTimerExpiry (line : Line)
  /-- Power is applied (R12). -/
  | coldStart
  /-- Power is lost (R12, R170, R188). -/
  | powerLoss
  /-- A warm restart begins (R14). -/
  | warmRestartStart (cause : WarmCause)
  /-- The supervisor's event (R14). -/
  | supervisor
  /-- A warm restart ends (R15). -/
  | warmRestartEnd
  /-- A 10 ms sample of a supervised input: its sense current in microamperes (R132, R133). -/
  | inputSample (input : Fin 128) (current : Nat)
  /-- A 10 ms sample of the key line: its sense current in microamperes (R136). -/
  | keyLineSample (current : Nat)
  /-- A completed conversion of a channel: its 10-bit code (R138, R142). -/
  | channelConversion (channel : Fin 16) (code : BitVec 10)
  /-- A completed supply conversion: its 10-bit code (R146, R147). -/
  | supplyConversion (code : BitVec 10)
  /-- A 4 ms frame boundary of a speed output (R127). -/
  | speedFrameBoundary (output : Fin 16)
  /-- The sector write in progress completes (R186). -/
  | writeCompletion
  /-- A damper's travel timer expires (R89). -/
  | travelTimerExpiry (actuator : Fin 64)
  /-- A reversing damper's dead-time timer expires (R90). -/
  | deadTimeExpiry (actuator : Fin 64)
  /-- A reversing damper's cooldown timer expires (R92). -/
  | cooldownExpiry (actuator : Fin 64)
  /-- The SWITCH-DISAGREE timer expires (R100). -/
  | switchDisagreeExpiry (actuator : Fin 64)
  /-- The LEFT-POSITION timer expires (R100). -/
  | leftPositionExpiry (actuator : Fin 64)
  /-- A fan's start proof timer expires (R114). -/
  | startProofExpiry (actuator : Fin 64)
  /-- A fan's stop proof timer expires (R119). -/
  | stopProofExpiry (actuator : Fin 64)
  /-- A fan's run-loss timer expires (R115). -/
  | runLossExpiry (actuator : Fin 64)
  /-- A fan's restart delay expires (R117). -/
  | restartDelayExpiry (actuator : Fin 64)
  /-- A fan's ramp timer expires (R124). -/
  | rampStep (actuator : Fin 64)
  /-- A stage's settle timer expires (R69). -/
  | settleExpiry (zone : Fin 24)
  /-- A stage's proof-window timer expires (R71). -/
  | proofWindowExpiry (zone : Fin 24)
  /-- A stage's gate-wait timer expires (R64). -/
  | gateWaitExpiry (zone : Fin 24)
  /-- A port receives a byte, a byte error or a break (R165). -/
  | byteReceived (line : Line) (received : Received)
  /-- A port begins to send its answer (R169). -/
  | answerBegin (line : Line)
deriving DecidableEq, Repr, Inhabited

/-- The line of a panel (R163). -/
def Panel.line : Panel → Line
  | .panelA => .panelA
  | .panelB => .panelB

/-- The line on which a request command is taken, and the kind code of its frame (R167); none for an event. -/
def Instr.request : Instr → Option (Line × Byte)
  | .poll l => some (l, 0x01)
  | .readSummary l _ => some (l, 0x02)
  | .readZone l _ _ => some (l, 0x03)
  | .readActuator l _ => some (l, 0x04)
  | .zoneAlarm p _ => some (p.line, 0x10)
  | .zoneReset p _ => some (p.line, 0x11)
  | .overrideSet _ _ _ => some (.override, 0x20)
  | .overrideRelease _ => some (.override, 0x21)
  | .standDown _ => some (.override, 0x22)
  | .resume => some (.override, 0x23)
  | .faultClear l _ => some (l, 0x24)
  | .normalSet _ _ _ => some (.building, 0x30)
  | .normalRelease _ => some (.building, 0x31)
  | .normalGroup _ => some (.building, 0x32)
  | .testStart _ _ => some (.building, 0x33)
  | .testEnd _ => some (.building, 0x34)
  | .configRead _ => some (.building, 0x40)
  | .configWrite _ => some (.building, 0x41)
  | .configActivateApply _ => some (.building, 0x42)
  | .configActivateDiscard _ => some (.building, 0x42)
  | .restart => some (.building, 0x43)
  | .frameReceived _ _ => none
  | .gapTimerExpiry _ => none
  | .answerSent _ => none
  | .supervisionTimerExpiry _ => none
  | .coldStart => none
  | .powerLoss => none
  | .warmRestartStart _ => none
  | .supervisor => none
  | .warmRestartEnd => none
  | .inputSample _ _ => none
  | .keyLineSample _ => none
  | .channelConversion _ _ => none
  | .supplyConversion _ => none
  | .speedFrameBoundary _ => none
  | .writeCompletion => none
  | .travelTimerExpiry _ => none
  | .deadTimeExpiry _ => none
  | .cooldownExpiry _ => none
  | .switchDisagreeExpiry _ => none
  | .leftPositionExpiry _ => none
  | .startProofExpiry _ => none
  | .stopProofExpiry _ => none
  | .runLossExpiry _ => none
  | .restartDelayExpiry _ => none
  | .rampStep _ => none
  | .settleExpiry _ => none
  | .proofWindowExpiry _ => none
  | .gateWaitExpiry _ => none
  | .byteReceived _ _ => none
  | .answerBegin _ => none

end Sys2Proof
end

