-- ==== Sys2Proof/Machine/LineRoles.lean ====
section
/-!
DEFINITION. The roles of the lines: which kinds a line may send (R167), which lines are supervised (R173), role codes
(R163), and the shape of a frame (R164).
-/

namespace Sys2Proof

/-- A frame's body is at most 120 bytes long (R164). -/
def maxBodyBytes : Nat := 120

/-- The start byte A5h (R164). -/
def startByte : Byte := 0xA5

/-- The role code of a line (R163). -/
def Line.roleCode : Line → Byte
  | .panelA => 0x51
  | .panelB => 0x52
  | .override => 0x53
  | .building => 0x54

/-- R167's table: the lines that may send a kind; no line may send a kind that is not in the table. -/
def lineMaySend (line : Line) (kind : Byte) : Bool :=
  if kind ∈ [0x01, 0x02, 0x03, 0x04] then true
  else if kind ∈ [0x10, 0x11] then line == .panelA || line == .panelB
  else if kind ∈ [0x20, 0x21, 0x22, 0x23] then line == .override
  else if kind = 0x24 then line == .override || line == .building
  else if kind ∈ [0x30, 0x31, 0x32, 0x33, 0x34, 0x40, 0x41, 0x42, 0x43] then line == .building
  else false

/-- R167: the kind codes in the table. -/
def kindKnown (kind : Byte) : Bool :=
  kind ∈ ([0x01, 0x02, 0x03, 0x04, 0x10, 0x11, 0x20, 0x21, 0x22, 0x23, 0x24, 0x30, 0x31, 0x32, 0x33, 0x34,
    0x40, 0x41, 0x42, 0x43] : List Byte)

/-- R167: the fixed body length of a kind; none for the four kinds of varying length. -/
def fixedBodyLength (kind : Byte) : Option Nat :=
  if kind ∈ [0x01, 0x23, 0x43] then some 0
  else if kind ∈ [0x02, 0x04, 0x10, 0x11, 0x21, 0x22, 0x24, 0x31, 0x34] then some 1
  else if kind ∈ [0x03, 0x33] then some 2
  else if kind ∈ [0x20, 0x30] then some 4
  else none

/-- R173: the panel lines and the Override Line have a supervision timer, the Building Line has none. -/
def Line.supervised : Line → Bool
  | .building => false
  | _ => true

/-- R164, R165: start byte A5h, a body length n of at most 120 in byte 2, and 6 + n bytes in all. -/
def completeFrame (frame : List Byte) : Bool :=
  frame[0]? == some startByte &&
    (match frame[2]? with
     | some n => decide (n.toNat ≤ maxBodyBytes) && frame.length == 6 + n.toNat
     | none => false)

end Sys2Proof
end

