-- ==== Sys2Proof/Machine/State.lean ====
section
/-!
DEFINITION. The state of the part: every table, list, flag, timer, counter and record that the manual gives it, as plain
data, and the state right after reset. Times are in milliseconds on the model's clock `now` (log 1), except the
fields of definitions and supervision times, which are in tenths of a second as R190 lays them out.
-/

namespace Sys2Proof.Machine

/-! ## Commands and claims (R17, R18) -/

/-- A damper position as configured, and a direction of drive: OPEN or CLOSED (R8, R85). -/
inductive Side where
  | openSide | closedSide
deriving DecidableEq, Repr, Inhabited

/-- The command of a claim, and a target (R17): OPEN, CLOSED, OFF, or RUN with a speed. -/
inductive Command where
  | openPos | closedPos | off
  | run (speed : Nat)
deriving DecidableEq, Repr, Inhabited

/-- The source of a claim (R17). -/
inductive Source where
  | normal
  | test (zone : Fin 24)
  | fire (zone : Fin 24)
  | override
deriving DecidableEq, Repr, Inhabited

/-- A claim (R17). Its level is fixed by its source and is not stored beside it. -/
structure Claim where
  src : Source
  cmd : Command
deriving DecidableEq, Repr, Inhabited

/-- One actuator's claim list, its target and its NORMAL-SHED mark (R18, R25, R28). An UNUSED record has no target. -/
structure ClaimList where
  claims : List Claim
  target : Option Command
  normalShed : Bool
deriving DecidableEq, Repr, Inhabited

/-! ## The plant table's definitions (R1 to R8, R140) -/

/-- The proof mode of a damper record (R7). -/
inductive ProofMode where
  | bothSwitches | openSwitch | closedSwitch | timed
deriving DecidableEq, Repr, Inhabited

/-- An input named by a record, with its filter count F (R7, R134). -/
structure InputRef where
  input : Fin 128
  count : Nat
deriving DecidableEq, Repr, Inhabited

/-- The speed output of a variable-speed fan with its limits and ramp rate (R3). -/
structure SpeedDef where
  output : Fin 16
  smin : Nat
  smax : Nat
  rate : Nat
deriving DecidableEq, Repr, Inhabited

/-- The pressure channel of a fan with its proof threshold in pascals (R3). -/
structure PressureDef where
  channel : Fin 16
  threshold : Nat
deriving DecidableEq, Repr, Inhabited

/-- A FAN record (R3). Times are in tenths of a second. -/
structure FanDef where
  runOutput : Fin 96
  speed : Option SpeedDef
  proofInput : Option InputRef
  pressure : Option PressureDef
  startProofTime : Nat
  stopProofTime : Nat
  restartAttempts : Nat
deriving DecidableEq, Repr, Inhabited

/-- A REVERSING record (R5). Times are in tenths of a second. -/
structure ReversingDef where
  rest : Side
  openOutput : Fin 96
  closeOutput : Fin 96
  mode : ProofMode
  openSwitch : Option InputRef
  closedSwitch : Option InputRef
  travelLimit : Nat
  deadTime : Nat
  reversalLimit : Nat
deriving DecidableEq, Repr, Inhabited

/-- A SPRING record (R6). Times are in tenths of a second. -/
structure SpringDef where
  rest : Side
  driveOutput : Fin 96
  failPosition : Side
  mode : ProofMode
  openSwitch : Option InputRef
  closedSwitch : Option InputRef
  travelLimit : Nat
deriving DecidableEq, Repr, Inhabited

/-- The definition part of one of the 64 actuator records (R1, R2). -/
inductive ActuatorDef where
  | unused
  | fan (d : FanDef)
  | reversing (d : ReversingDef)
  | spring (d : SpringDef)
deriving DecidableEq, Repr, Inhabited

/-- The scaling of a channel (R140). -/
structure Scaling where
  clo : Nat
  chi : Nat
  elo : Int
  ehi : Int
deriving DecidableEq, Repr, Inhabited

/-- The PLANT image in force: the actuator definitions and the channel scalings (R181). -/
structure PlantImage where
  acts : Vector ActuatorDef 64
  scalings : Vector (Option Scaling) 16
deriving DecidableEq, Repr, Inhabited

/-! ## The sequences' definitions (R40, R60, R61) -/

/-- One command entry of a stage record (R60). -/
structure StageCommand where
  actuator : Fin 64
  cmd : Command
deriving DecidableEq, Repr, Inhabited

/-- The comparison of a gate (R61). -/
inductive Comparison where
  | ge | lt | within | outside
deriving DecidableEq, Repr, Inhabited

/-- The mode of a gate (R61). -/
inductive GateMode where
  | skipIf | waitUntil
deriving DecidableEq, Repr, Inhabited

/-- The gate of a stage (R61). The wait is in tenths of a second and is absent (0) for SKIP-IF. -/
structure Gate where
  channel : Fin 16
  comparison : Comparison
  value : Int
  tolerance : Nat
  mode : GateMode
  wait : Nat
deriving DecidableEq, Repr, Inhabited

/-- The failure policy of a stage (R60). -/
inductive Policy where
  | cont | stop
deriving DecidableEq, Repr, Inhabited

/-- A configured stage record (R60). Times are in tenths of a second. -/
structure StageDef where
  commands : List StageCommand
  settleTime : Nat
  proofWindow : Nat
  gate : Option Gate
  policy : Policy
deriving DecidableEq, Repr, Inhabited

/-- A configured zone definition (R40). -/
structure ZoneDef where
  sequence : List (Fin 256)
  panelA : Bool
  panelB : Bool
deriving DecidableEq, Repr, Inhabited

/-- The SEQUENCES image in force: zone definitions and the stage pool (R40, R60, R181). -/
structure SequenceImage where
  zones : Vector (Option ZoneDef) 24
  stages : Vector (Option StageDef) 256
deriving DecidableEq, Repr, Inhabited

/-! ## Timers -/

/-- A timer that can be frozen (R77, R85): running until an instant of the clock, or frozen with a remaining time, in
milliseconds. -/
inductive Timer where
  | stopped
  | running (deadline : Nat)
  | frozen (remaining : Nat)
deriving DecidableEq, Repr, Inhabited

/-! ## Field inputs and channels (R132, R139, R143, R147) -/

/-- The band of a sample (R132). -/
inductive Band where
  | openCircuit | off | on | short
deriving DecidableEq, Repr, Inhabited

/-- The debounced state of an input (R132). -/
inductive Debounced where
  | off | on | openFault | shortFault | unknown
deriving DecidableEq, Repr, Inhabited

/-- The state of a supervised input or of the key line (R132, R136). The filter count F of an input is `State.filters`. -/
structure InputState where
  candidate : Option Band
  run : Nat
  debounced : Debounced
deriving DecidableEq, Repr, Inhabited

/-- The status of a channel (R143). -/
inductive ChannelStatus where
  | unused | unknown | valid | underRange | overRange
deriving DecidableEq, Repr, Inhabited

/-- A channel: window of codes oldest first, last valid value, status and value (R139, R142, R143). -/
structure Channel where
  window : List Nat
  lastValid : Option Int
  status : ChannelStatus
  value : Option Int
deriving DecidableEq, Repr, Inhabited

/-- The supply state (R147). -/
inductive SupplyState where
  | ok | low
deriving DecidableEq, Repr, Inhabited

/-- The supply monitor: state, count of confirming readings, and most recent reading in tenths of a volt (R147, R150). The
manual names no reading for the time before the first conversion: it is 0 there (DESIGN CHOICE, unsafe, log 34). -/
structure SupplyMonitor where
  state : SupplyState
  count : Nat
  reading : Nat
deriving DecidableEq, Repr, Inhabited

/-! ## Damper drives (R85) -/

/-- The drive state of a damper (R85). A spring drive never has DEAD-TIME or COOLDOWN. -/
inductive DamperState where
  | idle | drivingOpen | drivingClose | deadTime | cooldown | suspended
deriving DecidableEq, Repr, Inhabited

/-- The proven position of a damper (R85). -/
inductive Position where
  | openPos | closedPos | moving | unknown | openByTime | closedByTime
deriving DecidableEq, Repr, Inhabited

/-- The fault kinds of a damper (R85). -/
inductive DamperFault where
  | travelTimeout | switchDisagree | leftPosition | inputFault
deriving DecidableEq, Repr, Inhabited

/-- A damper drive controller (R85). `openOut` and `closeOut` are the two relays of a reversing damper; `driveOut` is the
one relay of a spring damper. `leftFrom` is the position a running LEFT-POSITION timer waits for (R100), `endWaits` marks
a travel end whose judgement waits for an UNKNOWN switch (R96), and `keptPosition` marks a position kept through a warm
restart until every named switch has been debounced (R96, R108). -/
structure DamperDrive where
  state : DamperState
  position : Position
  fault : Option DamperFault
  target : Side
  travel : Timer
  deadTimer : Option Nat
  coolTimer : Option Nat
  lastDirection : Option Side
  offSince : Option Nat
  pending : Option Side
  interrupted : Bool
  remembered : Option Side
  history : List Nat
  restartBar : Option Nat
  unswitchedArrival : Bool
  endWaits : Bool
  keptPosition : Bool
  supply : SupplyState
  openOut : Bool
  closeOut : Bool
  driveOut : Bool
  disagreeTimer : Option Nat
  leftTimer : Option Nat
  leftFrom : Option Position
deriving DecidableEq, Repr, Inhabited

/-! ## Fan drives (R109) -/

/-- The run state of a fan (R109). -/
inductive RunState where
  | stopped | starting | running | stopping | restartWait | failed
deriving DecidableEq, Repr, Inhabited

/-- The fault kinds of a fan (R109). -/
inductive FanFault where
  | failStart | failRun | failStop | inputFault
deriving DecidableEq, Repr, Inhabited

/-- A fan drive (R109). `waiting` is the judgement that waits for the event at which an UNKNOWN run-proof input is
debounced (R114, R119). The speed-chain fields of a fixed-speed fan stay 0. -/
structure FanDrive where
  state : RunState
  fault : Option FanFault
  target : Command
  attempts : Nat
  lastFailure : Option FanFault
  runOut : Bool
  startTimer : Option Nat
  stopTimer : Option Nat
  lossTimer : Option Nat
  restartTimer : Option Nat
  rampTimer : Option Nat
  waiting : Bool
  proofUnavailable : Bool
  demand : Nat
  clamped : Nat
  ramped : Nat
  preload : Nat
deriving DecidableEq, Repr, Inhabited

/-- The drive controller of a record: none for an UNUSED record and in CONFIG-FAULT (R1, R13). -/
inductive Drive where
  | none
  | damper (d : DamperDrive)
  | fan (f : FanDrive)
deriving DecidableEq, Repr, Inhabited

/-! ## Zones (R41, R55, R56) -/

/-- The instance mode of a zone (R41). -/
inductive ZoneMode where
  | none | fire | test
deriving DecidableEq, Repr, Inhabited

/-- The phase of a zone (R41). -/
inductive ZonePhase where
  | normal | running | stopped | complete
deriving DecidableEq, Repr, Inhabited

/-- The sub-status of a zone; NONE in NORMAL and RUNNING (R54). -/
inductive SubStatus where
  | none | established | degraded
deriving DecidableEq, Repr, Inhabited

/-- The phase of a current stage (R62). -/
inductive StagePhase where
  | due | gated | settling | proving | finished
deriving DecidableEq, Repr, Inhabited

/-- The outcome of a stage command (R66). -/
inductive CommandOutcome where
  | pending | proven | deferred | shed | failed | skipped
deriving DecidableEq, Repr, Inhabited

/-- The current stage of a zone with an instance (R41, R62). `outcomes` is empty before the issue. -/
structure CurrentStage where
  position : Nat
  stage : Fin 256
  phase : StagePhase
  outcomes : List CommandOutcome
  gateExpired : Bool
  settle : Timer
  window : Timer
  gateWait : Timer
deriving DecidableEq, Repr, Inhabited

/-- The status of a zone claim (R52). -/
inductive ClaimStatus where
  | inForce | displaced | shed
deriving DecidableEq, Repr, Inhabited

/-- An entry of a zone-claim map (R51); its actuator is its place in the map. -/
structure MapEntry where
  cmd : Command
  status : ClaimStatus
deriving DecidableEq, Repr, Inhabited

/-- The reason carried by TEST-START (R48). -/
inductive TestReason where
  | routine | commissioning | afterWorks
deriving DecidableEq, Repr, Inhabited

/-- Why a test ended (R55). -/
inductive EndReason where
  | ended | abortedByAlarm
deriving DecidableEq, Repr, Inhabited

/-- The state of a stage-log entry (R55). -/
inductive LogState where
  | notReached | finished | interrupted
deriving DecidableEq, Repr, Inhabited

/-- An entry of a stage log (R55). -/
structure LogEntry where
  stage : Fin 256
  state : LogState
  gateExpired : Bool
  outcomes : List (Fin 64 × CommandOutcome)
deriving DecidableEq, Repr, Inhabited

/-- The stage log of a running test, with the test reason kept with it (R49). -/
structure TestLog where
  reason : TestReason
  entries : List LogEntry
deriving DecidableEq, Repr, Inhabited

/-- The last test record (R55). -/
structure TestRecord where
  reason : TestReason
  ended : EndReason
  finalPhase : ZonePhase
  failed : Nat
  entries : List LogEntry
deriving DecidableEq, Repr, Inhabited

/-- The last fire-run summary (R56). -/
structure FireSummary where
  finalPhase : ZonePhase
  finalPosition : Nat
  subStatus : SubStatus
  failed : Nat
deriving DecidableEq, Repr, Inhabited

/-- The dynamic part of a zone record (R41, R54). -/
structure ZoneRecord where
  mode : ZoneMode
  phase : ZonePhase
  sourceA : Bool
  sourceB : Bool
  held : Bool
  suspended : Bool
  stage : Option CurrentStage
  failed : Option Nat
  map : Vector (Option MapEntry) 64
  log : Option TestLog
  lastTest : Option TestRecord
  lastFire : Option FireSummary
  subStatus : SubStatus
deriving DecidableEq, Repr, Inhabited

/-! ## The Configuration Store (R181) -/

/-- The three sectors (R181). -/
inductive Sector where
  | identity | plant | sequences
deriving DecidableEq, Repr, Inhabited

/-- The activation state of a sector (R181). -/
inductive Activation where
  | none | writing | pending
deriving DecidableEq, Repr, Inhabited

/-- The bytes of an image of a sector: the bytes that differ from the blank image, at rising offsets. -/
abbrev Image := List Host.Cell

/-- One sector: validity mark, activation state, stored image, staging image (R181). -/
structure SectorState where
  valid : Bool
  activation : Activation
  stored : Image
  staging : Option Image
deriving DecidableEq, Repr, Inhabited

/-- The three sectors. -/
structure Store where
  identity : SectorState
  plant : SectorState
  sequences : SectorState
deriving DecidableEq, Repr, Inhabited

/-- The reason of a failed validation (R190). -/
inductive Reason where
  | range | missingField | speedLimits | terminalTwice | channelUnscaled | stageUnused | stageTwice
  | settleWindow | actuatorUnused | commandKind | actuatorTwice | sequenceMismatch
deriving DecidableEq, Repr, Inhabited

/-! ## Stand-down, starts (R16, R151) -/

/-- The option of a stand-down (R151). -/
inductive StandDownOption where
  | resumeOnly | resumeOnNewAlarm
deriving DecidableEq, Repr, Inhabited

/-- The kind of a start (R16). -/
inductive StartKind where
  | cold | warm
deriving DecidableEq, Repr, Inhabited

/-- The cause of a start (R16). -/
inductive StartCause where
  | power | retainedCheck | supervisor | request
deriving DecidableEq, Repr, Inhabited

/-- The start record (R16). -/
structure StartRecord where
  kind : StartKind
  cause : StartCause
deriving DecidableEq, Repr, Inhabited

/-- Whether the part is without power, running, about to restart because the answer to a RESTART has left its line
(R172), or in a warm restart (R14). -/
inductive PowerState where
  | unpowered | running | restartDue | restarting
deriving DecidableEq, Repr, Inhabited

/-! ## Answers (R169) and what reads show -/

/-- The result code of an answer (R169). -/
inductive Result where
  | done | noChange | refusedRole | refusedRange | refusedForm | refusedState | refusedKey | busy | refusedConfig
deriving DecidableEq, Repr, Inhabited

/-- The placement of a claim (R32, R152). -/
inductive Placement where
  | placed | replaced | same | shed
deriving DecidableEq, Repr, Inhabited

/-- The state of a line (R173). -/
inductive LineState where
  | silent | live | lost
deriving DecidableEq, Repr, Inhabited

/-- A latched fault of an actuator of either kind (R67). -/
inductive ActuatorFault where
  | damper (f : DamperFault)
  | fan (f : FanFault)
deriving DecidableEq, Repr, Inhabited

/-- A claim as READ-ACTUATOR shows it (R36). -/
structure ClaimView where
  src : Source
  level : Nat
  cmd : Command
  concordant : Bool
deriving DecidableEq, Repr, Inhabited

/-- The running timer of a damper as R106 shows it, with its remaining time in tenths of a second. -/
inductive DamperTimerView where
  | none
  | travel (tenths : Nat)
  | deadTime (tenths : Nat)
  | cooldown (tenths : Nat)
  | frozenTravel (tenths : Nat)
deriving DecidableEq, Repr, Inhabited

/-- The drive part of R106. -/
structure DamperView where
  state : DamperState
  position : Position
  fault : Option DamperFault
  openOut : Bool
  closeOut : Bool
  driveOut : Bool
  timer : DamperTimerView
  pending : Option Side
  interrupted : Bool
  lastDirection : Option Side
  reversals : Nat
  restartBar : Option Nat
  openSwitch : Option Debounced
  closedSwitch : Option Debounced
deriving DecidableEq, Repr, Inhabited

/-- The running timer of a fan as R129 shows it. -/
inductive FanTimerView where
  | none
  | startProof (tenths : Nat)
  | stopProof (tenths : Nat)
  | runLoss (tenths : Nat)
  | restartDelay (tenths : Nat)
  | waiting
deriving DecidableEq, Repr, Inhabited

/-- The speed-chain item of R129. -/
structure SpeedView where
  demand : Nat
  clamped : Nat
  ramped : Nat
  preload : Nat
  applied : Nat
  base : Nat
  extension : Nat
deriving DecidableEq, Repr, Inhabited

/-- The pressure item of R129. -/
structure PressureView where
  channel : Fin 16
  value : Option Int
  status : ChannelStatus
  threshold : Nat
deriving DecidableEq, Repr, Inhabited

/-- The drive part of R129. -/
structure FanView where
  state : RunState
  fault : Option FanFault
  attempts : Nat
  restartAttempts : Nat
  lastFailure : Option FanFault
  runOut : Bool
  timer : FanTimerView
  proofInput : Option Debounced
  pressure : Option PressureView
  proofUnavailable : Bool
  speed : Option SpeedView
deriving DecidableEq, Repr, Inhabited

/-- The drive part of a READ-ACTUATOR answer. -/
inductive DriveView where
  | none
  | damper (v : DamperView)
  | fan (v : FanView)
deriving DecidableEq, Repr, Inhabited

/-- What READ-ACTUATOR returns (R36, R106, R129), with the definition in force (R2). -/
structure ActuatorView where
  definition : ActuatorDef
  claims : List ClaimView
  target : Option Command
  fromRest : Bool
  normalShed : Bool
  drive : DriveView
deriving DecidableEq, Repr, Inhabited

/-- A stage timer as READ-ZONE shows it (R81): its remaining time in tenths of a second, none when stopped. -/
structure StageView where
  position : Nat
  stage : Fin 256
  phase : StagePhase
  gateExpired : Bool
  settle : Option Nat
  window : Option Nat
  gateWait : Option Nat
  commands : List (StageCommand × Option CommandOutcome)
deriving DecidableEq, Repr, Inhabited

/-- Part 0 of READ-ZONE (R57, R180). -/
structure ZoneView where
  definition : Option ZoneDef
  mode : ZoneMode
  phase : ZonePhase
  subStatus : SubStatus
  sourceA : Bool
  sourceB : Bool
  held : Bool
  suspended : Bool
  activation : Option Nat
  testReason : Option TestReason
  stage : Option StageView
  failed : Option Nat
  lastFire : Option FireSummary
deriving DecidableEq, Repr, Inhabited

/-- One zone in READ-SUMMARY page 0 (R179). -/
structure ZoneSummary where
  configured : Bool
  mode : ZoneMode
  phase : ZonePhase
  subStatus : SubStatus
  sourceA : Bool
  sourceB : Bool
  held : Bool
  suspended : Bool
deriving DecidableEq, Repr, Inhabited

/-- One sector in READ-SUMMARY page 0 (R181). -/
structure SectorView where
  valid : Bool
  activation : Activation
  staging : Bool
deriving DecidableEq, Repr, Inhabited

/-- Page 0 of READ-SUMMARY (R179, R181). -/
structure SummaryView where
  changeFlag : Bool
  start : StartRecord
  configFault : Bool
  lines : List LineState
  activation : List (Fin 24)
  zones : List ZoneSummary
  overrides : Nat
  standDown : Bool
  standDownOption : Option StandDownOption
  key : Debounced
  keyOn : Bool
  supply : SupplyState
  reading : Nat
  faults : List (Fin 64 × ActuatorFault)
  identity : SectorView
  plant : SectorView
  sequences : SectorView
  siteCode : Option (List Byte)
deriving DecidableEq, Repr, Inhabited

/-- One channel in READ-SUMMARY page 3 (R179). -/
structure ChannelView where
  status : ChannelStatus
  value : Option Int
  average : Option Nat
  codes : Nat
deriving DecidableEq, Repr, Inhabited

/-- The fields of a last test record beside its stage entries (R55). -/
structure TestHeader where
  reason : TestReason
  ended : EndReason
  finalPhase : ZonePhase
  failed : Nat
deriving DecidableEq, Repr, Inhabited

/-- What an answer carries after its result, by the named fields of the owning rule. The bytes of these items in the
answer's frame are `itemBytes` (log 4). -/
inductive AnswerBody where
  /-- The result alone. -/
  | plain
  /-- POLL (R178). -/
  | poll (changeFlag : Bool) (lines : List LineState) (configFault : Bool)
  /-- READ-SUMMARY page 0. -/
  | summary (view : SummaryView)
  /-- READ-SUMMARY pages 1 and 2: debounced state and F of 64 inputs. -/
  | inputs (states : List (Debounced × Nat))
  /-- READ-SUMMARY page 3. -/
  | channels (views : List ChannelView)
  /-- READ-SUMMARY page 4. -/
  | scalings (scalings : List (Option Scaling))
  /-- READ-ZONE part 0. -/
  | zone (view : ZoneView)
  /-- READ-ZONE parts 1 and 2. -/
  | zoneMap (entries : List (Fin 64 × MapEntry))
  /-- READ-ZONE parts 3 to 6: the record's fields and up to four stage entries, or the record absent. -/
  | testPart (record : Option (TestHeader × List LogEntry))
  /-- READ-ACTUATOR. -/
  | actuator (view : ActuatorView)
  /-- ZONE-ALARM and ZONE-RESET (R44, R46): mode, phase, alarm sources A and B. -/
  | zoneState (mode : ZoneMode) (phase : ZonePhase) (sourceA sourceB : Bool)
  /-- NORMAL-SET (R32). -/
  | normalSet (placement : Placement) (target : Option Command)
  /-- NORMAL-RELEASE (R33) and OVERRIDE-RELEASE of one actuator (R154). -/
  | target (target : Option Command)
  /-- NORMAL-GROUP (R35): a placement and a target per pair. -/
  | normalGroup (pairs : List (Placement × Option Command))
  /-- NORMAL-GROUP refused at a pair (R34). -/
  | failingPair (index : Nat)
  /-- OVERRIDE-SET (R152). -/
  | overrideSet (placement : Placement) (shed : Option Source) (target : Option Command)
  /-- OVERRIDE-RELEASE of ALL (R154): the number of claims withdrawn. -/
  | released (count : Nat)
  /-- STAND-DOWN (R156). -/
  | standDown (set : Bool) (option : Option StandDownOption) (held : Nat)
  /-- RESUME (R160). -/
  | resumed (set : Bool)
  /-- FAULT-CLEAR of a damper (R102, R171). -/
  | damperPart (fault : Option DamperFault) (state : DamperState)
  /-- FAULT-CLEAR of a fan (R121, R171). -/
  | fanPart (state : RunState) (fault : Option FanFault) (attempts : Nat)
  /-- CONFIG-READ (R182). -/
  | configRead (valid : Bool) (activation : Activation) (bytes : List Byte)
  /-- CONFIG-WRITE (R183). -/
  | configWrite (sector : Sector) (offset length : Nat)
  /-- CONFIG-ACTIVATE APPLY (R185): the sector, now WRITING. -/
  | writing (sector : Sector)
  /-- A failed validation (R184). -/
  | invalid (item : Nat) (reason : Reason)
deriving DecidableEq, Repr, Inhabited

/-- An answer: the kind code of its request, the result, and the items after it (R164, R169). -/
structure Answer where
  kind : Byte
  result : Result
  body : AnswerBody
deriving DecidableEq, Repr, Inhabited

/-! ## Ports (R163, R165, R169, R173, R176) -/

/-- The reception state of a port (R165). -/
inductive Reception where
  | hunting | receiving | discarding | taking | answering
deriving DecidableEq, Repr, Inhabited

/-- A port: reception state, bytes of the frame being received, gap timer, when the last request was taken, the answer
built and not yet sent whole, the bytes of its frame while it is being sent, line state, supervision timer and supervision time (in tenths), change flag. -/
structure Port where
  reception : Reception
  buffer : List Byte
  gapTimer : Option Nat
  takenAt : Nat
  answer : Option Answer
  sending : List Byte
  line : LineState
  supervisionTimer : Option Nat
  supervisionTime : Nat
  changeFlag : Bool
deriving DecidableEq, Repr, Inhabited

/-! ## The state -/

/-- The whole state of the part, and the queue of commands waiting to be taken. `filters` holds the filter count F of each
input (R134); `scan` is the conversion that the converter completes next, 0 to 15 for the channels and 16 for the
supply (R138). -/
structure State where
  pending : List Instr
  now : Nat
  cutWrites : Nat
  power : PowerState
  configFault : Bool
  start : StartRecord
  store : Store
  siteCode : Option (List Byte)
  plant : PlantImage
  sequences : SequenceImage
  lists : Vector ClaimList 64
  drives : Vector Drive 64
  zones : Vector ZoneRecord 24
  activation : List (Fin 24)
  overrides : Nat
  standDown : Bool
  standDownOption : Option StandDownOption
  inputs : Vector InputState 128
  filters : Vector Nat 128
  key : InputState
  channels : Vector Channel 16
  scan : Fin 17
  supply : SupplyMonitor
  applied : Vector Nat 16
  ports : Vector Port 4
deriving DecidableEq, Repr, Inhabited

/-- No command of this part stops with a fault: where the manual names an error it gives an answer or a latched fault
of an actuator, which are state. So there is no reason a step could fault with (safe: nothing is left to raise one). -/
inductive Fault where
deriving DecidableEq, Repr

/-- The reasons a step can be refused. -/
inductive Refusal where
  /-- Raised by no arm of exec: every row of the table has its meaning. Safe: nothing can be proved from a step
  that is refused. -/
  | notModelled (mnemonic : String)
deriving DecidableEq, Repr

/-! ## Reset -/

/-- A zone record with no instance and no records of past runs (R41, R58). -/
def zoneAtRest : ZoneRecord where
  mode := .none
  phase := .normal
  sourceA := false
  sourceB := false
  held := false
  suspended := false
  stage := none
  failed := none
  map := Vector.replicate 64 none
  log := none
  lastTest := none
  lastFire := none
  subStatus := .none

/-- A sector that holds the blank image under a VALID mark. -/
def blankSector : SectorState where
  valid := true
  activation := .none
  stored := []
  staging := none

/-- An input that no sample has reached (R137). -/
def inputAtReset : InputState where
  candidate := none
  run := 0
  debounced := .unknown

/-- An unscaled channel with an empty window (R143, R145). -/
def channelAtReset : Channel where
  window := []
  lastValid := none
  status := .unused
  value := none

/-- A port after a cold start, with its supervision time in tenths of a second: HUNTING, SILENT, change flag set
(R175, R177). -/
def portAtReset (supervisionTime : Nat) : Port where
  reception := .hunting
  buffer := []
  gapTimer := none
  takenAt := 0
  answer := none
  sending := []
  line := .silent
  supervisionTimer := none
  supervisionTime := supervisionTime
  changeFlag := true

/-- The part right after a cold start on power (R12, R16, R37, R58, R137, R145, R149, R162, R175, R177) whose three sectors
hold their blank images under VALID marks (log 2), with the IDENTITY times of 10 s that R175 gives the image as
delivered, and with an empty queue. -/
def State.reset : State where
  pending := []
  now := 0
  cutWrites := 0
  power := .running
  configFault := false
  start := { kind := .cold, cause := .power }
  store := { identity := blankSector, plant := blankSector, sequences := blankSector }
  siteCode := some (List.replicate 8 0)
  plant := { acts := Vector.replicate 64 .unused, scalings := Vector.replicate 16 none }
  sequences := { zones := Vector.replicate 24 none, stages := Vector.replicate 256 none }
  lists := Vector.replicate 64 { claims := [], target := none, normalShed := false }
  drives := Vector.replicate 64 .none
  zones := Vector.replicate 24 zoneAtRest
  activation := []
  overrides := 0
  standDown := false
  standDownOption := none
  inputs := Vector.replicate 128 inputAtReset
  filters := Vector.replicate 128 1
  key := inputAtReset
  channels := Vector.replicate 16 channelAtReset
  scan := 0
  supply := { state := .ok, count := 0, reading := 0 }
  applied := Vector.replicate 16 0
  ports := #v[portAtReset 100, portAtReset 100, portAtReset 100, portAtReset 0]

end Sys2Proof.Machine
end

