-- ==== Sys2Proof/Config.lean ====
section
/-!
DEFINITION. The FREE VALUES: what the manual leaves open and the machine goes on with. Each is an opaque
constant without a body, so no proof can see a value of it, and a theorem holds whatever it is.
-/

namespace Sys2Proof

/-- FREE VALUE (log 5). The byte that lies at an offset of a sector whose write was cut off: R182 says only that
an INVALID sector "returns the bytes as they lie, which may be a part-written image". The first argument
counts the cut-off writes so far (State.cutWrites), the second is the offset. -/
opaque Config.partWrittenByte : Nat → Nat → Byte

/-- FREE VALUE (log 6). Whether a remaining time that is no whole number of tenths of a second is shown rounded up
in a read. R81, R106 and R129 show times "to 0.1 s" and name no rounding. The argument is the time in
milliseconds. -/
opaque Config.shownTenthRoundsUp : Nat → Bool

/-- FREE VALUE (log 4). How many bytes the items at a place of an answer's body would take where the manual gives them no code; a
frame holds at most as many as R169's body of 120 bytes leaves room for. The second argument counts such places. -/
opaque Config.answerItemCount : Machine.AnswerBody → Nat → Nat

/-- FREE VALUE (log 4). The bytes of the items at a place of an answer's body where the manual gives them no code, by their place and
their number there. -/
opaque Config.answerItemByte : Machine.AnswerBody → Nat → Nat → Byte

end Sys2Proof
end

