-- ==== Sys2Proof/Machine/AnswerFrames.lean ====
section
/-!
DEFINITION. The bytes of an answer's frame: the codes of results (R169), of commands, options and test reasons (R168), of validation
reasons and sectors (R190), the items after the result, and the frame with its CRC (R164).
-/

namespace Sys2Proof.Machine

/-! ## The CRC (R164) -/

/-- One data bit taken into the CRC register. -/
def crcBit (reg : BitVec 16) (bit : Bool) : BitVec 16 :=
  if reg.msb != bit then (reg <<< 1) ^^^ 0x1021 else reg <<< 1

/-- One byte taken into the CRC register, most significant bit first. -/
def crcByte (reg : BitVec 16) (b : Byte) : BitVec 16 := (List.range 8).foldl (fun r i => crcBit r (b.getMsbD i)) reg

/-- The CRC over bytes: the register from FFFFh, with no final inversion. -/
def crc (bytes : List Byte) : BitVec 16 := bytes.foldl crcByte 0xFFFF

/-! ## Codes -/

/-- The result codes (R169). -/
def Result.code : Result → Byte
  | .done => 0x00
  | .noChange => 0x01
  | .refusedRole => 0x10
  | .refusedRange => 0x11
  | .refusedForm => 0x12
  | .refusedState => 0x13
  | .refusedKey => 0x14
  | .busy => 0x15
  | .refusedConfig => 0x16

/-- The validation reason codes (R190). -/
def Reason.code : Reason → Byte
  | .range => 0x01
  | .missingField => 0x02
  | .speedLimits => 0x03
  | .terminalTwice => 0x04
  | .channelUnscaled => 0x05
  | .stageUnused => 0x06
  | .stageTwice => 0x07
  | .settleWindow => 0x08
  | .actuatorUnused => 0x09
  | .commandKind => 0x0A
  | .actuatorTwice => 0x0B
  | .sequenceMismatch => 0x0C

/-- The sector codes (R190). -/
def Sector.code : Sector → Byte
  | .identity => 0x01
  | .plant => 0x02
  | .sequences => 0x03

/-- A number in two bytes, high byte first (R168, R190). -/
def twoByteField (n : Nat) : List Byte := [BitVec.ofNat 8 (n / 256), BitVec.ofNat 8 n]

/-- The command codes (R168). -/
def Command.code : Command → Byte
  | .openPos => 0x01
  | .closedPos => 0x02
  | .off => 0x03
  | .run _ => 0x04

/-- The stand-down option codes (R168). -/
def StandDownOption.code : StandDownOption → Byte
  | .resumeOnly => 0x01
  | .resumeOnNewAlarm => 0x02

/-- The test reason codes (R168). -/
def TestReason.code : TestReason → Byte
  | .routine => 0x01
  | .commissioning => 0x02
  | .afterWorks => 0x03

/-! ## The items of an answer (R168, R169, R190) -/

/-- A part of an answer's items: bytes that the manual's codes give, or items that it names without a code (log 4). -/
inductive Item where
  | coded (bytes : List Byte)
  | uncoded
deriving DecidableEq, Repr, Inhabited

/-- One byte, unsigned: a zone, an actuator or a count (R168). -/
def byteItem (n : Nat) : Item := .coded [BitVec.ofNat 8 n]

/-- A speed, a time in tenths of a second or a 16-bit value, high byte first (R168). -/
def wordItem (n : Nat) : Item := .coded (twoByteField n)

/-- A pressure, two bytes, signed (R168). -/
def pressureItem (p : Int) : Item := .coded (twoByteField (BitVec.ofInt 16 p).toNat)

/-- An item that may be absent: the manual does not code its absence. -/
def optionalItem {α : Type} (item : α → Item) (x : Option α) : List Item :=
  match x with
  | some a => [item a]
  | none => [.uncoded]

/-- A command with its speed field, which R168 gives a meaning with RUN alone. -/
def commandItems : Command → List Item
  | .run speed => [.coded (0x04 :: twoByteField speed)]
  | c => [.coded [c.code], .uncoded]

/-- A target, of an actuator that has one. -/
def targetItems : Option Command → List Item
  | some c => commandItems c
  | none => [.uncoded]

/-- A claim's source: its kind, which has no code, and the number of its zone. -/
def sourceItems : Source → List Item
  | .test z => [.uncoded, byteItem z.val]
  | .fire z => [.uncoded, byteItem z.val]
  | _ => [.uncoded]

/-- A claim in READ-ACTUATOR: source, level, command, CONCORDANT (R36). -/
def claimItems (c : ClaimView) : List Item := sourceItems c.src ++ .uncoded :: commandItems c.cmd ++ [.uncoded]

/-- The remaining time of a damper's running timer (R106). -/
def damperTenths : DamperTimerView → Option Nat
  | .none => none
  | .travel t => some t
  | .deadTime t => some t
  | .cooldown t => some t
  | .frozenTravel t => some t

/-- The remaining time of a fan's running timer (R129). -/
def fanTenths : FanTimerView → Option Nat
  | .startProof t => some t
  | .stopProof t => some t
  | .runLoss t => some t
  | .restartDelay t => some t
  | _ => none

/-- The speed chain in READ-ACTUATOR: D, C and R, the preload and the applied code, and the base and extension counts (R126, R129). -/
def speedItem (v : SpeedView) : Item :=
  .coded ([v.demand, v.clamped, v.ramped, v.preload, v.applied].flatMap twoByteField ++
    [BitVec.ofNat 8 v.base, BitVec.ofNat 8 v.extension])

/-- The items of a channel in READ-SUMMARY page 3: status, value, average, number of codes in the window (R179). -/
def channelItems (v : ChannelView) : List Item :=
  .uncoded :: optionalItem pressureItem v.value ++ optionalItem wordItem v.average ++ [byteItem v.codes]

/-- The items of the drive part of READ-ACTUATOR (R106, R129). -/
def driveItems : DriveView → List Item
  | .none => [.uncoded]
  | .damper v =>
    .uncoded :: optionalItem wordItem (damperTenths v.timer) ++
      .uncoded :: byteItem v.reversals :: optionalItem wordItem v.restartBar ++ [.uncoded]
  | .fan v =>
    .uncoded :: byteItem v.attempts :: byteItem v.restartAttempts :: .uncoded :: optionalItem wordItem (fanTenths v.timer) ++
      .uncoded :: optionalItem pressureItem (v.pressure.bind (·.value)) ++
      .uncoded :: optionalItem wordItem (v.pressure.map (·.threshold)) ++
      .uncoded :: optionalItem speedItem v.speed ++ [.uncoded]

/-- The items of a stage in READ-ZONE part 0: its remaining times, and each command with its outcome (R180). -/
def stageItems (v : StageView) : List Item :=
  .uncoded :: [v.settle, v.window, v.gateWait].flatMap (optionalItem wordItem) ++
    v.commands.flatMap (fun c => byteItem c.1.actuator.val :: commandItems c.1.cmd ++ [.uncoded])

/-- The items of a test's stage entry (R55). -/
def entryItems (e : LogEntry) : List Item := .uncoded :: e.outcomes.flatMap (fun o => [byteItem o.1.val, .uncoded])

/-- The items of a body after the result, in the order that the owning rule names them (R169). The zone, actuator, count, speed,
time, pressure, command, option, reason and sector fields of R168 and R190 are coded; an item that the manual names without a code
is not, and neither are the inputs, the scalings and the map entries, which as such fields would not fit in one body (log 4). -/
def answerItems : AnswerBody → List Item
  | .plain => []
  | .poll _ _ _ => [.uncoded]
  | .summary v =>
    .uncoded :: v.activation.map (fun z => byteItem z.val) ++ .uncoded :: byteItem v.overrides ::
      .uncoded :: optionalItem (fun o => .coded [o.code]) v.standDownOption ++
      .uncoded :: optionalItem .coded v.siteCode ++ [.uncoded]
  | .inputs _ => [.uncoded]
  | .channels vs => vs.flatMap channelItems
  | .scalings _ => [.uncoded]
  | .zone v =>
    .uncoded :: optionalItem (fun r => .coded [r.code]) v.testReason ++
      ((v.stage.map stageItems).getD []) ++ .uncoded :: optionalItem byteItem v.failed ++
      .uncoded :: optionalItem byteItem (v.lastFire.map (·.failed)) ++ [.uncoded]
  | .zoneMap _ => [.uncoded]
  | .testPart none => [.uncoded]
  | .testPart (some (header, entries)) =>
    .uncoded :: .coded [header.reason.code] :: .uncoded :: byteItem header.failed :: entries.flatMap entryItems ++ [.uncoded]
  | .actuator v =>
    .uncoded :: byteItem v.claims.length :: v.claims.flatMap claimItems ++ targetItems v.target ++ .uncoded :: driveItems v.drive
  | .zoneState _ _ _ _ => [.uncoded]
  | .normalSet _ target => .uncoded :: targetItems target
  | .target target => targetItems target
  | .normalGroup pairs => pairs.flatMap (fun p => .uncoded :: targetItems p.2)
  | .failingPair index => [byteItem index]
  | .overrideSet _ shed target => .uncoded :: ((shed.map sourceItems).getD []) ++ .uncoded :: targetItems target
  | .released count => [byteItem count]
  | .standDown _ option held =>
    .uncoded :: optionalItem (fun o => .coded [o.code]) option ++ [byteItem held]
  | .resumed _ => [.uncoded]
  | .damperPart _ _ => [.uncoded]
  | .fanPart _ _ attempts => [.uncoded, byteItem attempts]
  | .configRead _ _ bytes => [.uncoded, .coded bytes]
  | .configWrite sector offset length => [.coded (sector.code :: (twoByteField offset ++ [BitVec.ofNat 8 length]))]
  | .writing sector => [.coded [sector.code], .uncoded]
  | .invalid item reason => [.coded (twoByteField item ++ [reason.code])]

/-- The bytes of the items that the manual codes. -/
def codedBytes (body : AnswerBody) : List Byte :=
  (answerItems body).flatMap (fun
    | .coded bytes => bytes
    | .uncoded => [])

/-- The items laid out one after another. The bytes of the uncoded items are free values, as many at each place as there is room left
for: `place` counts the places and `room` the bytes that the body still leaves to them (log 4). -/
def layOut (body : AnswerBody) : Nat → Nat → List Item → List Byte
  | _, _, [] => []
  | place, room, .coded bytes :: rest => bytes ++ layOut body place room rest
  | place, room, .uncoded :: rest =>
    let count := min (Config.answerItemCount body place) room
    (List.range count).map (Config.answerItemByte body place) ++ layOut body (place + 1) (room - count) rest

/-- The bytes that an answer's items may take: a body of 120 bytes, of which the result code is one (R169). -/
def itemRoom : Nat := 119

/-- The bytes of the items after a result (R169). -/
def itemBytes (body : AnswerBody) : List Byte :=
  (layOut body 0 (itemRoom - (codedBytes body).length) (answerItems body)).take itemRoom

/-! ## The frame (R164, R169) -/

/-- The body of an answer: the result code, then the items (R169). -/
def answerBodyBytes (a : Answer) : List Byte := a.result.code :: itemBytes a.body

/-- The bytes of an answer's frame that its CRC is computed over: role code, body length, kind, body (R164). -/
def answerCovered (line : Line) (a : Answer) : List Byte :=
  line.roleCode :: BitVec.ofNat 8 (answerBodyBytes a).length :: a.kind :: answerBodyBytes a

/-- The frame of an answer on a line: start, covered bytes, CRC high byte first (R164). -/
def answerFrame (line : Line) (a : Answer) : List Byte :=
  startByte :: (answerCovered line a ++ twoByteField (crc (answerCovered line a)).toNat)

/-- The frame of the answer that a port holds. -/
def Port.answerBytes (line : Line) (p : Port) : List Byte := (p.answer.map (answerFrame line)).getD []

end Sys2Proof.Machine
end

