-- ==== Sys2Proof/Machine/Times.lean ====
section
/-!
DEFINITION. The fixed times of the manual in milliseconds, and the conversion of the tenths of a second that definitions
are laid out in (R190).
-/

namespace Sys2Proof.Machine

/-- A configured time, in tenths of a second (R190), in milliseconds of the model's clock. -/
def tenthsToMs (tenths : Nat) : Nat := tenths * 100

/-- The gap timer of a port, 2.0 ms (R165). -/
def gapTime : Nat := 2

/-- An answer begins no sooner than 1.0 ms after the last byte of its request (R169). -/
def answerLead : Nat := 1

/-- The window in which reversals are counted, and the reach of the restart bar, 60 s (R5, R91). -/
def reversalWindow : Nat := 60000

/-- The SWITCH-DISAGREE and LEFT-POSITION timers, 2.0 s (R100). -/
def switchFaultTime : Nat := 2000

/-- The run-loss delay, 5 s (R3). -/
def runLossTime : Nat := 5000

/-- The restart delay, 10 s (R3). -/
def restartDelayTime : Nat := 10000

/-- The ramp timer, 0.25 s (R124). -/
def rampTime : Nat := 250

/-- A line's supervision time, in tenths of a second, where the IDENTITY mark is INVALID: 10 s (R175). -/
def defaultSupervisionTime : Nat := 100

end Sys2Proof.Machine
end

