-- ==== Sys2Proof/Machine/Ops.lean ====
section
/-!
DEFINITION. The named operations on the state: reading and writing a port, a list, a drive, a zone, the clock and the
timers, and the running state of one event (`Work`).
-/

namespace Sys2Proof

/-- The place of a line among the four ports (R163). -/
def Line.idx : Line → Fin 4
  | .panelA => 0
  | .panelB => 1
  | .override => 2
  | .building => 3

end Sys2Proof

namespace Sys2Proof.Machine

/-- What a step answers. -/
abbrev Out := Host.Outcome State Fault Refusal

/-! ## Reading and writing one item of a table -/

/-- The port of a line. -/
def State.port (s : State) (l : Line) : Port := s.ports[l.idx]

/-- Writes the port of a line. -/
def State.setPort (s : State) (l : Line) (p : Port) : State := { s with ports := s.ports.set l.idx p }

/-- The definition of an actuator's record in force (R1). -/
def State.record (s : State) (a : Fin 64) : ActuatorDef := s.plant.acts[a]

/-- The claim list of an actuator (R18). -/
def State.claimList (s : State) (a : Fin 64) : ClaimList := s.lists[a]

/-- Writes the claim list of an actuator. -/
def State.setList (s : State) (a : Fin 64) (l : ClaimList) : State := { s with lists := s.lists.set a l }

/-- The drive controller of an actuator (R1). -/
def State.drive (s : State) (a : Fin 64) : Drive := s.drives[a]

/-- Writes the drive controller of an actuator. -/
def State.setDrive (s : State) (a : Fin 64) (d : Drive) : State := { s with drives := s.drives.set a d }

/-- The record of a zone (R41). -/
def State.zone (s : State) (z : Fin 24) : ZoneRecord := s.zones[z]

/-- Writes the record of a zone. -/
def State.setZone (s : State) (z : Fin 24) (r : ZoneRecord) : State := { s with zones := s.zones.set z r }

/-- The definition of a zone in force; none when unconfigured (R40). -/
def State.zoneDef (s : State) (z : Fin 24) : Option ZoneDef := s.sequences.zones[z]

/-- The stage record of the pool; none when UNUSED (R60). -/
def State.stageDef (s : State) (n : Fin 256) : Option StageDef := s.sequences.stages[n]

/-- The debounced state of an input (R132). -/
def State.reading (s : State) (i : Fin 128) : Debounced := s.inputs[i].debounced

/-- A channel (R139). -/
def State.channel (s : State) (c : Fin 16) : Channel := s.channels[c]

/-- The port's line state is one of the four ports'; all in the order of R178. -/
def State.lineStates (s : State) : List LineState := s.ports.toList.map (·.line)

/-- The key line reads ON when its debounced state is ON, and OFF in every other state (R136). -/
def State.keyOn (s : State) : Bool := s.key.debounced == .on

/-- Every zone is NORMAL: no zone holds an instance (R41, R48, R185). -/
def State.allZonesNormal (s : State) : Bool := s.zones.toList.all (fun z => z.mode == .none)

/-- The state of a sector (R181). -/
def Store.sector (st : Store) : Sector → SectorState
  | .identity => st.identity
  | .plant => st.plant
  | .sequences => st.sequences

/-- Writes the state of a sector. -/
def Store.setSector (st : Store) (sec : Sector) (x : SectorState) : Store :=
  match sec with
  | .identity => { st with identity := x }
  | .plant => { st with plant := x }
  | .sequences => { st with sequences := x }

/-- The sector that is WRITING, if any; at most one is (R181). -/
def Store.writing (st : Store) : Option Sector :=
  [Sector.identity, .plant, .sequences].find? (fun sec => (st.sector sec).activation == .writing)

/-! ## The clock and the timers (log 1) -/

/-- The clock at the expiry of a timer that ends at an instant: an expiry is taken at that instant, or later when the
part has been late in taking it. -/
def State.reach (s : State) (deadline : Nat) : State := { s with now := max s.now deadline }

/-- A timer that runs from now (R69, R71). -/
def startTimer (now duration : Nat) : Timer := .running (now + duration)

/-- A timer frozen now keeps the time it had left, rounded up to the next whole 0.1 s (R77). -/
def freezeTimer (now : Nat) : Timer → Timer
  | .running deadline => .frozen ((deadline - now + 99) / 100 * 100)
  | t => t

/-- A frozen timer runs on from the time it kept (R77). -/
def thawTimer (now : Nat) : Timer → Timer
  | .frozen remaining => .running (now + remaining)
  | t => t

/-- Whether a timer is frozen with no time left (R77, R78). -/
def frozenAtZero : Timer → Bool
  | .frozen 0 => true
  | _ => false

/-- The remaining time of a timer in milliseconds; none when stopped. -/
def remainingMs (now : Nat) : Timer → Option Nat
  | .stopped => none
  | .running deadline => some (deadline - now)
  | .frozen remaining => some remaining

/-! ## The guard of an event -/

/-- A command has its effect only while the part is running; unpowered, or from the moment a warm restart is due until it
ends, the part takes no request, sample, conversion or expiry (R12, R14, R137, R138). -/
def whileRunning (s : State) (effect : State → State) : State :=
  if s.power = .running then effect s else s

/-! ## One event's working state -/

/-- The state inside one event, with the actuators whose drives have handed a change of proven state or a clearing of a
fault that the Sequence Engine has not yet judged for resumption (R75, R98, R122). -/
structure Work where
  st : State
  touched : List (Fin 64)
deriving DecidableEq, Repr, Inhabited

/-- The start of an event. -/
def Work.start (s : State) : Work := { st := s, touched := [] }

/-- Changes the state inside an event. -/
def Work.map (w : Work) (f : State → State) : Work := { w with st := f w.st }

end Sys2Proof.Machine
end

