-- ==== Sys2Proof/Machine/Operands.lean ====
section
/-!
DEFINITION. The operand forms of the requests: body bytes as actuators, zones, commands, options, reasons and sectors
(R1, R40, R168, R190).
-/

namespace Sys2Proof.Machine

/-- An actuator number 0..63 (R1, R168). -/
def actuatorOf (b : Byte) : Option (Fin 64) := if h : b.toNat < 64 then some ⟨b.toNat, h⟩ else none

/-- A zone number 0..23 (R40, R168). -/
def zoneOf (b : Byte) : Option (Fin 24) := if h : b.toNat < 24 then some ⟨b.toNat, h⟩ else none

/-- The number of a configured actuator; none above 63 and for an UNUSED record (R1). -/
def State.configuredActuator (s : State) (b : Byte) : Option (Fin 64) :=
  match actuatorOf b with
  | none => none
  | some a => if s.record a = .unused then none else some a

/-- The number of a configured zone; none above 23 and for an unconfigured zone (R40). -/
def State.configuredZone (s : State) (b : Byte) : Option (Fin 24) :=
  match zoneOf b with
  | none => none
  | some z => if (s.zoneDef z).isSome then some z else none

/-- The command code with its speed field, which is read with RUN alone; none for a code outside 01h to 04h (R168). -/
def commandOf (code : Byte) (speed : Half) : Option Command :=
  if code = 0x01 then some .openPos
  else if code = 0x02 then some .closedPos
  else if code = 0x03 then some .off
  else if code = 0x04 then some (.run speed.toNat)
  else none

/-- Whether a command's kind matches an actuator's kind (R1). -/
def kindMatches : ActuatorDef → Command → Bool
  | .fan _, .off => true
  | .fan _, .run _ => true
  | .reversing _, .openPos => true
  | .reversing _, .closedPos => true
  | .spring _, .openPos => true
  | .spring _, .closedPos => true
  | _, _ => false

/-- The command of a request where its code is defined and its kind matches the actuator's; none is refused
REFUSED-FORM (R1, R168). -/
def matchingCommand (d : ActuatorDef) (code : Byte) (speed : Half) : Option Command :=
  match commandOf code speed with
  | none => none
  | some c => if kindMatches d c then some c else none

/-- A RUN speed above 1000 is taken as 1000 on the Building Line (R32). -/
def capSpeed : Command → Command
  | .run speed => .run (min speed 1000)
  | c => c

/-- A RUN speed is 0..1000, or there is no speed (R152). -/
def speedInRange : Command → Bool
  | .run speed => decide (speed ≤ 1000)
  | _ => true

/-- The stand-down option codes (R168). -/
def standDownOptionOf (b : Byte) : Option StandDownOption :=
  if b = 0x01 then some .resumeOnly else if b = 0x02 then some .resumeOnNewAlarm else none

/-- The test reason codes (R168). -/
def testReasonOf (b : Byte) : Option TestReason :=
  if b = 0x01 then some .routine
  else if b = 0x02 then some .commissioning
  else if b = 0x03 then some .afterWorks
  else none

/-- The sector codes (R190). -/
def sectorOf (b : Byte) : Option Sector :=
  if b = 0x01 then some .identity
  else if b = 0x02 then some .plant
  else if b = 0x03 then some .sequences
  else none

/-- A two-byte field, high byte first (R168). -/
def halfOf (hi lo : Byte) : Half := hi ++ lo

/-- The position a command or a rest value stands for on a damper. -/
def sideOf : Command → Option Side
  | .openPos => some .openSide
  | .closedPos => some .closedSide
  | _ => none

/-- The command of a damper position. -/
def Side.command : Side → Command
  | .openSide => .openPos
  | .closedSide => .closedPos

/-- The other position. -/
def Side.other : Side → Side
  | .openSide => .closedSide
  | .closedSide => .openSide

end Sys2Proof.Machine
end

