-- ==== Sys2Proof/Machine/Inputs.lean ====
section
/-!
DEFINITION. The field inputs, the key line, the analog channels and the supply monitor by themselves: bands and debounce
(R132 to R136), window, scaling and judgement (R139 to R143), supply readings and states (R146, R147).
-/

namespace Sys2Proof.Machine

/-- The band of a sense current, given in microamperes (R132, log 9). -/
def bandOf (current : Nat) : Band :=
  if current < 1500 then .openCircuit
  else if current < 5000 then .off
  else if current < 16000 then .on
  else .short

/-- The debounced state a band gives (R133). -/
def Band.debounced : Band → Debounced
  | .openCircuit => .openFault
  | .off => .off
  | .on => .on
  | .short => .shortFault

/-- The run of consecutive samples stops counting at 15 (R132). -/
def maxRun : Nat := 15

/-- One sample with filter count F: candidate, run, and the debounced state judged at the same event (R132, R133). -/
def sampleInput (filterCount : Nat) (st : InputState) (current : Nat) : InputState :=
  let band := bandOf current
  let run := if st.candidate = some band then min (st.run + 1) maxRun else 1
  { candidate := some band
    run := run
    debounced := if filterCount ≤ run then band.debounced else st.debounced }

/-- The key line's filter count (R136). -/
def keyFilterCount : Nat := 5

/-- A switch or run-proof reading in a fault band. -/
def Debounced.faulted : Debounced → Bool
  | .openFault => true
  | .shortFault => true
  | _ => false

/-- A switch is healthy when it reads ON or OFF (R96). -/
def Debounced.healthy : Debounced → Bool
  | .on => true
  | .off => true
  | _ => false

/-- The inputs a record names, with their filter counts (R7, R134). -/
def namedInputs : ActuatorDef → List InputRef
  | .unused => []
  | .fan d => d.proofInput.toList
  | .reversing d => d.openSwitch.toList ++ d.closedSwitch.toList
  | .spring d => d.openSwitch.toList ++ d.closedSwitch.toList

/-- The record of a PLANT image that names an input, if any: each input is named at most once (R9, R135). -/
def PlantImage.namingRecord (p : PlantImage) (i : Fin 128) : Option (Fin 64) :=
  (List.finRange 64).find? (fun a => (namedInputs p.acts[a]).any (fun r => r.input == i))

/-- The filter count that a PLANT image gives an input: the one given with it by the record that names it, 1 where none does
(R134). -/
def PlantImage.filterCount (p : PlantImage) (i : Fin 128) : Nat :=
  match p.namingRecord i with
  | none => 1
  | some a =>
    match (namedInputs p.acts[a]).find? (fun r => r.input == i) with
    | none => 1
    | some r => r.count

/-- The filter counts of a PLANT image, which its application and its loading at a cold start put in force (R134). -/
def PlantImage.filters (p : PlantImage) : Vector Nat 128 := Vector.ofFn p.filterCount

/-- The record in force that names an input, if any (R9, R135). -/
def State.namingRecord (s : State) (i : Fin 128) : Option (Fin 64) := s.plant.namingRecord i

/-- The filter count F of an input (R132, R134). -/
def State.filterCount (s : State) (i : Fin 128) : Nat := s.filters[i]

/-! ## Channels -/

/-- The window is full with 4 codes (R139). -/
def windowSize : Nat := 4

/-- Appends a code at the tail; the oldest of 5 is dropped (R139). -/
def pushCode (window : List Nat) (code : Nat) : List Nat :=
  let longer := window ++ [code]
  longer.drop (longer.length - windowSize)

/-- The average of a full window, floored; a window that is not full has none (R139). -/
def windowAverage (window : List Nat) : Option Nat :=
  if window.length = windowSize then some (window.sum / windowSize) else none

/-- A quotient rounded to the nearest whole number, half away from zero (R141). -/
def roundHalfAway (num : Int) (den : Nat) : Int :=
  if num < 0 then -(((2 * num.natAbs + den) / (2 * den) : Nat) : Int)
  else (((2 * num.natAbs + den) / (2 * den) : Nat) : Int)

/-- The raw value of an average under a scaling (R141). -/
def rawValue (sc : Scaling) (avg : Nat) : Int :=
  sc.elo + roundHalfAway (((avg : Int) - (sc.clo : Int)) * (sc.ehi - sc.elo)) (sc.chi - sc.clo)

/-- The raw value clamped to the span (R142 case 3). -/
def clampToSpan (sc : Scaling) (v : Int) : Int :=
  if v < min sc.elo sc.ehi then min sc.elo sc.ehi
  else if max sc.elo sc.ehi < v then max sc.elo sc.ehi
  else v

/-- The margin of codes on either side of the span (R142). -/
def spanMargin : Nat := 20

/-- A channel judged from its window and last valid value under its scaling (R142, R143). -/
def judgeChannel (scaling : Option Scaling) (c : Channel) : Channel :=
  match scaling with
  | none => { c with status := .unused, value := none }
  | some sc =>
    match windowAverage c.window with
    | none => { c with status := .unknown, value := none }
    | some avg =>
      if avg + spanMargin < sc.clo then { c with status := .underRange, value := c.lastValid }
      else if sc.chi + spanMargin < avg then { c with status := .overRange, value := c.lastValid }
      else
        let v := clampToSpan sc (rawValue sc avg)
        { c with status := .valid, value := some v, lastValid := some v }

/-- Whether a judgement changed what a channel's readers see, so that a notice is handed on (R143). -/
def channelChanged (old new : Channel) : Bool := old.status != new.status || old.value != new.value

/-! ## The supply monitor -/

/-- The class of a supply reading (R146). -/
inductive SupplyClass where
  | lowReading | between | okReading
deriving DecidableEq, Repr, Inhabited

/-- The supply reading in tenths of a volt: code × 400 / 1023, rounded half up (R146). -/
def supplyReading (code : Nat) : Nat := (code * 800 + 1023) / 2046

/-- The class of a reading in tenths of a volt (R146). -/
def supplyClass (reading : Nat) : SupplyClass :=
  if reading < 190 then .lowReading else if reading < 210 then .between else .okReading

/-- A change needs three confirming readings in a row (R147). -/
def confirmingReadings : Nat := 3

/-- The monitor after a reading (R147). -/
def supplyAfter (m : SupplyMonitor) (reading : Nat) : SupplyMonitor :=
  let confirms := match m.state, supplyClass reading with
    | .ok, .lowReading => true
    | .low, .okReading => true
    | _, _ => false
  if confirms then
    if m.count + 1 < confirmingReadings then { m with count := m.count + 1, reading := reading }
    else
      { state := (match m.state with | .ok => .low | .low => .ok), count := 0, reading := reading }
  else { m with count := 0, reading := reading }

end Sys2Proof.Machine
end

