-- ==== Sys2Proof/Machine/Damper.lean ====
section
/-!
DEFINITION. A damper drive controller by itself: reversing and spring drives, dead time, reversals and cooldown, travel,
proven position, faults and supply loss (R85 to R108). Each operation takes what the drive sees at the event (`DamperCtx`)
and the drive; `damperFinish` then judges the position and the LEFT-POSITION timer at the end of the event.
-/

namespace Sys2Proof.Machine

/-- What a record gives its damper drive beyond its kind: a reversing drive's dead time in milliseconds and reversal limit
(R5), a spring drive's fail position (R6). -/
inductive DamperKind where
  | reversing (deadTime limit : Nat)
  | spring (fail : Side)
deriving DecidableEq, Repr, Inhabited

/-- What a damper drive sees at an event: kind, proof mode, the debounced states of the switches its mode names, travel
limit in milliseconds, and the clock. -/
structure DamperCtx where
  kind : DamperKind
  mode : ProofMode
  openSwitch : Option Debounced
  closedSwitch : Option Debounced
  travelLimit : Nat
  now : Nat
deriving DecidableEq, Repr, Inhabited

/-! ## What the drive shows -/

/-- The switch of a side, where the proof mode names one (R7). -/
def DamperCtx.switch (ctx : DamperCtx) : Side → Option Debounced
  | .openSide => ctx.openSwitch
  | .closedSide => ctx.closedSwitch

/-- Whether some named switch reads UNKNOWN. -/
def DamperCtx.anyUnknown (ctx : DamperCtx) : Bool :=
  ctx.openSwitch == some .unknown || ctx.closedSwitch == some .unknown

/-- Whether some named switch reads a fault band (R102). -/
def DamperCtx.anyFaulted (ctx : DamperCtx) : Bool :=
  (ctx.openSwitch.map Debounced.faulted).getD false || (ctx.closedSwitch.map Debounced.faulted).getD false

/-- Whether both switches of a BOTH-SWITCHES damper read ON (R100). -/
def DamperCtx.bothOn (ctx : DamperCtx) : Bool :=
  ctx.mode == .bothSwitches && ctx.openSwitch == some .on && ctx.closedSwitch == some .on

/-- The direction a drive is travelling in (R85). -/
def drivingSide : DamperState → Option Side
  | .drivingOpen => some .openSide
  | .drivingClose => some .closedSide
  | _ => none

/-- The driving state toward a side (R85). -/
def Side.driving : Side → DamperState
  | .openSide => .drivingOpen
  | .closedSide => .drivingClose

/-- The plain position of a side. -/
def Side.position : Side → Position
  | .openSide => .openPos
  | .closedSide => .closedPos

/-- The by-time position of a side (R95, R97). -/
def Side.byTime : Side → Position
  | .openSide => .openByTime
  | .closedSide => .closedByTime

/-- Whether a proven position proves a damper at a side: a BY-TIME position proves a TIMED damper alone (R53). -/
def positionProves (mode : ProofMode) (position : Position) (side : Side) : Bool :=
  position == side.position || (mode == .timed && position == side.byTime)

/-- The single-switch table of R96 for the switch of a side. -/
def singleSwitchPosition (side : Side) (switch : Option Debounced) (arrival : Bool) : Position :=
  match switch with
  | some .on => side.position
  | some .off => if arrival then side.other.position else .moving
  | _ => .unknown

/-- The position the switches show (R96). The unswitched-arrival mark is one of the single-switch modes (R85). -/
def switchPosition (ctx : DamperCtx) (arrival : Bool) : Position :=
  match ctx.mode with
  | .openSwitch => singleSwitchPosition .openSide ctx.openSwitch arrival
  | .closedSwitch => singleSwitchPosition .closedSide ctx.closedSwitch arrival
  | .timed => .unknown
  | .bothSwitches =>
    match ctx.openSwitch, ctx.closedSwitch with
    | some .on, some .off => .openPos
    | some .off, some .on => .closedPos
    | some .off, some .off => .moving
    | some .on, some .on => .moving
    | some .on, _ => singleSwitchPosition .openSide (some .on) false
    | some .off, _ => singleSwitchPosition .openSide (some .off) false
    | _, c => singleSwitchPosition .closedSide c false

/-- A BY-TIME position of a switch-mode damper is kept until the switch of its side reads ON or OFF again (R97). -/
def keepsByTime (ctx : DamperCtx) (position : Position) : Bool :=
  match position with
  | .openByTime => !((ctx.openSwitch.map Debounced.healthy).getD false)
  | .closedByTime => !((ctx.closedSwitch.map Debounced.healthy).getD false)
  | _ => false

/-- The proven position at the end of an event (R95, R96, R97, R108). -/
def judgePosition (ctx : DamperCtx) (d : DamperDrive) : Position :=
  if (drivingSide d.state).isSome then .moving
  else if ctx.mode = .timed then d.position
  else if d.keptPosition && ctx.anyUnknown then d.position
  else if keepsByTime ctx d.position then d.position
  else switchPosition ctx d.unswitchedArrival

/-! ## The LEFT-POSITION timer and the end of an event -/

/-- LEFT-POSITION at the end of an event (R100): cancelled when the drive is not IDLE, when the position has returned and
when a named switch reads UNKNOWN; started when the position changes away from the one proven at the target, in IDLE
with no fault latched. -/
def judgeLeft (ctx : DamperCtx) (before after : DamperDrive) : DamperDrive :=
  if after.state ≠ .idle ∨ ctx.anyUnknown = true ∨ after.leftFrom = some after.position then
    { after with leftTimer := none, leftFrom := none }
  else if after.leftTimer.isNone && before.state == .idle && ctx.mode != .timed && after.fault.isNone &&
      before.position != after.position && positionProves ctx.mode before.position before.target then
    { after with leftTimer := some (ctx.now + switchFaultTime), leftFrom := some before.position }
  else after

/-- The end of an event of a damper drive: the position is judged, a kept position lapses once every named switch has been
debounced (R96), and the LEFT-POSITION timer is judged. -/
def damperFinish (ctx : DamperCtx) (before after : DamperDrive) : DamperDrive :=
  judgeLeft ctx before
    { after with position := judgePosition ctx after, keptPosition := after.keptPosition && ctx.anyUnknown }

/-! ## Outputs and movements -/

/-- Both outputs of a reversing drive go off; off-since is the event that de-energizes one (R86). A spring drive's output
is not touched: it follows R93. -/
def outputsOff (ctx : DamperCtx) (d : DamperDrive) : DamperDrive :=
  { d with
    openOut := false
    closeOut := false
    offSince := if d.openOut || d.closeOut then some ctx.now else d.offSince }

/-- Starts travel toward a side for a time (R85, R86, R95). For a reversing drive the output of that side is energized and
becomes the last energized direction; every mark and timer of the former state ends. A movement that starts with both
switches ON is ended by SWITCH-DISAGREE (R89): R100 names no event for its timer where neither switch changes, and the
model starts it, if it is not running, with the movement (DEDUCED, unsafe, log 20). -/
def driveFor (ctx : DamperCtx) (side : Side) (duration : Nat) (d : DamperDrive) : DamperDrive :=
  let d := match ctx.kind with
    | .reversing _ _ =>
      { d with
        openOut := side == Side.openSide
        closeOut := side == Side.closedSide
        lastDirection := some side }
    | .spring _ => d
  { d with
    state := side.driving
    travel := .running (ctx.now + duration)
    position := .moving
    deadTimer := none
    coolTimer := none
    pending := none
    interrupted := false
    remembered := none
    unswitchedArrival := false
    endWaits := false
    disagreeTimer := if ctx.bothOn then some (d.disagreeTimer.getD (ctx.now + switchFaultTime)) else d.disagreeTimer }

/-- Starts travel for the full travel limit. -/
def driveToward (ctx : DamperCtx) (side : Side) (d : DamperDrive) : DamperDrive :=
  driveFor ctx side ctx.travelLimit d

/-- A movement, a dead time, a cooldown or a suspension ends in IDLE with a reversing drive's outputs off (R89, R90, R99). -/
def toIdle (ctx : DamperCtx) (d : DamperDrive) : DamperDrive :=
  { outputsOff ctx d with
    state := .idle
    travel := .stopped
    deadTimer := none
    coolTimer := none
    pending := none
    interrupted := false
    remembered := none }

/-- Entry to DEAD-TIME with the full dead time (R87 case 3, R88, R104 case 3). -/
def toDeadTime (ctx : DamperCtx) (deadTime : Nat) (toward : Side) (mark : Bool) (d : DamperDrive) : DamperDrive :=
  { outputsOff ctx d with
    state := .deadTime
    travel := .stopped
    deadTimer := some (ctx.now + deadTime)
    coolTimer := none
    pending := some toward
    interrupted := mark
    remembered := none }

/-- Entry of a reversing drive to SUSPENDED (R87 case 2, R103). -/
def toSuspended (ctx : DamperCtx) (remembered : Side) (remaining : Nat) (mark : Bool) (d : DamperDrive) : DamperDrive :=
  { outputsOff ctx d with
    state := .suspended
    travel := .frozen remaining
    deadTimer := none
    coolTimer := none
    pending := none
    interrupted := mark
    remembered := some remembered }

/-- A TIMED damper's position becomes UNKNOWN at an interruption and at entry to SUSPENDED from travel or from an energized
spring (R88, R95, R103, R105). -/
def loseTimed (ctx : DamperCtx) (d : DamperDrive) : DamperDrive :=
  if ctx.mode = .timed then { d with position := .unknown } else d

/-- The damper is proven at its target (R53). -/
def atTarget (ctx : DamperCtx) (d : DamperDrive) : Bool := positionProves ctx.mode d.position d.target

/-! ## Faults (R99 to R102) -/

/-- Latches a fault if none is latched (R99). -/
def latchIfNone (f : DamperFault) (d : DamperDrive) : DamperDrive :=
  { d with fault := if d.fault.isSome then d.fault else some f }

/-- A stopping fault: not recorded while a fault is latched; otherwise latched, and the drive stops (R99). -/
def latchStopping (ctx : DamperCtx) (f : DamperFault) (d : DamperDrive) : DamperDrive :=
  if d.fault.isSome then d else { toIdle ctx d with fault := some f }

/-- Whether a drive stands stopped by a latched fault: each kind but INPUT-FAULT stops a drive (R99). -/
def stoppedByFault (d : DamperDrive) : Bool :=
  match d.fault with
  | none => false
  | some .inputFault => false
  | some .travelTimeout => true
  | some .switchDisagree => true
  | some .leftPosition => true

/-! ## Target changes (R87, R88, R93) -/

/-- A reversing drive in IDLE sent toward its target (R87): the four cases. -/
def reversingFromIdle (ctx : DamperCtx) (deadTime : Nat) (d : DamperDrive) : DamperDrive :=
  if atTarget ctx d then d
  else if d.supply = .low then toSuspended ctx d.target ctx.travelLimit false d
  else if d.lastDirection ≠ some d.target ∧ (d.offSince.map (fun t => decide (ctx.now - t < deadTime))).getD false = true then
    toDeadTime ctx deadTime d.target false d
  else driveToward ctx d.target d

/-- A reversing drive's act on a target that has just become its own (R87, R88). -/
def reversingToTarget (ctx : DamperCtx) (deadTime : Nat) (d : DamperDrive) : DamperDrive :=
  match d.state with
  | .idle => reversingFromIdle ctx deadTime d
  | .drivingOpen =>
    if d.target = .openSide then d else loseTimed ctx (toDeadTime ctx deadTime d.target true d)
  | .drivingClose =>
    if d.target = .closedSide then d else loseTimed ctx (toDeadTime ctx deadTime d.target true d)
  | .deadTime => { d with pending := some d.target }
  | .cooldown =>
    if atTarget ctx d then toIdle ctx d else driveToward ctx (d.lastDirection.getD d.target) d
  | .suspended => d

/-- A spring drive's act on its target (R93): the output follows the target at once. -/
def springToTarget (ctx : DamperCtx) (fail : Side) (d : DamperDrive) : DamperDrive :=
  let d := { d with driveOut := d.target != fail }
  if d.state = .idle ∧ atTarget ctx d = true then d
  else if d.supply = .low then { d with state := .suspended, travel := .stopped }
  else driveToward ctx d.target d

/-- The act of a drive of either kind on its target. -/
def toTarget (ctx : DamperCtx) (d : DamperDrive) : DamperDrive :=
  match ctx.kind with
  | .reversing deadTime _ => reversingToTarget ctx deadTime d
  | .spring fail => springToTarget ctx fail d

/-- A target change, which for a damper is a position change: the latched fault is cleared first (R87, R88, R93, R102). -/
def damperTarget (target : Side) (ctx : DamperCtx) (d : DamperDrive) : DamperDrive :=
  toTarget ctx { d with target := target, fault := none }

/-! ## Timer expiries (R89 to R92, R94) -/

/-- The end of travel by the expiry of the travel timer, toward a side (R89, R94, R95, R96, R97). -/
def travelEnd (side : Side) (ctx : DamperCtx) (d : DamperDrive) : DamperDrive :=
  let d := toIdle ctx d
  if ctx.mode = .timed then { d with position := side.byTime }
  else
    match ctx.switch side with
    | some r =>
      if r.faulted then latchIfNone .inputFault { d with position := side.byTime }
      else latchIfNone .travelTimeout d
    | none =>
      match ctx.switch side.other with
      | some .off => { d with unswitchedArrival := true }
      | some .on => latchIfNone .travelTimeout d
      | some .unknown => { d with endWaits := true }
      | _ => d

/-- The travel timer expires; only a travelling drive has one running. -/
def travelExpiry (ctx : DamperCtx) (d : DamperDrive) : DamperDrive :=
  match drivingSide d.state with
  | some side => travelEnd side ctx d
  | none => d

/-- The age of a time. -/
def youngerThanWindow (now t : Nat) : Bool := decide (now - t < reversalWindow)

/-- A reversal that is due (R91): entries of 60.0 s or more are removed, a lapsed restart bar is removed, and the reversal is
started and recorded, or held in COOLDOWN until the oldest entry or the bar reaches 60.0 s (R92). -/
def judgeReversal (ctx : DamperCtx) (limit : Nat) (toward : Side) (d : DamperDrive) : DamperDrive :=
  let history := d.history.filter (youngerThanWindow ctx.now)
  let bar := d.restartBar.filter (youngerThanWindow ctx.now)
  let d := { d with history := history, restartBar := bar }
  let cooldown (ends : Nat) : DamperDrive :=
    { d with state := .cooldown, deadTimer := none, coolTimer := some ends, pending := some toward, interrupted := true }
  match bar with
  | some t => cooldown (t + reversalWindow)
  | none =>
    if history.length < limit then
      { driveToward ctx toward d with history := history ++ [ctx.now] }
    else cooldown (history.headD ctx.now + reversalWindow)

/-- The end of a dead time, and of a cooldown, of a reversing drive (R90, R92): the four cases. -/
def pauseEnd (limit : Nat) (ctx : DamperCtx) (d : DamperDrive) : DamperDrive :=
  let toward := d.pending.getD d.target
  if atTarget ctx d then toIdle ctx d
  else if d.lastDirection = some toward then driveToward ctx toward d
  else if d.lastDirection = some toward.other ∧ d.interrupted = true then judgeReversal ctx limit toward d
  else driveToward ctx toward d

/-- The dead-time timer of a reversing drive expires (R90). -/
def deadTimeEnd (ctx : DamperCtx) (d : DamperDrive) : DamperDrive :=
  match ctx.kind with
  | .reversing _ limit => pauseEnd limit ctx { d with deadTimer := none }
  | .spring _ => d

/-- The cooldown timer of a reversing drive expires: as at a dead-time expiry with the mark still set (R92). -/
def cooldownEnd (ctx : DamperCtx) (d : DamperDrive) : DamperDrive :=
  match ctx.kind with
  | .reversing _ limit => pauseEnd limit ctx { d with coolTimer := none, interrupted := true }
  | .spring _ => d

/-- The SWITCH-DISAGREE timer expires (R100). -/
def disagreeEnd (ctx : DamperCtx) (d : DamperDrive) : DamperDrive :=
  latchStopping ctx .switchDisagree { d with disagreeTimer := none }

/-- The LEFT-POSITION timer expires (R100). -/
def leftEnd (ctx : DamperCtx) (d : DamperDrive) : DamperDrive :=
  latchStopping ctx .leftPosition { d with leftTimer := none, leftFrom := none }

/-! ## Switch inputs (R89, R96, R97, R100, R101) -/

/-- The judgement of a travel end that waited for an UNKNOWN switch (R96); TRAVEL-TIMEOUT stops the drive in the state it has
come to since (R99). -/
def settleEndWait (reading : Debounced) (ctx : DamperCtx) (d : DamperDrive) : DamperDrive :=
  if d.endWaits && reading != .unknown then
    let d := { d with endWaits := false }
    match reading with
    | .off => { d with unswitchedArrival := true }
    | .on => latchStopping ctx .travelTimeout d
    | _ => d
  else d

/-- A new debounced state of the switch of a side; the context already holds it (R89, R96, R100, R101). -/
def switchChanged (side : Side) (reading : Debounced) (ctx : DamperCtx) (d : DamperDrive) : DamperDrive :=
  let d := if reading.faulted then latchIfNone .inputFault d else d
  let d := if drivingSide d.state = some side ∧ reading = .on then toIdle ctx d else d
  let d := settleEndWait reading ctx d
  let d := if reading = .on then { d with unswitchedArrival := false } else d
  { d with disagreeTimer := if ctx.bothOn then some (d.disagreeTimer.getD (ctx.now + switchFaultTime)) else none }

/-! ## FAULT-CLEAR (R102) -/

/-- FAULT-CLEAR: the fault is cleared, INPUT-FAULT is latched again while a named switch reads a fault band, and an IDLE
drive that is not proven at its target is driven as on a target change (R102). -/
def damperFaultClear (ctx : DamperCtx) (d : DamperDrive) : DamperDrive :=
  let d := { d with fault := if ctx.anyFaulted then some .inputFault else none }
  if d.state = .idle ∧ atTarget ctx d = false then toTarget ctx d else d

/-- The damper part of the answer is DONE when a fault was latched or a movement was started (R102). -/
def damperClearDone (before after : DamperDrive) : Bool :=
  before.fault.isSome || ((drivingSide before.state).isNone && (drivingSide after.state).isSome)

/-! ## Supply loss (R103 to R105) -/

/-- SUPPLY-LOW at a reversing drive (R103). -/
def reversingSupplyLow (ctx : DamperCtx) (d : DamperDrive) : DamperDrive :=
  match d.state with
  | .drivingOpen => loseTimed ctx (toSuspended ctx .openSide ((remainingMs ctx.now d.travel).getD ctx.travelLimit) true d)
  | .drivingClose => loseTimed ctx (toSuspended ctx .closedSide ((remainingMs ctx.now d.travel).getD ctx.travelLimit) true d)
  | .deadTime =>
    toSuspended ctx (d.lastDirection.getD (d.pending.getD d.target)) ctx.travelLimit d.interrupted d
  | .cooldown =>
    toSuspended ctx (d.lastDirection.getD (d.pending.getD d.target)) ctx.travelLimit d.interrupted d
  | .idle => d
  | .suspended => d

/-- SUPPLY-LOW at a spring drive (R105): an IDLE drive with its output energized is suspended, also with a stopping fault
latched, which R105 does not except (DEDUCED, unsafe, log 20). -/
def springSupplyLow (ctx : DamperCtx) (d : DamperDrive) : DamperDrive :=
  if (d.state = .idle ∧ d.driveOut = true) ∨ (drivingSide d.state).isSome = true then
    loseTimed ctx { d with state := .suspended, travel := .stopped }
  else d

/-- SUPPLY-LOW at a damper drive. -/
def damperSupplyLow (ctx : DamperCtx) (d : DamperDrive) : DamperDrive :=
  let d := { d with supply := .low }
  match ctx.kind with
  | .reversing _ _ => reversingSupplyLow ctx d
  | .spring _ => springSupplyLow ctx d

/-- SUPPLY-OK at a reversing drive (R104): the three cases of a drive in SUSPENDED. -/
def reversingSupplyOk (ctx : DamperCtx) (deadTime : Nat) (d : DamperDrive) : DamperDrive :=
  if d.state = .suspended then
    if atTarget ctx d then toIdle ctx d
    else if d.remembered = some d.target ∧ (d.lastDirection = some d.target ∨ d.lastDirection = none) then
      driveFor ctx d.target ((remainingMs ctx.now d.travel).getD ctx.travelLimit) d
    else toDeadTime ctx deadTime d.target d.interrupted d
  else d

/-- SUPPLY-OK at a spring drive (R105). With a stopping fault latched the drive goes IDLE and waits for the clearing: R105 would
have it driven, and R99 lets it start no movement of its own (DEDUCED, unsafe, log 20). -/
def springSupplyOk (ctx : DamperCtx) (d : DamperDrive) : DamperDrive :=
  if d.state = .suspended then
    if atTarget ctx d || stoppedByFault d then toIdle ctx d else driveToward ctx d.target d
  else d

/-- SUPPLY-OK at a damper drive. -/
def damperSupplyOk (ctx : DamperCtx) (d : DamperDrive) : DamperDrive :=
  let d := { d with supply := .ok }
  match ctx.kind with
  | .reversing deadTime _ => reversingSupplyOk ctx deadTime d
  | .spring _ => springSupplyOk ctx d

/-! ## Creation and warm restart (R107, R108) -/

/-- A new controller (R107), before its first target is handed. -/
def newDamper (ctx : DamperCtx) (rest : Side) (supply : SupplyState) (since : Option Nat) : DamperDrive where
  state := .idle
  position := if ctx.mode = .timed then .unknown else switchPosition ctx false
  fault := none
  target := rest
  travel := .stopped
  deadTimer := none
  coolTimer := none
  lastDirection := none
  offSince := match ctx.kind with | .reversing _ _ => since | .spring _ => none
  pending := none
  interrupted := false
  remembered := none
  history := []
  restartBar := match ctx.kind with | .reversing _ _ => since | .spring _ => none
  unswitchedArrival := false
  endWaits := false
  keptPosition := false
  supply := supply
  openOut := false
  closeOut := false
  driveOut := false
  disagreeTimer := none
  leftTimer := none
  leftFrom := none

/-- A new controller that has been handed its REST value as its first target (R107). `since` is the application event at a
PLANT application, and absent at a cold start and at the end of CONFIG-FAULT. -/
def createDamper (ctx : DamperCtx) (rest : Side) (supply : SupplyState) (since : Option Nat) : DamperDrive :=
  let d := newDamper ctx rest supply since
  damperFinish ctx d (toTarget ctx d)

/-- The end of a warm restart (R108): running timers at full length, a frozen travel kept, the history emptied, the fault
timers cancelled, the restart bar set to this event, and the position kept until the switches have been debounced. -/
def damperRestarted (ctx : DamperCtx) (d : DamperDrive) : DamperDrive :=
  { d with
    travel := match d.travel with
      | .running _ => .running (ctx.now + ctx.travelLimit)
      | t => t
    deadTimer := match ctx.kind with
      | .reversing deadTime _ => d.deadTimer.map (fun _ => ctx.now + deadTime)
      | .spring _ => d.deadTimer
    coolTimer := d.coolTimer.map (fun _ => ctx.now + reversalWindow)
    history := []
    restartBar := match ctx.kind with
      | .reversing _ _ => some ctx.now
      | .spring _ => none
    disagreeTimer := none
    leftTimer := none
    leftFrom := none
    keptPosition := ctx.mode != .timed }

end Sys2Proof.Machine
end

