-- ==== Sys2Proof/Machine/Claims.lean ====
section
/-!
DEFINITION. One claim list by itself: rank, placing, withdrawal, re-offer's insertions, target and concordance (R17 to R31).
-/

namespace Sys2Proof.Machine

/-- The level of a source (R17). -/
def Source.level : Source → Nat
  | .normal => 0
  | .test _ => 1
  | .fire _ => 2
  | .override => 3

/-- The place of a source's zone in the Activation List; 0 for the sources without a zone (R19). -/
def Source.age (activation : List (Fin 24)) : Source → Nat
  | .test z => activation.idxOf z
  | .fire z => activation.idxOf z
  | _ => 0

/-- A list holds at most 6 claims (R18). -/
def maxClaims : Nat := 6

/-- Whether a claim ranks above another: by level, and within a level by the order of the claims' zones in the Activation
List (R19). -/
def outranks (activation : List (Fin 24)) (c x : Claim) : Bool :=
  decide (x.src.level < c.src.level) ||
    (c.src.level == x.src.level && decide (c.src.age activation < x.src.age activation))

/-- Inserts a claim at its rank (R23). -/
def insertClaim (activation : List (Fin 24)) (c : Claim) : List Claim → List Claim
  | [] => [c]
  | x :: xs => if outranks activation c x then c :: x :: xs else x :: insertClaim activation c xs

/-- The claim a source holds in a list. -/
def claimOf (claims : List Claim) (src : Source) : Option Claim := claims.find? (fun c => c.src == src)

/-- Replaces a source's command where its claim stands (R22). -/
def replaceClaim (claims : List Claim) (src : Source) (cmd : Command) : List Claim :=
  claims.map (fun c => if c.src = src then { c with cmd := cmd } else c)

/-- Removes a source's claim; those below close up (R26). -/
def removeClaim (claims : List Claim) (src : Source) : List Claim := claims.filter (fun c => c.src != src)

/-- What a placing did (R22 to R24). -/
inductive Placing where
  | same
  | replaced
  | placed
  | placedShedding (c : Claim)
  | shedAtOnce
deriving DecidableEq, Repr, Inhabited

/-- Places a source's command in a list (R22, R23, R24). -/
def placeClaim (activation : List (Fin 24)) (claims : List Claim) (src : Source) (cmd : Command) :
    List Claim × Placing :=
  match claimOf claims src with
  | some c => if c.cmd = cmd then (claims, .same) else (replaceClaim claims src cmd, .replaced)
  | none =>
    if claims.length < maxClaims then (insertClaim activation ⟨src, cmd⟩ claims, .placed)
    else
      match claims.getLast? with
      | some low =>
        if outranks activation ⟨src, cmd⟩ low then
          (insertClaim activation ⟨src, cmd⟩ claims.dropLast, .placedShedding low)
        else (claims, .shedAtOnce)
      | none => (insertClaim activation ⟨src, cmd⟩ claims, .placed)

/-- The placement an answer names (R32, R152). -/
def Placing.placement : Placing → Placement
  | .same => .same
  | .replaced => .replaced
  | .placed => .placed
  | .placedShedding _ => .placed
  | .shedAtOnce => .shed

/-- The claim that a placing shed from the list. -/
def Placing.shedClaim : Placing → Option Claim
  | .placedShedding c => some c
  | _ => none

/-- The REST value of a record; an UNUSED record has none (R8). -/
def restCommand : ActuatorDef → Option Command
  | .unused => none
  | .fan _ => some .off
  | .reversing d => some d.rest.command
  | .spring d => some d.rest.command

/-- The RUN speed of a claim at a level, 0 for any other claim. -/
def speedAtLevel (level : Nat) (c : Claim) : Nat :=
  match c.cmd with
  | .run speed => if c.src.level = level then speed else 0
  | _ => 0

/-- The target: REST with an empty list, otherwise the HEAD's command with the largest RUN speed at the HEAD's level
(R28). -/
def deriveTarget (rest : Option Command) (claims : List Claim) : Option Command :=
  match claims with
  | [] => rest
  | head :: _ =>
    match head.cmd with
    | .run _ => some (.run ((claims.map (speedAtLevel head.src.level)).foldl max 0))
    | c => some c

/-- Concordance of a command with a target (R31). -/
def concordant (cmd : Command) (target : Option Command) : Bool :=
  match cmd, target with
  | .openPos, some .openPos => true
  | .closedPos, some .closedPos => true
  | .off, some .off => true
  | .run _, some (.run _) => true
  | _, _ => false

/-- Whether a command is RUN. -/
def Command.isRun : Command → Bool
  | .run _ => true
  | _ => false

/-- Whether a target change of a fan is a run/stop change (R29). -/
def runStopChange (old new : Command) : Bool := old.isRun != new.isRun

end Sys2Proof.Machine
end

