-- ==== Sys2Proof/Machine/Flags.lean ====
section
/-!
DEFINITION. The flags of the part: the change flag of each line (R176), PRESSURE-PROOF-UNAVAILABLE (R112), and the gate
and proof conditions that are derived rather than kept.
-/

namespace Sys2Proof.Machine

/-- A port with its change flag set. -/
def Port.raise (p : Port) : Port := { p with changeFlag := true }

/-- The change flag of every line is set (R176). -/
def State.raiseFlags (s : State) : State := { s with ports := s.ports.map Port.raise }

/-- The change flag of one line is cleared by its READ-SUMMARY for page 0 (R176). -/
def State.clearFlag (s : State) (l : Line) : State := s.setPort l { s.port l with changeFlag := false }

/-- PRESSURE-PROOF-UNAVAILABLE of a fan with a pressure channel: the channel's status is other than VALID (R112). -/
def proofUnavailable : Option ChannelStatus → Bool
  | none => false
  | some status => status != .valid

/-- The truth of a gate against its channel's status and value (R61): false on any status other than VALID. -/
def gateTrue (g : Gate) (c : Channel) : Bool :=
  match c.status, c.value with
  | .valid, some v =>
    (match g.comparison with
     | .ge => decide (v ≥ g.value)
     | .lt => decide (v < g.value)
     | .within => decide (g.value - g.tolerance ≤ v ∧ v ≤ g.value + g.tolerance)
     | .outside => decide (v < g.value - g.tolerance ∨ v > g.value + g.tolerance))
  | _, _ => false

end Sys2Proof.Machine
end

