-- ==== Sys2Proof/Machine/Fan.lean ====
section
/-!
DEFINITION. A fan drive by itself: run states, proof, restart attempts, faults and the speed chain (R109 to R131).
-/

namespace Sys2Proof.Machine

/-- What a fan drive sees at an event: its definition, the debounced state of its run-proof input and the status and value
of its pressure channel where the record names them, and the clock. -/
structure FanCtx where
  definition : FanDef
  input : Option Debounced
  channel : Option (ChannelStatus × Option Int)
  now : Nat
deriving DecidableEq, Repr, Inhabited

/-! ## Proof (R111) -/

/-- The reading a proof source gives (R111). -/
inductive ProofReading where
  | positive | negative | undecided
deriving DecidableEq, Repr, Inhabited

/-- The proof evidence (R111). -/
inductive Evidence where
  | runningShown | stoppedShown | undecided | noSource
deriving DecidableEq, Repr, Inhabited

/-- The reading of the run-proof input (R111). -/
def inputReading : Debounced → ProofReading
  | .on => .positive
  | .off => .negative
  | _ => .undecided

/-- The reading of the pressure channel; any status other than VALID is left out (R111). -/
def channelReading (threshold : Nat) : ChannelStatus × Option Int → Option ProofReading
  | (.valid, some v) => some (if (threshold : Int) ≤ v then .positive else .negative)
  | _ => none

/-- The readings of the sources that take part (R111). -/
def FanCtx.readings (ctx : FanCtx) : List ProofReading :=
  (ctx.input.map inputReading).toList ++
    (match ctx.definition.pressure, ctx.channel with
     | some p, some c => (channelReading p.threshold c).toList
     | _, _ => [])

/-- The proof evidence from the readings that take part (R111). -/
def evidenceOf (readings : List ProofReading) : Evidence :=
  if readings = [] then .noSource
  else if .negative ∈ readings then .stoppedShown
  else if .undecided ∈ readings then .undecided
  else .runningShown

/-- The proof evidence at an event (R111); it is not kept. -/
def FanCtx.evidence (ctx : FanCtx) : Evidence := evidenceOf ctx.readings

/-- The run-proof input reads a fault band. -/
def FanCtx.inputFaulted (ctx : FanCtx) : Bool := (ctx.input.map Debounced.faulted).getD false

/-! ## The speed chain (R123 to R126) -/

/-- The demand held within [Smin, Smax] (R123). -/
def clampSpeed (sd : SpeedDef) (demand : Nat) : Nat :=
  if demand < sd.smin then sd.smin else if sd.smax < demand then sd.smax else demand

/-- The duty code Q of a ramped speed (R125). -/
def dutyCode (r : Nat) : Nat := (r * 1023 + 500) / 1000

/-- The base count B of a duty code (R126). -/
def baseCount (q : Nat) : Nat := q / 4

/-- The extension count E of a duty code (R126). -/
def extensionCount (q : Nat) : Nat := q - 4 * baseCount q

/-- The extension set: the periods of a frame that carry one count more (R126). -/
def extensionSet : Nat → List Nat
  | 0 => []
  | 1 => [2]
  | 2 => [1, 3]
  | _ => [1, 2, 3]

/-- The high counts of period i = 1..4 of a frame (R126). -/
def highCounts (q period : Nat) : Nat :=
  baseCount q + if period ∈ extensionSet (extensionCount q) then 1 else 0

/-- The demand and the clamped speed at a target change (R123); a fixed-speed fan has no speed chain. -/
def setDemand (ctx : FanCtx) (f : FanDrive) : FanDrive :=
  match ctx.definition.speed with
  | none => f
  | some sd =>
    match f.target with
    | .run speed => { f with demand := speed, clamped := clampSpeed sd speed }
    | _ => { f with demand := 0, clamped := clampSpeed sd 0 }

/-- One ramp step of R toward C by at most k (R124). -/
def rampToward (rate c r : Nat) : Nat :=
  if r < c then min c (r + rate) else if c < r then max c (r - rate) else r

/-- The ramp timer expires and restarts; a step that changes R writes the new Q to the preload (R124, R125). A fixed-speed fan has
the timer and no R to step (R109). -/
def fanRamp (ctx : FanCtx) (f : FanDrive) : FanDrive :=
  let f := { f with rampTimer := some (ctx.now + rampTime) }
  match ctx.definition.speed, f.target with
  | some sd, .run _ =>
    let r := rampToward sd.rate f.clamped f.ramped
    if r = f.ramped then f else { f with ramped := r, preload := dutyCode r }
  | _, _ => f

/-! ## The run output (R110) -/

/-- Switches the run output on: R = 0, the ramp timer starts, Q = 0 is written (R110). An output that is on already is not
switched (log 17). -/
def switchOn (ctx : FanCtx) (f : FanDrive) : FanDrive :=
  if f.runOut then f
  else
    { f with
      runOut := true
      ramped := 0
      preload := 0
      rampTimer := some (ctx.now + rampTime) }

/-- Switches the run output off: R = 0, the ramp timer is stopped, Q = 0 is written (R110). -/
def switchOff (f : FanDrive) : FanDrive :=
  { f with runOut := false, ramped := 0, preload := 0, rampTimer := none }

/-- Stops every timer of the run controller but the ramp timer (R120). -/
def stopTimers (f : FanDrive) : FanDrive :=
  { f with startTimer := none, stopTimer := none, lossTimer := none, restartTimer := none, waiting := false }

/-! ## Failures and faults (R116, R120) -/

/-- A fan in FAILED with a fault latched, every timer of the run controller stopped but the ramp timer (R120). -/
def failedFan (fault : FanFault) (f : FanDrive) : FanDrive := { stopTimers f with state := .failed, fault := some fault }

/-- The fan enters FAILED with a fault latched (R120). With INPUT-FAULT the run output is on while the target is RUN. -/
def latchFan (ctx : FanCtx) (fault : FanFault) (f : FanDrive) : FanDrive :=
  if fault = .inputFault ∧ f.target.isRun = true then switchOn ctx (failedFan fault f) else switchOff (failedFan fault f)

/-- The failure FAIL-START or FAIL-RUN (R116): RESTART-WAIT while attempts remain, FAILED otherwise. -/
def fanFailure (ctx : FanCtx) (kind : FanFault) (f : FanDrive) : FanDrive :=
  if f.attempts < ctx.definition.restartAttempts then
    { switchOff (stopTimers f) with
      state := .restartWait
      lastFailure := some kind
      restartTimer := some (ctx.now + restartDelayTime) }
  else latchFan ctx kind f

/-! ## Judgement of proof (R114, R115, R119) -/

/-- The fan is proven running. -/
def toRunning (f : FanDrive) : FanDrive := { f with state := .running, startTimer := none, waiting := false }

/-- The fan is taken as stopped. -/
def toStopped (f : FanDrive) : FanDrive := { f with state := .stopped, stopTimer := none, waiting := false }

/-- The judgement of proof at an event, by run state (R114, R115, R119). A fan in RESTART-WAIT, FAILED or STOPPED is not
judged (R117, R120). -/
def judgeFan (ctx : FanCtx) (f : FanDrive) : FanDrive :=
  match f.state with
  | .starting => if ctx.evidence = .runningShown then toRunning f else f
  | .running =>
    if ctx.evidence = .stoppedShown then
      { f with lossTimer := some (f.lossTimer.getD (ctx.now + runLossTime)) }
    else { f with lossTimer := none }
  | .stopping => if ctx.evidence = .stoppedShown ∨ ctx.evidence = .noSource then toStopped f else f
  | .stopped => f
  | .restartWait => f
  | .failed => f

/-! ## Starts and stops (R113, R118) -/

/-- A start (R113). -/
def startFan (ctx : FanCtx) (f : FanDrive) : FanDrive :=
  judgeFan ctx
    { switchOn ctx (stopTimers f) with
      state := .starting
      fault := none
      attempts := 0
      lastFailure := none
      startTimer := some (ctx.now + tenthsToMs ctx.definition.startProofTime) }

/-- A stop (R117, R118). -/
def stopFan (ctx : FanCtx) (f : FanDrive) : FanDrive :=
  judgeFan ctx
    { switchOff (stopTimers f) with
      state := .stopping
      fault := none
      attempts := 0
      lastFailure := none
      stopTimer := some (ctx.now + tenthsToMs ctx.definition.stopProofTime) }

/-- A target change (R113, R117, R118, R121, R123, R128): a run/stop change starts or stops the fan; a speed-only change
feeds the speed chain alone. -/
def fanTarget (target : Command) (ctx : FanCtx) (f : FanDrive) : FanDrive :=
  let changed := setDemand ctx { f with target := target }
  if runStopChange f.target target then
    (match target with
     | .run _ => startFan ctx changed
     | _ => stopFan ctx changed)
  else changed

/-! ## Timer expiries (R114, R115, R117, R119) -/

/-- The start proof timer expires (R114). -/
def startProofEnd (ctx : FanCtx) (f : FanDrive) : FanDrive :=
  let f := { f with startTimer := none }
  match ctx.evidence with
  | .noSource => toRunning f
  | .runningShown => toRunning f
  | .stoppedShown => fanFailure ctx .failStart f
  | .undecided => if ctx.inputFaulted then latchFan ctx .inputFault f else { f with waiting := true }

/-- The stop proof timer expires (R119). -/
def stopProofEnd (ctx : FanCtx) (f : FanDrive) : FanDrive :=
  let f := { f with stopTimer := none }
  match ctx.evidence with
  | .noSource => toStopped f
  | .stoppedShown => toStopped f
  | .runningShown => latchFan ctx .failStop f
  | .undecided => if ctx.inputFaulted then latchFan ctx .inputFault f else { f with waiting := true }

/-- The run-loss timer expires (R115). -/
def runLossEnd (ctx : FanCtx) (f : FanDrive) : FanDrive :=
  fanFailure ctx .failRun { f with lossTimer := none }

/-- The restart delay expires (R117): one attempt more, and a start. -/
def restartDelayEnd (ctx : FanCtx) (f : FanDrive) : FanDrive :=
  judgeFan ctx
    { switchOn ctx f with
      state := .starting
      attempts := f.attempts + 1
      lastFailure := none
      restartTimer := none
      startTimer := some (ctx.now + tenthsToMs ctx.definition.startProofTime) }

/-! ## Inputs, channels, FAULT-CLEAR (R111 to R121) -/

/-- The judgement that waited for the input is made (R114, R119). -/
def settleWaiting (ctx : FanCtx) (f : FanDrive) : FanDrive :=
  match f.state, ctx.evidence with
  | .starting, .runningShown => toRunning f
  | .starting, .stoppedShown => fanFailure ctx .failStart { f with waiting := false }
  | .stopping, .stoppedShown => toStopped f
  | .stopping, .runningShown => latchFan ctx .failStop f
  | _, _ => judgeFan ctx f

/-- A new debounced state of the run-proof input; the context already holds it (R111, R114, R117, R119, R120). -/
def fanInput (reading : Debounced) (ctx : FanCtx) (f : FanDrive) : FanDrive :=
  if reading.faulted then
    if f.fault.isSome then f else latchFan ctx .inputFault f
  else if f.waiting && reading.healthy then settleWaiting ctx f
  else judgeFan ctx f

/-- A notice of the pressure channel; the context already holds it (R112, R143). -/
def fanChannel (ctx : FanCtx) (f : FanDrive) : FanDrive :=
  judgeFan ctx { f with proofUnavailable := proofUnavailable (ctx.channel.map (·.1)) }

/-- FAULT-CLEAR at a fan (R121). -/
def fanFaultClear (ctx : FanCtx) (f : FanDrive) : FanDrive :=
  let cleared := { f with fault := none, attempts := 0 }
  if f.state = .failed then
    if ctx.inputFaulted then latchFan ctx .inputFault cleared
    else
      (match f.target with
       | .run _ => startFan ctx cleared
       | _ => stopFan ctx cleared)
  else cleared

/-- The fan part of the answer is DONE when a fault was latched or attempts used was not 0 (R121). -/
def fanClearDone (before : FanDrive) : Bool := before.fault.isSome || before.attempts != 0

/-! ## Creation and warm restart (R130, R131) -/

/-- A new fan drive, judged at its creation (R130). -/
def createFan (ctx : FanCtx) : FanDrive :=
  judgeFan ctx
    { state := .stopping
      fault := none
      target := .off
      attempts := 0
      lastFailure := none
      runOut := false
      startTimer := none
      stopTimer := some (ctx.now + tenthsToMs ctx.definition.stopProofTime)
      lossTimer := none
      restartTimer := none
      rampTimer := none
      waiting := false
      proofUnavailable := proofUnavailable (ctx.channel.map (·.1))
      demand := 0
      clamped := match ctx.definition.speed with | some sd => clampSpeed sd 0 | none => 0
      ramped := 0
      preload := 0 }

/-- The end of a warm restart (R131): running timers at full length, the ramp timer again if the output is on, the run-loss timer
cancelled, and PRESSURE-PROOF-UNAVAILABLE set where there is a pressure channel, which reads UNKNOWN. R131 does not name a judgement
that waits for an UNKNOWN run-proof input; the model keeps it waiting (DEDUCED, unsafe, log 21). -/
def fanRestarted (ctx : FanCtx) (f : FanDrive) : FanDrive :=
  { f with
    startTimer := f.startTimer.map (fun _ => ctx.now + tenthsToMs ctx.definition.startProofTime)
    stopTimer := f.stopTimer.map (fun _ => ctx.now + tenthsToMs ctx.definition.stopProofTime)
    restartTimer := f.restartTimer.map (fun _ => ctx.now + restartDelayTime)
    rampTimer := if f.runOut then some (ctx.now + rampTime) else none
    proofUnavailable := proofUnavailable (ctx.channel.map (·.1))
    lossTimer := none }

end Sys2Proof.Machine
end

