-- ==== Sys2Proof/Machine/Drives.lean ====
section
/-!
DEFINITION. The drives in the part: what a drive sees of the plant table, inputs, channels and clock, the notice it hands on
at the end of an event (R98, R122), what the Sequence Engine sees of it (R53, R67), and the output terminals (R9).
-/

namespace Sys2Proof.Machine

/-! ## What a drive sees -/

/-- The context of a damper record's drive; none for any other record. -/
def State.damperCtx (s : State) (a : Fin 64) : Option DamperCtx :=
  match s.record a with
  | .reversing d =>
    some
      { kind := .reversing (tenthsToMs d.deadTime) d.reversalLimit
        mode := d.mode
        openSwitch := d.openSwitch.map (fun r => s.reading r.input)
        closedSwitch := d.closedSwitch.map (fun r => s.reading r.input)
        travelLimit := tenthsToMs d.travelLimit
        now := s.now }
  | .spring d =>
    some
      { kind := .spring d.failPosition
        mode := d.mode
        openSwitch := d.openSwitch.map (fun r => s.reading r.input)
        closedSwitch := d.closedSwitch.map (fun r => s.reading r.input)
        travelLimit := tenthsToMs d.travelLimit
        now := s.now }
  | .fan _ => none
  | .unused => none

/-- The context of a fan record's drive; none for any other record. -/
def State.fanCtx (s : State) (a : Fin 64) : Option FanCtx :=
  match s.record a with
  | .fan d =>
    some
      { definition := d
        input := d.proofInput.map (fun r => s.reading r.input)
        channel := d.pressure.map (fun p => ((s.channel p.channel).status, (s.channel p.channel).value))
        now := s.now }
  | .reversing _ => none
  | .spring _ => none
  | .unused => none

/-! ## What a drive shows the Sequence Engine -/

/-- The proven state that a drive hands on: a damper's proven position or a fan's run state (R98, R122). -/
inductive ProvenState where
  | none
  | position (p : Position)
  | run (r : RunState)
deriving DecidableEq, Repr, Inhabited

/-- The proven state of a drive. -/
def Drive.proven : Drive → ProvenState
  | .none => .none
  | .damper d => .position d.position
  | .fan f => .run f.state

/-- The latched fault of a drive. -/
def Drive.fault : Drive → Option ActuatorFault
  | .none => Option.none
  | .damper d => d.fault.map .damper
  | .fan f => f.fault.map .fan

/-- Whether a fault stands on an actuator (R67): a latched fault of a damper; run state FAILED of a fan. -/
def Drive.faultStands : Drive → Bool
  | .none => false
  | .damper d => d.fault.isSome
  | .fan f => f.state == .failed

/-- Whether an actuator is proven at a command (R53). -/
def State.provenAt (s : State) (a : Fin 64) (c : Command) : Bool :=
  match s.drive a with
  | .none => false
  | .fan f =>
    (match c with
     | .run _ => f.state == .running
     | .off => f.state == .stopped
     | _ => false)
  | .damper d =>
    (match s.damperCtx a, sideOf c with
     | some ctx, some side => positionProves ctx.mode d.position side
     | _, _ => false)

/-! ## One event of a drive -/

/-- The notice at the end of a drive's event (R98, R122): an appearance or clearing of a fault sets the change flag of every
line; a change of proven state or a clearing of a fault is noted for the Sequence Engine. A fault that one event replaces by
another kind counts as cleared: R75 and R98 do not say (DEDUCED, unsafe, log 33). -/
def handNotice (a : Fin 64) (before after : Drive) (w : Work) : Work :=
  let w1 := if before.fault = after.fault then w else w.map State.raiseFlags
  if before.proven = after.proven ∧ (before.fault = none ∨ before.fault = after.fault) then w1
  else { w1 with touched := a :: w1.touched }

/-- An event of a damper's drive: nothing for any other actuator. -/
def damperEvent (a : Fin 64) (act : DamperCtx → DamperDrive → DamperDrive) (w : Work) : Work :=
  match w.st.drive a, w.st.damperCtx a with
  | .damper d, some ctx =>
    let d' := damperFinish ctx d (act ctx d)
    handNotice a (.damper d) (.damper d') (w.map (fun s => s.setDrive a (.damper d')))
  | _, _ => w

/-- An event of a fan's drive: nothing for any other actuator. -/
def fanEvent (a : Fin 64) (act : FanCtx → FanDrive → FanDrive) (w : Work) : Work :=
  match w.st.drive a, w.st.fanCtx a with
  | .fan f, some ctx =>
    let f' := act ctx f
    handNotice a (.fan f) (.fan f') (w.map (fun s => s.setDrive a (.fan f')))
  | _, _ => w

/-- A target change handed to the actuator's drive (R29). -/
def handTarget (a : Fin 64) (target : Command) (w : Work) : Work :=
  fanEvent a (fanTarget target)
    (match sideOf target with
     | some side => damperEvent a (damperTarget side) w
     | none => w)

/-- A new debounced state of an input handed to the drive of the record that names it (R135). -/
def handInput (i : Fin 128) (w : Work) : Work :=
  match w.st.namingRecord i with
  | none => w
  | some a =>
    let reading := w.st.reading i
    (match w.st.record a with
     | .fan _ => fanEvent a (fanInput reading) w
     | .reversing d =>
       damperEvent a (switchChanged (if (d.openSwitch.map (·.input)) = some i then .openSide else .closedSide) reading) w
     | .spring d =>
       damperEvent a (switchChanged (if (d.openSwitch.map (·.input)) = some i then .openSide else .closedSide) reading) w
     | .unused => w)

/-- Whether a record is a fan that proves on a channel. -/
def provesOn (c : Fin 16) : ActuatorDef → Bool
  | .fan d => (d.pressure.map (·.channel)) == some c
  | _ => false

/-- A channel notice handed to every fan whose pressure channel it is (R143). -/
def handChannel (c : Fin 16) (w : Work) : Work :=
  (List.finRange 64).foldl (fun w a => if provesOn c (w.st.record a) then fanEvent a fanChannel w else w) w

/-! ## The output terminals (R9, R86, R93, R110, R127) -/

/-- The relay outputs a drive energizes. -/
def energizedOutputs : ActuatorDef → Drive → List (Fin 96)
  | .fan d, .fan f => if f.runOut then [d.runOutput] else []
  | .reversing d, .damper x =>
    (if x.openOut then [d.openOutput] else []) ++ (if x.closeOut then [d.closeOutput] else [])
  | .spring d, .damper x => if x.driveOut then [d.driveOutput] else []
  | _, _ => []

/-- A relay output is energized by the drive of the record that names it, and de-energized where no record names it (R9). -/
def State.relayOn (s : State) (r : Fin 96) : Bool :=
  (List.finRange 64).any (fun a => r ∈ energizedOutputs (s.record a) (s.drive a))

/-- Whether a record is a fan that names a speed output. -/
def namesSpeedOutput (o : Fin 16) : ActuatorDef → Bool
  | .fan d => (d.speed.map (·.output)) == some o
  | _ => false

/-- The preload of a speed output: that of the fan that names it, 0 where none does (R109, R127). -/
def State.preloadOf (s : State) (o : Fin 16) : Nat :=
  match (List.finRange 64).find? (fun a => namesSpeedOutput o (s.record a)) with
  | none => 0
  | some a =>
    match s.drive a with
    | .fan f => f.preload
    | _ => 0

end Sys2Proof.Machine
end

