-- ==== Sys2Proof/Machine/Engine.lean ====
section
/-!
DEFINITION. The claim lists in the part and the Sequence Engine: operations on a list with what they hand on (R21 to R30),
the zone-claim map's statuses (R51, R52), outcomes (R66 to R68), taking, issuing and finishing stages (R62 to R76), the held
and suspended flags (R77 to R79). An event first makes its operations on lists and drives; then `engineLoop` judges every
zone and brings zones on, one at a time, until none can go on (log 12).
-/

namespace Sys2Proof.Machine

/-! ## The zone-claim map (R51, R52) -/

/-- The source of a zone's claims (R17, R65, R80). -/
def zoneSource (r : ZoneRecord) (z : Fin 24) : Source :=
  match r.mode with
  | .test => .test z
  | _ => .fire z

/-- The status of an entry (R52): from the list's membership and the target. -/
def entryStatus (l : ClaimList) (src : Source) : ClaimStatus :=
  match claimOf l.claims src with
  | none => .shed
  | some c => if concordant c.cmd l.target then .inForce else .displaced

/-- One zone's entry for an actuator judged afresh. -/
def refreshEntry (a : Fin 64) (s : State) (z : Fin 24) : State :=
  let r := s.zone z
  match r.map[a] with
  | none => s
  | some e =>
    s.setZone z { r with map := r.map.set a (some { e with status := entryStatus (s.claimList a) (zoneSource r z) }) }

/-- The entries for an actuator in every active zone's map judged afresh, at the end of an operation on its list (R52). -/
def refreshEntries (a : Fin 64) (s : State) : State := s.activation.foldl (refreshEntry a) s

/-! ## Operations on a list (R21 to R30) -/

/-- The end of an operation: the list as the operation leaves it, the target derived once, a target change handed to the
drive, the notices taken into the maps (R21, R28, R29, R30). -/
def endListOp (a : Fin 64) (claims : List Claim) (normalShed : Bool) (w : Work) : Work :=
  let old := (w.st.claimList a).target
  let target := deriveTarget (restCommand (w.st.record a)) claims
  let w1 := w.map (fun s => s.setList a { claims := claims, target := target, normalShed := normalShed })
  let w2 :=
    if target = old then w1
    else
      match target with
      | some c => handTarget a c w1
      | none => w1
  w2.map (refreshEntries a)

/-- Whether a placing has shed a NORMAL claim, which sets the NORMAL-SHED mark (R25). -/
def shedsNormal (src : Source) (p : Placing) : Bool :=
  (p == .shedAtOnce && src == .normal) || ((p.shedClaim.map (·.src)) == some .normal)

/-- Places a source's command in an actuator's list (R22, R23, R24, R25). -/
def placeOp (a : Fin 64) (src : Source) (cmd : Command) (w : Work) : Work × Placing :=
  let l := w.st.claimList a
  let (claims, p) := placeClaim w.st.activation l.claims src cmd
  match p with
  | .same => (w, .same)
  | .shedAtOnce =>
    ((w.map (fun s => s.setList a { l with normalShed := l.normalShed || shedsNormal src p })).map (refreshEntries a), p)
  | _ => (endListOp a claims (l.normalShed || shedsNormal src p) w, p)

/-- The claims of a list after re-offer: the SHED claims of active zones are placed again, oldest first, while the list holds
fewer than 6 claims (R27). -/
def reoffer (s : State) (a : Fin 64) (claims : List Claim) : List Claim :=
  s.activation.foldl
    (fun cs z =>
      if cs.length < maxClaims then
        match (s.zone z).map[a] with
        | some e => if e.status = .shed then insertClaim s.activation ⟨zoneSource (s.zone z) z, e.cmd⟩ cs else cs
        | none => cs
      else cs)
    claims

/-- Withdraws a source's claim with re-offer, as one operation; nothing where the source holds no claim there (R26). -/
def withdrawOp (a : Fin 64) (src : Source) (w : Work) : Work :=
  let l := w.st.claimList a
  match claimOf l.claims src with
  | none => w
  | some _ => endListOp a (reoffer w.st a (removeClaim l.claims src)) l.normalShed w

/-- The NORMAL-SHED mark of a list is cleared (R25, R32, R33). -/
def clearNormalShed (a : Fin 64) (s : State) : State := s.setList a { s.claimList a with normalShed := false }

/-! ## Outcomes and sub-status (R54, R66, R68) -/

/-- The outcome of a command of an issued stage (R66): the tests in the table's order. -/
def judgeOutcome (s : State) (r : ZoneRecord) (c : StageCommand) (old : CommandOutcome) : CommandOutcome :=
  if old = .failed then .failed
  else
    match r.map[c.actuator] with
    | none => .shed
    | some e =>
      match e.status with
      | .shed => .shed
      | .displaced => .deferred
      | .inForce =>
        if (s.drive c.actuator).faultStands then .failed
        else if s.provenAt c.actuator c.cmd then .proven
        else .pending

/-- Whether a stage is issued and unfinished, so that its outcomes are live (R62, R68). -/
def StagePhase.live : StagePhase → Bool
  | .settling => true
  | .proving => true
  | _ => false

/-- A stage record with no command; it stands for a stage number whose record is UNUSED, which no zone with an instance
reaches (R60). -/
def emptyStage : StageDef where
  commands := []
  settleTime := 0
  proofWindow := 0
  gate := none
  policy := .cont

/-- The record of a current stage. -/
def State.stageOf (s : State) (cs : CurrentStage) : StageDef := (s.stageDef cs.stage).getD emptyStage

/-- The outcomes of a zone's issued stage judged afresh; each outcome that becomes FAILED adds one to the failed count
(R66, R68, R81). -/
def judgeStage (s : State) (z : Fin 24) : State :=
  let r := s.zone z
  match r.stage with
  | none => s
  | some cs =>
    if cs.phase.live then
      let outcomes := List.zipWith (judgeOutcome s r) (s.stageOf cs).commands cs.outcomes
      s.setZone z
        { r with
          stage := some { cs with outcomes := outcomes }
          failed := r.failed.map (fun n => n + (outcomes.count .failed - cs.outcomes.count .failed)) }
    else s

/-- The sub-status of a zone (R54). -/
def subStatusOf (s : State) (r : ZoneRecord) : SubStatus :=
  match r.phase with
  | .normal => .none
  | .running => .none
  | .stopped => .degraded
  | .complete =>
    if (List.finRange 64).all (fun a =>
        match r.map[a] with
        | none => true
        | some e => e.status == .inForce && s.provenAt a e.cmd) then .established
    else .degraded

/-- The sub-status derived anew; a change sets the change flag of every line (R54, R176). -/
def judgeSub (s : State) (z : Fin 24) : State :=
  let r := s.zone z
  let sub := subStatusOf s r
  if sub = r.subStatus then s else (s.setZone z { r with subStatus := sub }).raiseFlags

/-- Every active zone's outcomes and sub-status judged afresh. -/
def judgeZones (s : State) : State := s.activation.foldl (fun s z => judgeSub (judgeStage s z) z) s

/-! ## Finishing (R70 to R76) -/

/-- The sequence of a zone (R40). -/
def State.sequenceOf (s : State) (z : Fin 24) : List (Fin 256) := ((s.zoneDef z).map (·.sequence)).getD []

/-- The stage at a position becomes DUE (R62); its GATE-EXPIRED mark is clear. -/
def dueAt (s : State) (z : Fin 24) (position : Nat) : CurrentStage where
  position := position
  stage := ((s.sequenceOf z)[position]?).getD 0
  phase := .due
  outcomes := []
  gateExpired := false
  settle := .stopped
  window := .stopped
  gateWait := .stopped

/-- The stage-log entry of a stage (R55), with the stage's GATE-EXPIRED mark in a FINISHED and in an INTERRUPTED entry (log 33). -/
def logEntry (s : State) (cs : CurrentStage) (state : LogState) : LogEntry where
  stage := cs.stage
  state := state
  gateExpired := cs.gateExpired
  outcomes := List.zip ((s.stageOf cs).commands.map (·.actuator)) cs.outcomes

/-- The stage log of a TEST instance with the entry of a stage written (R55, R80). -/
def writeLog (s : State) (cs : CurrentStage) (state : LogState) (log : Option TestLog) : Option TestLog :=
  log.map (fun l => { l with entries := l.entries.set cs.position (logEntry s cs state) })

/-- Whether a position is the last of a zone's sequence. -/
def State.isLast (s : State) (z : Fin 24) (position : Nat) : Bool := decide ((s.sequenceOf z).length ≤ position + 1)

/-- A current stage as it stands FINISHED: outcomes frozen, no timer (R62, R70, R72). -/
def finishedStage (cs : CurrentStage) : CurrentStage :=
  { cs with phase := .finished, settle := .stopped, window := .stopped, gateWait := .stopped }

/-- A stage becomes FINISHED with its outcomes as they stand, and the zone proceeds by the first case of R73. -/
def finishStage (s : State) (z : Fin 24) (cs : CurrentStage) : State :=
  let r := s.zone z
  let fin := finishedStage cs
  let r := { r with stage := some fin, log := writeLog s fin .finished r.log }
  if .failed ∈ cs.outcomes ∧ (s.stageOf cs).policy = .stop then (s.setZone z { r with phase := .stopped }).raiseFlags
  else if s.isLast z cs.position then (s.setZone z { r with phase := .complete }).raiseFlags
  else s.setZone z { r with stage := some (dueAt s z (cs.position + 1)) }

/-- The proof window expires: every PENDING outcome becomes FAILED, and the stage is FINISHED (R71). -/
def expireWindow (s : State) (z : Fin 24) (cs : CurrentStage) : State :=
  let outcomes := cs.outcomes.map (fun o => if o = .pending then .failed else o)
  let r := s.zone z
  finishStage (s.setZone z { r with failed := r.failed.map (fun n => n + cs.outcomes.count .pending) }) z
    { cs with outcomes := outcomes }

/-- The settle time has passed: the stage is PROVING (R69). -/
def provingStage (cs : CurrentStage) : CurrentStage := { cs with phase := .proving, settle := .stopped }

/-! ## Resumption of a STOPPED zone (R74, R75, R157) -/

/-- The failed commands of a stopped stage (R74). -/
def failedCommands (s : State) (cs : CurrentStage) : List StageCommand :=
  ((List.zip (s.stageOf cs).commands cs.outcomes).filter (fun p => p.2 == .failed)).map (·.1)

/-- A STOPPED zone resumes where a drive has handed a change on one of its failed actuators and all of them are proven at
their commands (R75). While stand-down is SET a FIRE zone that returns to RUNNING is held at that event (R157). -/
def resumeZone (touched : List (Fin 64)) (s : State) (z : Fin 24) : State :=
  let r := s.zone z
  match r.phase, r.stage with
  | .stopped, some cs =>
    let failed := failedCommands s cs
    if failed.any (fun c => touched.contains c.actuator) && failed.all (fun c => s.provenAt c.actuator c.cmd) then
      if s.isLast z cs.position then (s.setZone z { r with phase := .complete }).raiseFlags
      else
        (s.setZone z
          { r with
            phase := .running
            stage := some (dueAt s z (cs.position + 1))
            held := r.held || (s.standDown && r.mode == .fire) }).raiseFlags
    else s
  | _, _ => s

/-- The notices of the drives are judged for resumption, and are then spent. A notice that is spent before its own event stops a zone
does not resume that zone, also where it leaves every failed actuator proven: R75 does not say whether the event that stops a zone may
resume it (DESIGN CHOICE, unsafe, log 38). -/
def resumeZones (w : Work) : Work :=
  { st := w.st.activation.foldl (resumeZone w.touched) w.st, touched := [] }

/-! ## Taking and issuing a stage (R62 to R65) -/

/-- One command of a stage placed as the zone's claim, with its map entry (R51, R65). -/
def placeCommand (z : Fin 24) (w : Work) (c : StageCommand) : Work :=
  let r := w.st.zone z
  let status := match r.map[c.actuator] with
    | some e => e.status
    | none => .shed
  let w1 := w.map (fun s => s.setZone z { r with map := r.map.set c.actuator (some { cmd := c.cmd, status := status }) })
  (placeOp c.actuator (zoneSource r z) c.cmd w1).1.map (refreshEntries c.actuator)

/-- A stage is issued (R65): its commands placed in order, its timers started, SETTLING or, with a settle time of 0, PROVING.
Its outcomes are judged by the engine at the same event. -/
def issueStage (z : Fin 24) (cs : CurrentStage) (mark : Bool) (w : Work) : Work :=
  let sd := w.st.stageOf cs
  let w1 := sd.commands.foldl (placeCommand z) w
  w1.map (fun s =>
    s.setZone z
      { s.zone z with
        stage := some
          { cs with
            phase := if sd.settleTime = 0 then .proving else .settling
            outcomes := List.replicate sd.commands.length .pending
            gateExpired := mark
            settle := if sd.settleTime = 0 then .stopped else startTimer s.now (tenthsToMs sd.settleTime)
            window := startTimer s.now (tenthsToMs sd.proofWindow)
            gateWait := .stopped } })

/-- A stage skipped under a true SKIP-IF gate: FINISHED with every outcome SKIPPED (R63). -/
def skipStage (s : State) (z : Fin 24) (cs : CurrentStage) : State :=
  finishStage s z { cs with outcomes := List.replicate (s.stageOf cs).commands.length .skipped }

/-- A DUE stage is taken (R62). -/
def takeStage (z : Fin 24) (cs : CurrentStage) (w : Work) : Work :=
  match (w.st.stageOf cs).gate with
  | none => issueStage z cs false w
  | some g =>
    let holds := gateTrue g (w.st.channel g.channel)
    match g.mode, holds with
    | .skipIf, true => w.map (fun s => skipStage s z cs)
    | .skipIf, false => issueStage z cs false w
    | .waitUntil, true => issueStage z cs false w
    | .waitUntil, false =>
      w.map (fun s =>
        s.setZone z
          { s.zone z with stage := some { cs with phase := .gated, gateWait := startTimer s.now (tenthsToMs g.wait) } })

/-! ## The engine's loop -/

/-- Held or suspended: no stage is taken, issued or finished (R77). -/
def ZoneRecord.blocked (r : ZoneRecord) : Bool := r.held || r.suspended

/-- Whether a zone can go on: RUNNING, neither held nor suspended, with a DUE stage (R62) or a PROVING stage without a
PENDING outcome (R70). -/
def ready (s : State) (z : Fin 24) : Bool :=
  let r := s.zone z
  r.phase == .running && !r.blocked &&
    (match r.stage with
     | none => false
     | some cs => cs.phase == .due || (cs.phase == .proving && !(cs.outcomes.contains .pending)))

/-- One zone goes on: its DUE stage is taken or its PROVING stage finishes. -/
def advanceZone (z : Fin 24) (w : Work) : Work :=
  match (w.st.zone z).stage with
  | none => w
  | some cs => if cs.phase = .due then takeStage z cs w else w.map (fun s => finishStage s z cs)

/-- The engine takes what an event has left: resumptions, judgements, then one zone that can go on, again until none can. -/
def engineLoop : Nat → Work → Work
  | 0, w => w
  | n + 1, w =>
    let w1 := (resumeZones w).map judgeZones
    match w1.st.activation.find? (ready w1.st) with
    | none => w1
    | some z => engineLoop n (advanceZone z w1)

/-- More rounds than 24 zones of 16 stages, each taken once and finished once, can need. -/
def engineRounds : Nat := 1024

/-- An event whole: its operations, then the engine. -/
def runEvent (s : State) (f : Work → Work) : State := (engineLoop engineRounds (f (Work.start s))).st

/-! ## Held and suspended (R77, R78, R79) -/

/-- The timers of a stage frozen (R77). -/
def freezeStage (now : Nat) (cs : CurrentStage) : CurrentStage :=
  { cs with
    settle := freezeTimer now cs.settle
    window := freezeTimer now cs.window
    gateWait := freezeTimer now cs.gateWait }

/-- The timers of a stage run on (R77). -/
def thawStage (now : Nat) (cs : CurrentStage) : CurrentStage :=
  { cs with
    settle := thawTimer now cs.settle
    window := thawTimer now cs.window
    gateWait := thawTimer now cs.gateWait }

/-- A zone's stage frozen if no flag was set before (R77). -/
def ZoneRecord.freeze (now : Nat) (r : ZoneRecord) : ZoneRecord :=
  if r.blocked then r else { r with stage := r.stage.map (freezeStage now) }

/-- The held flag set (R156); a changed flag sets the change flag of every line (R176). -/
def holdZone (s : State) (z : Fin 24) : State :=
  let r := s.zone z
  if r.held then s else (s.setZone z { r.freeze s.now with held := true }).raiseFlags

/-- The suspended flag set at SUPPLY-LOW for a zone holding an instance (R79). -/
def suspendZone (s : State) (z : Fin 24) : State :=
  let r := s.zone z
  if r.mode = .none ∨ r.suspended = true then s
  else (s.setZone z { r.freeze s.now with suspended := true }).raiseFlags

/-- The stage brought forward when the last of a zone's flags clears (R78); the engine takes what is then DUE or finished. -/
def bringForward (z : Fin 24) (w : Work) : Work :=
  match (w.st.zone z).stage with
  | none => w
  | some cs =>
    let thawed := thawStage w.st.now cs
    let put (cs : CurrentStage) : Work := w.map (fun s => s.setZone z { s.zone z with stage := some cs })
    match cs.phase with
    | .due => w
    | .finished => w
    | .gated =>
      (match (w.st.stageOf cs).gate with
       | none => issueStage z cs false w
       | some g =>
         if gateTrue g (w.st.channel g.channel) then issueStage z cs false w
         else if frozenAtZero cs.gateWait then issueStage z cs true w
         else put thawed)
    | .settling => if frozenAtZero cs.settle then put (provingStage thawed) else put thawed
    | .proving =>
      if cs.outcomes.contains .pending && frozenAtZero cs.window then w.map (fun s => expireWindow s z cs) else put thawed

/-- The held flag of a zone cleared; the zone is brought forward if it is not suspended (R159). -/
def unholdZone (w : Work) (z : Fin 24) : Work :=
  let r := w.st.zone z
  if r.held then
    let w1 := w.map (fun s => (s.setZone z { r with held := false }).raiseFlags)
    if r.suspended then w1 else bringForward z w1
  else w

/-- The suspended flag of a zone cleared; the zone is brought forward if it is not held (R79). -/
def unsuspendZone (w : Work) (z : Fin 24) : Work :=
  let r := w.st.zone z
  if r.suspended then
    let w1 := w.map (fun s => (s.setZone z { r with suspended := false }).raiseFlags)
    if r.held then w1 else bringForward z w1
  else w

/-- Stand-down released (R159): OFF, every held flag cleared, the zones brought forward. -/
def releaseStandDown (w : Work) : Work :=
  (List.finRange 24).foldl unholdZone
    (w.map (fun s => { s with standDown := false, standDownOption := none }.raiseFlags))

/-! ## Gates and supply events (R64, R79, R148) -/

/-- A GATED stage that names a channel judges its gate at a notice of that channel (R64). -/
def judgeGate (c : Fin 16) (w : Work) (z : Fin 24) : Work :=
  let r := w.st.zone z
  match r.stage with
  | none => w
  | some cs =>
    if cs.phase = .gated ∧ r.blocked = false then
      match (w.st.stageOf cs).gate with
      | none => w
      | some g => if g.channel = c ∧ gateTrue g (w.st.channel c) = true then issueStage z cs false w else w
    else w

/-- A channel notice: to its fans and to the Sequence Engine (R143). -/
def channelNotice (c : Fin 16) (w : Work) : Work :=
  let w1 := handChannel c w
  w1.st.activation.foldl (judgeGate c) w1

/-- The SUPPLY-LOW event: every damper drive, then every zone with an instance (R79, R148). -/
def supplyLowEvent (w : Work) : Work :=
  let w1 := (List.finRange 64).foldl (fun w a => damperEvent a damperSupplyLow w) w
  w1.map (fun s => (List.finRange 24).foldl suspendZone s)

/-- The SUPPLY-OK event: every damper drive, then every zone (R79, R148). -/
def supplyOkEvent (w : Work) : Work :=
  let w1 := (List.finRange 64).foldl (fun w a => damperEvent a damperSupplyOk w) w
  (List.finRange 24).foldl unsuspendZone w1

end Sys2Proof.Machine
end

