-- ==== Sys2Proof/Machine/Answers.lean ====
section
/-!
DEFINITION. How a request is taken and answered: the reply a block gives, and the port that holds its answer (R166, R169).
-/

namespace Sys2Proof.Machine

/-- What the owning block of a request answers: the result and the items after it (R169). -/
structure Reply where
  result : Result
  body : AnswerBody
deriving DecidableEq, Repr, Inhabited

/-- A reply of the result alone. -/
def Reply.bare (r : Result) : Reply := { result := r, body := .plain }

/-- A refusal, and any other reply, that leaves the state as it was. -/
def unchanged (s : State) (r : Reply) : State × Reply := (s, r)

/-- A request refused with its result alone. -/
def refuse (s : State) (r : Result) : State × Reply := (s, Reply.bare r)

/-- A port that holds the answer to a request taken now: TAKING, with nothing half-received and nothing sent (R165, R166, R169). -/
def Port.holding (now : Nat) (a : Answer) (p : Port) : Port :=
  { p with reception := .taking, buffer := [], gapTimer := none, takenAt := now, answer := some a, sending := [] }

/-- A port that is TAKING or ANSWERING: it takes no second request, and its answer, once built, does not change (R169, R170). -/
def Port.busy (p : Port) : Bool := p.reception == .taking || p.reception == .answering

/-- The part takes a request on a line: it runs, and the port of the line is not busy with another (R12, R14, R170). -/
abbrev State.takes (s : State) (l : Line) : Prop := s.power = .running ∧ (s.port l).busy = false

/-- The answer to a request of a kind stands at the port of its line (R169). -/
def deliver (line : Line) (kind : Byte) (r : Reply) (s : State) : State :=
  s.setPort line ((s.port line).holding s.now { kind := kind, result := r.result, body := r.body })

/-- A request of a kind taken whole at one event and answered (R167, R169). -/
def answered (line : Line) (kind : Byte) (take : State → State × Reply) (s : State) : State :=
  deliver line kind (take s).2 (take s).1

/-- A request command: taken and answered where the part takes a request on its line; otherwise it is not received (R165, R170). -/
def request (line : Line) (kind : Byte) (take : State → State × Reply) (s : State) : Out :=
  .next (if s.takes line then answered line kind take s else s)

/-- An event command: its effect while the part runs. -/
def event (effect : State → State) (s : State) : Out := .next (whileRunning s effect)

/-- An event whose operations also give a value, then the engine (log 12). -/
def runEventWith {α : Type} (s : State) (f : Work → Work × α) : State × α :=
  ((engineLoop engineRounds (f (Work.start s)).1).st, (f (Work.start s)).2)

end Sys2Proof.Machine
end

