-- ==== Sys2Proof/Machine/Store.lean ====
section
/-!
DEFINITION. The Configuration Store's images by themselves: the layouts of R190, the blank images (R183), reading and writing
their bytes, the definitions an image lays out, and validation (R10, R140, R184).

An image is kept as the list of its bytes that differ from the blank image, at strictly rising offsets; an offset that
is not listed holds the blank image's byte.
-/

namespace Sys2Proof.Machine

/-! ## The bytes of an image -/

/-- The size of a sector in bytes (R181). -/
def sectorSize : Sector → Nat
  | .identity => 14
  | .plant => 1728
  | .sequences => 16584

/-- The byte of the blank image at an offset (R183, R190): a site code of zero bytes with times of 10 s; every actuator UNUSED
and every channel unscaled; every zone unconfigured and every stage UNUSED; every other field absent. The gate mode of an UNUSED
stage is absent, FFh, and not 00h, no gate: R183 and R190 leave open which of the two it is (DESIGN CHOICE, unsafe, log 36). -/
def blankByte : Sector → Nat → Byte
  | .identity, off => if off < 8 then 0x00 else if off % 2 = 0 then 0x00 else 0x64
  | .plant, off =>
    if off < 1600 then (if off % 25 = 0 then 0x00 else 0xFF)
    else if (off - 1600) % 8 < 4 then 0xFF
    else if off % 2 = 0 then 0x80
    else 0x00
  | .sequences, off =>
    if off < 456 then (if off % 19 = 0 then 0x00 else 0xFF)
    else
      let field := (off - 456) % 63
      if field = 0 then 0x00
      else if field = 9 then 0x80
      else if field = 10 then 0x00
      else 0xFF

/-- The byte listed at an offset, if one is. -/
def listedByte : Image → Nat → Option Byte
  | [], _ => none
  | (o, b) :: rest, off => if o = off then some b else listedByte rest off

/-- The byte of an image at an offset. -/
def readByte (sec : Sector) (img : Image) (off : Nat) : Byte := (listedByte img off).getD (blankByte sec off)

/-- A list of cells with the cell of an offset removed. -/
def eraseCell (off : Nat) : Image → Image
  | [] => []
  | (o, b) :: rest => if o = off then rest else (o, b) :: eraseCell off rest

/-- A list of rising cells with a cell put in at its offset, in place of one that is there. -/
def putCell (off : Nat) (b : Byte) : Image → Image
  | [] => [(off, b)]
  | (o, c) :: rest =>
    if off < o then (off, b) :: (o, c) :: rest
    else if off = o then (off, b) :: rest
    else (o, c) :: putCell off b rest

/-- One byte of an image written; writing the blank image's byte removes the entry. -/
def writeByte (sec : Sector) (img : Image) (off : Nat) (b : Byte) : Image :=
  if b = blankByte sec off then eraseCell off img else putCell off b img

/-- Bytes written from an offset onward (R183). -/
def writeBytes (sec : Sector) : Image → Nat → List Byte → Image
  | img, _, [] => img
  | img, off, b :: bs => writeBytes sec (writeByte sec img off b) (off + 1) bs

/-- Bytes read from an offset onward (R182). -/
def readBytes (sec : Sector) (img : Image) (off len : Nat) : List Byte :=
  (List.range len).map (fun i => readByte sec img (off + i))

/-- The bytes of an image are in the canonical form: strictly rising offsets, none at or beyond a bound, none equal to the
blank image's byte. `low` is the least offset allowed. -/
def canonicalFrom (sec : Sector) : Nat → Image → Bool
  | _, [] => true
  | low, (o, b) :: rest =>
    decide (low ≤ o) && decide (o < sectorSize sec) && decide (b ≠ blankByte sec o) && canonicalFrom sec (o + 1) rest

/-- The canonical form of an image of a sector. -/
def Memory.wf (sec : Sector) (img : Image) : Bool := canonicalFrom sec 0 img

/-- The image left by a write that was cut off (R182, R188): free bytes at every offset (log 5). -/
def tornImage (sec : Sector) (cut : Nat) : Image :=
  ((List.range (sectorSize sec)).map (fun off => (off, Config.partWrittenByte cut off))).filter
    (fun c => decide (c.2 ≠ blankByte sec c.1))

/-! ## Fields (R190) -/

/-- A one-byte field; FFh means absent. -/
def byteField (sec : Sector) (img : Image) (off : Nat) : Option Nat :=
  let b := readByte sec img off
  if b = 0xFF then none else some b.toNat

/-- The two bytes of a field, high byte first. -/
def halfField (sec : Sector) (img : Image) (off : Nat) : Half := readByte sec img off ++ readByte sec img (off + 1)

/-- An unsigned two-byte field; FFFFh means absent. -/
def unsignedField (sec : Sector) (img : Image) (off : Nat) : Option Nat :=
  let h := halfField sec img off
  if h = 0xFFFF then none else some h.toNat

/-- A signed two-byte field; 8000h means absent. -/
def signedField (sec : Sector) (img : Image) (off : Nat) : Option Int :=
  let h := halfField sec img off
  if h = 0x8000 then none else some h.toInt

/-- Whether a present field lies in a range. -/
def within (low high : Nat) (v : Option Nat) : Bool :=
  match v with
  | none => false
  | some n => decide (low ≤ n ∧ n ≤ high)

/-- Whether a field is absent or lies in a range. -/
def absentOrWithin (low high : Nat) (v : Option Nat) : Bool := v.isNone || within low high v

/-- Whether a signed field lies within −2000..2000 Pa. -/
def pressureInRange (v : Option Int) : Bool :=
  match v with
  | none => false
  | some n => decide (-2000 ≤ n ∧ n ≤ 2000)

/-- A number below a bound. -/
def finOf (n : Nat) (v : Option Nat) : Option (Fin n) :=
  match v with
  | none => none
  | some k => if h : k < n then some ⟨k, h⟩ else none

/-! ## Actuator records (R3 to R7, R190) -/

/-- Where an actuator record begins. -/
def actuatorBase (a : Nat) : Nat := 25 * a

/-- A one-byte field of an actuator record. -/
def actByte (img : Image) (a field : Nat) : Option Nat := byteField .plant img (actuatorBase a + field)

/-- A two-byte field of an actuator record. -/
def actHalf (img : Image) (a field : Nat) : Option Nat := unsignedField .plant img (actuatorBase a + field)

/-- Whether a proof mode code requires the open switch (R7). -/
def needsOpenSwitch (mode : Option Nat) : Bool := mode == some 1 || mode == some 2

/-- Whether a proof mode code requires the closed switch (R7). -/
def needsClosedSwitch (mode : Option Nat) : Bool := mode == some 1 || mode == some 3

/-- A damper position as a rest value or a fail position is coded. -/
def sideField (v : Option Nat) : Option Side :=
  if v = some 1 then some .openSide else if v = some 2 then some .closedSide else none

/-- A proof mode code (R190). -/
def modeField (v : Option Nat) : Option ProofMode :=
  if v = some 1 then some .bothSwitches
  else if v = some 2 then some .openSwitch
  else if v = some 3 then some .closedSwitch
  else if v = some 4 then some .timed
  else none

/-- An input and its filter count, at a field of a record. -/
def inputField (img : Image) (a field : Nat) : Option InputRef := do
  let input ← finOf 128 (actByte img a field)
  let count ← actByte img a (field + 1)
  return { input := input, count := count }

/-- A switch of a damper record, where its mode requires one. -/
def switchField (required : Bool) (img : Image) (a field : Nat) : Option (Option InputRef) :=
  if required then (inputField img a field).map some else some none

/-- The speed output of a fan record with its limits (R3). -/
def speedField (img : Image) (a : Nat) : Option SpeedDef := do
  let output ← finOf 16 (actByte img a 4)
  let smin ← actHalf img a 14
  let smax ← actHalf img a 16
  let rate ← actByte img a 18
  return { output := output, smin := smin, smax := smax, rate := rate }

/-- The pressure channel of a fan record with its threshold (R3). -/
def pressureField (img : Image) (a : Nat) : Option PressureDef := do
  let channel ← finOf 16 (actByte img a 10)
  let threshold ← actHalf img a 12
  return { channel := channel, threshold := threshold }

/-- The FAN record laid out at a number (R3). -/
def fanField (img : Image) (a : Nat) : Option FanDef := do
  let runOutput ← finOf 96 (actByte img a 2)
  let start ← actHalf img a 20
  let stop ← actHalf img a 22
  let attempts ← actByte img a 11
  return {
    runOutput := runOutput
    speed := speedField img a
    proofInput := inputField img a 6
    pressure := pressureField img a
    startProofTime := start
    stopProofTime := stop
    restartAttempts := attempts }

/-- The REVERSING record laid out at a number (R5). -/
def reversingField (img : Image) (a : Nat) : Option ReversingDef := do
  let rest ← sideField (actByte img a 1)
  let openOutput ← finOf 96 (actByte img a 2)
  let closeOutput ← finOf 96 (actByte img a 3)
  let mode ← modeField (actByte img a 5)
  let openSwitch ← switchField (needsOpenSwitch (actByte img a 5)) img a 6
  let closedSwitch ← switchField (needsClosedSwitch (actByte img a 5)) img a 8
  let travel ← actHalf img a 20
  let dead ← actHalf img a 22
  let limit ← actByte img a 11
  return {
    rest := rest
    openOutput := openOutput
    closeOutput := closeOutput
    mode := mode
    openSwitch := openSwitch
    closedSwitch := closedSwitch
    travelLimit := travel
    deadTime := dead
    reversalLimit := limit }

/-- The SPRING record laid out at a number (R6). -/
def springField (img : Image) (a : Nat) : Option SpringDef := do
  let rest ← sideField (actByte img a 1)
  let driveOutput ← finOf 96 (actByte img a 2)
  let mode ← modeField (actByte img a 5)
  let openSwitch ← switchField (needsOpenSwitch (actByte img a 5)) img a 6
  let closedSwitch ← switchField (needsClosedSwitch (actByte img a 5)) img a 8
  let fail ← sideField (actByte img a 19)
  let travel ← actHalf img a 20
  return {
    rest := rest
    driveOutput := driveOutput
    failPosition := fail
    mode := mode
    openSwitch := openSwitch
    closedSwitch := closedSwitch
    travelLimit := travel }

/-- The actuator record laid out at a number (R1, R190); bytes that lay out none, which no validated image holds, give an
UNUSED record. -/
def actuatorDefAt (img : Image) (a : Nat) : ActuatorDef :=
  match actByte img a 0 with
  | some 1 => ((fanField img a).map .fan).getD .unused
  | some 2 => ((reversingField img a).map .reversing).getD .unused
  | some 3 => ((springField img a).map .spring).getD .unused
  | _ => .unused

/-- The scaling laid out for a channel (R140, R190). -/
def scalingAt (img : Image) (c : Nat) : Option Scaling := do
  let clo ← unsignedField .plant img (1600 + 8 * c)
  let chi ← unsignedField .plant img (1600 + 8 * c + 2)
  let elo ← signedField .plant img (1600 + 8 * c + 4)
  let ehi ← signedField .plant img (1600 + 8 * c + 6)
  return { clo := clo, chi := chi, elo := elo, ehi := ehi }

/-- The PLANT definitions an image lays out. -/
def plantOf (img : Image) : PlantImage where
  acts := Vector.ofFn (fun a : Fin 64 => actuatorDefAt img a)
  scalings := Vector.ofFn (fun c : Fin 16 => scalingAt img c)

/-! ## Zones and stages (R40, R60, R61, R190) -/

/-- Where a zone definition begins. -/
def zoneBase (z : Nat) : Nat := 19 * z

/-- Where a stage record begins. -/
def stageBase (n : Nat) : Nat := 456 + 63 * n

/-- The byte of a zone definition. -/
def zoneByte (img : Image) (z field : Nat) : Nat := (readByte .sequences img (zoneBase z + field)).toNat

/-- The first stage numbers of a zone definition; each of the 256 values is a stage number. -/
def zoneStages (img : Image) (z : Nat) : List (Fin 256) :=
  (List.range (zoneByte img z 2)).map
    (fun i => ⟨(readByte .sequences img (zoneBase z + 3 + i)).toNat, (readByte .sequences img (zoneBase z + 3 + i)).isLt⟩)

/-- The zone definition laid out at a number (R40). -/
def zoneDefAt (img : Image) (z : Nat) : Option ZoneDef :=
  if zoneByte img z 0 = 1 then
    some {
      sequence := zoneStages img z
      panelA := zoneByte img z 1 % 2 == 1
      panelB := zoneByte img z 1 / 2 % 2 == 1 }
  else none

/-- A one-byte field of a stage record. -/
def stageByte (img : Image) (n field : Nat) : Option Nat := byteField .sequences img (stageBase n + field)

/-- A two-byte field of a stage record. -/
def stageHalf (img : Image) (n field : Nat) : Option Nat := unsignedField .sequences img (stageBase n + field)

/-- The command count of a stage record. -/
def stageCount (img : Image) (n : Nat) : Nat := (readByte .sequences img (stageBase n)).toNat

/-- The actuator byte of a command entry. -/
def entryActuator (img : Image) (n i : Nat) : Byte := readByte .sequences img (stageBase n + 15 + 4 * i)

/-- The command of a command entry; none for an unknown code. -/
def entryCommand (img : Image) (n i : Nat) : Option Command :=
  let off := stageBase n + 15 + 4 * i
  let code := readByte .sequences img (off + 1)
  let speed := halfField .sequences img (off + 2)
  if code = 0x01 then some .openPos
  else if code = 0x02 then some .closedPos
  else if code = 0x03 then some .off
  else if code = 0x04 then some (.run speed.toNat)
  else none

/-- A command entry of a stage record. -/
def entryAt (img : Image) (n i : Nat) : Option StageCommand := do
  let a ← finOf 64 (some (entryActuator img n i).toNat)
  let c ← entryCommand img n i
  return { actuator := a, cmd := c }

/-- A comparison code (R190). -/
def comparisonField (v : Option Nat) : Option Comparison :=
  if v = some 1 then some .ge
  else if v = some 2 then some .lt
  else if v = some 3 then some .within
  else if v = some 4 then some .outside
  else none

/-- The gate of a stage record (R61); the gate wait of a SKIP-IF gate is absent and stands as 0. -/
def gateAt (img : Image) (n : Nat) : Option Gate := do
  let mode ← (match stageByte img n 2 with
    | some 1 => some GateMode.skipIf
    | some 2 => some GateMode.waitUntil
    | _ => none)
  let channel ← finOf 16 (stageByte img n 3)
  let comparison ← comparisonField (stageByte img n 4)
  let value ← signedField .sequences img (stageBase n + 9)
  let tolerance ← stageHalf img n 11
  return {
    channel := channel
    comparison := comparison
    value := value
    tolerance := tolerance
    mode := mode
    wait := if mode = .waitUntil then (stageHalf img n 13).getD 0 else 0 }

/-- The stage record laid out at a number (R60). -/
def stageDefAt (img : Image) (n : Nat) : Option StageDef :=
  if stageCount img n = 0 then none
  else
    some {
      commands := (List.range (stageCount img n)).filterMap (entryAt img n)
      settleTime := (stageHalf img n 5).getD 0
      proofWindow := (stageHalf img n 7).getD 0
      gate := gateAt img n
      policy := if stageByte img n 1 = some 2 then .stop else .cont }

/-- The SEQUENCES definitions an image lays out. -/
def sequencesOf (img : Image) : SequenceImage where
  zones := Vector.ofFn (fun z : Fin 24 => zoneDefAt img z)
  stages := Vector.ofFn (fun n : Fin 256 => stageDefAt img n)

/-! ## The IDENTITY image (R175, R181) -/

/-- The site code of an IDENTITY image. -/
def siteCodeOf (img : Image) : List Byte := readBytes .identity img 0 8

/-- The supervision time of a line in an IDENTITY image, in tenths of a second; the Building Line has none (R173). -/
def supervisionTimeOf (img : Image) : Line → Nat
  | .panelA => (halfField .identity img 8).toNat
  | .panelB => (halfField .identity img 10).toNat
  | .override => (halfField .identity img 12).toNat
  | .building => 0

/-! ## Validation of an actuator record (R10) -/

/-- A terminal of one of the three exclusive spaces (R9). -/
inductive Terminal where
  | relay (n : Nat)
  | speed (n : Nat)
  | input (n : Nat)
deriving DecidableEq, Repr, Inhabited

/-- The switch inputs that belong to a damper record (R7). -/
def switchTerminals (img : Image) (a : Nat) : List Terminal :=
  (if needsOpenSwitch (actByte img a 5) then (actByte img a 6).toList.map .input else []) ++
    (if needsClosedSwitch (actByte img a 5) then (actByte img a 8).toList.map .input else [])

/-- The terminals a record names, each once for each naming (R9). -/
def terminalsOf (img : Image) (a : Nat) : List Terminal :=
  match actByte img a 0 with
  | some 1 =>
    (actByte img a 2).toList.map .relay ++ (actByte img a 4).toList.map .speed ++ (actByte img a 6).toList.map .input
  | some 2 =>
    (actByte img a 2).toList.map .relay ++ (actByte img a 3).toList.map .relay ++ switchTerminals img a
  | some 3 => (actByte img a 2).toList.map .relay ++ switchTerminals img a
  | _ => []

/-- Whether no terminal stands twice in a list. -/
def noneTwice {α : Type} [DecidableEq α] : List α → Bool
  | [] => true
  | x :: xs => !(xs.contains x) && noneTwice xs

/-- An input is present with its filter count, where a record requires it. -/
def inputPresent (img : Image) (a field : Nat) : Bool :=
  (actByte img a field).isSome && (actByte img a (field + 1)).isSome

/-- An input and its filter count are within their ranges (R3, R7). -/
def inputInRange (img : Image) (a field : Nat) : Bool :=
  within 0 127 (actByte img a field) && within 1 15 (actByte img a (field + 1))

/-- Check 2 for the switches of a damper record. -/
def switchesPresent (img : Image) (a : Nat) : Bool :=
  (!(needsOpenSwitch (actByte img a 5)) || inputPresent img a 6) &&
    (!(needsClosedSwitch (actByte img a 5)) || inputPresent img a 8)

/-- Check 3 for the switches of a damper record. -/
def switchesInRange (img : Image) (a : Nat) : Bool :=
  (!(needsOpenSwitch (actByte img a 5)) || inputInRange img a 6) &&
    (!(needsClosedSwitch (actByte img a 5)) || inputInRange img a 8)

/-- Check 2 of R10 for a FAN record. -/
def fanPresent (img : Image) (a : Nat) : Bool :=
  (actByte img a 1).isSome && (actByte img a 2).isSome && (actByte img a 11).isSome &&
    (actHalf img a 20).isSome && (actHalf img a 22).isSome &&
    ((actByte img a 6).isNone || (actByte img a 7).isSome) &&
    ((actByte img a 10).isSome == (actHalf img a 12).isSome) &&
    ((actByte img a 4).isSome == (actHalf img a 14).isSome) &&
    ((actByte img a 4).isSome == (actHalf img a 16).isSome) &&
    ((actByte img a 4).isSome == (actByte img a 18).isSome)

/-- Check 3 of R10 for a FAN record (R3). -/
def fanInRange (img : Image) (a : Nat) : Bool :=
  within 3 3 (actByte img a 1) && within 0 95 (actByte img a 2) && absentOrWithin 0 15 (actByte img a 4) &&
    ((actByte img a 6).isNone || inputInRange img a 6) &&
    absentOrWithin 0 15 (actByte img a 10) && absentOrWithin 0 2000 (actHalf img a 12) &&
    absentOrWithin 0 1000 (actHalf img a 14) && absentOrWithin 0 1000 (actHalf img a 16) &&
    absentOrWithin 1 250 (actByte img a 18) && within 50 1200 (actHalf img a 20) &&
    within 50 3000 (actHalf img a 22) && within 0 3 (actByte img a 11)

/-- Check 2 of R10 for a REVERSING record. -/
def reversingPresent (img : Image) (a : Nat) : Bool :=
  (actByte img a 1).isSome && (actByte img a 2).isSome && (actByte img a 3).isSome && (actByte img a 5).isSome &&
    (actByte img a 11).isSome && (actHalf img a 20).isSome && (actHalf img a 22).isSome && switchesPresent img a

/-- Check 3 of R10 for a REVERSING record (R5). -/
def reversingInRange (img : Image) (a : Nat) : Bool :=
  within 1 2 (actByte img a 1) && within 0 95 (actByte img a 2) && within 0 95 (actByte img a 3) &&
    within 1 4 (actByte img a 5) && within 1 8 (actByte img a 11) && within 50 2400 (actHalf img a 20) &&
    within 2 50 (actHalf img a 22) && switchesInRange img a

/-- Check 2 of R10 for a SPRING record. -/
def springPresent (img : Image) (a : Nat) : Bool :=
  (actByte img a 1).isSome && (actByte img a 2).isSome && (actByte img a 5).isSome && (actByte img a 19).isSome &&
    (actHalf img a 20).isSome && switchesPresent img a

/-- Check 3 of R10 for a SPRING record (R6). -/
def springInRange (img : Image) (a : Nat) : Bool :=
  within 1 2 (actByte img a 1) && within 0 95 (actByte img a 2) && within 1 4 (actByte img a 5) &&
    within 1 2 (actByte img a 19) && within 50 2400 (actHalf img a 20) && switchesInRange img a

/-- Check 7 of R10: a named pressure channel has a scaling in the same image. -/
def channelScaled (img : Image) (a : Nat) : Bool :=
  match actByte img a 10 with
  | none => true
  | some c => (scalingAt img c).isSome

/-- Checks 5 and 6 of R10, given the terminals of the lower-numbered records. -/
def terminalsFree (img : Image) (a : Nat) (lower : List Terminal) : Bool :=
  noneTwice (terminalsOf img a) && (terminalsOf img a).all (fun t => !(lower.contains t))

/-- Checks 2 to 7 of R10 for a FAN record. -/
def fanReason (img : Image) (a : Nat) (lower : List Terminal) : Option Reason :=
  if !fanPresent img a then some .missingField
  else if !fanInRange img a then some .range
  else if (actHalf img a 16).getD 0 < (actHalf img a 14).getD 0 then some .speedLimits
  else if !terminalsFree img a lower then some .terminalTwice
  else if !channelScaled img a then some .channelUnscaled
  else none

/-- Checks 2 to 6 of R10 for a REVERSING record. -/
def reversingReason (img : Image) (a : Nat) (lower : List Terminal) : Option Reason :=
  if !reversingPresent img a then some .missingField
  else if !reversingInRange img a then some .range
  else if !terminalsFree img a lower then some .terminalTwice
  else none

/-- Checks 2 to 6 of R10 for a SPRING record. -/
def springReason (img : Image) (a : Nat) (lower : List Terminal) : Option Reason :=
  if !springPresent img a then some .missingField
  else if !springInRange img a then some .range
  else if !terminalsFree img a lower then some .terminalTwice
  else none

/-- The first failing check of an actuator record (R10). -/
def actuatorReason (img : Image) (a : Nat) (lower : List Terminal) : Option Reason :=
  match readByte .plant img (actuatorBase a) with
  | 0x00 => none
  | 0x01 => fanReason img a lower
  | 0x02 => reversingReason img a lower
  | 0x03 => springReason img a lower
  | _ => some .range

/-- Items 0..63 of PLANT in ascending order; `lower` gathers the terminals of the records that have passed. -/
def actuatorItems (img : Image) : List Nat → List Terminal → Option (Nat × Reason)
  | [], _ => none
  | a :: rest, lower =>
    match actuatorReason img a lower with
    | some r => some (a, r)
    | none => actuatorItems img rest (lower ++ terminalsOf img a)

/-! ## Validation of the other items (R140, R184) -/

/-- The first failing check of a channel scaling (R140). -/
def scalingReason (img : Image) (c : Nat) : Option Reason :=
  let clo := unsignedField .plant img (1600 + 8 * c)
  let chi := unsignedField .plant img (1600 + 8 * c + 2)
  let elo := signedField .plant img (1600 + 8 * c + 4)
  let ehi := signedField .plant img (1600 + 8 * c + 6)
  if clo.isNone && chi.isNone && elo.isNone && ehi.isNone then none
  else if !(clo.isSome && chi.isSome && elo.isSome && ehi.isSome) then some .missingField
  else if !(within 0 1022 clo && pressureInRange elo && pressureInRange ehi) then some .range
  else if !(within (clo.getD 0 + 1) 1023 chi) then some .range
  else none

/-- The first item of a list that fails its own check. -/
def firstFailing (reason : Nat → Option Reason) (base : Nat) : List Nat → Option (Nat × Reason)
  | [] => none
  | i :: rest =>
    match reason i with
    | some r => some (base + i, r)
    | none => firstFailing reason base rest

/-- The cross-check of a stage of the reference SEQUENCES image against a PLANT staging image (R184). -/
def mismatchReason (img ref : Image) (n : Nat) : Option Reason :=
  match stageDefAt ref n with
  | none => none
  | some sd =>
    if sd.commands.all (fun c => kindMatches (actuatorDefAt img c.actuator) c.cmd) then none else some .sequenceMismatch

/-- The first failing check of a zone definition (R184). -/
def zoneReason (img : Image) (z : Nat) : Option Reason :=
  let numbers := (List.range (zoneByte img z 2)).map (fun i => zoneByte img z (3 + i))
  if zoneByte img z 0 = 0 then none
  else if zoneByte img z 0 ≠ 1 then some .range
  else if !(decide (1 ≤ zoneByte img z 1 ∧ zoneByte img z 1 ≤ 3) &&
      decide (1 ≤ zoneByte img z 2 ∧ zoneByte img z 2 ≤ 16)) then some .range
  else if numbers.any (fun n => stageCount img n == 0) then some .stageUnused
  else if !noneTwice numbers then some .stageTwice
  else none

/-- Whether every gate field of a stage record is within its range (R61); a record without a gate has none. A configured stage's gate
mode is 00h for no gate; FFh, absent, is out of range: R60, R184 and R190 leave open whether it stands for no gate too (DESIGN CHOICE,
unsafe, log 39). -/
def gateInRange (img : Image) (n : Nat) : Bool :=
  match stageByte img n 2 with
  | some 0 => true
  | some 1 =>
    within 0 15 (stageByte img n 3) && within 1 4 (stageByte img n 4) &&
      pressureInRange (signedField .sequences img (stageBase n + 9)) && within 0 500 (stageHalf img n 11)
  | some 2 =>
    within 0 15 (stageByte img n 3) && within 1 4 (stageByte img n 4) &&
      pressureInRange (signedField .sequences img (stageBase n + 9)) && within 0 500 (stageHalf img n 11) &&
      within 10 6000 (stageHalf img n 13)
  | _ => false

/-- The kind of the actuator a command entry names in a PLANT image; UNUSED for a number above 63. -/
def entryRecord (plant img : Image) (n i : Nat) : ActuatorDef :=
  if (entryActuator img n i).toNat < 64 then actuatorDefAt plant (entryActuator img n i).toNat else .unused

/-- Check 5 of a stage's command entry (R184): its kind, then its speed. -/
def entryReason (plant img : Image) (n i : Nat) : Option Reason :=
  match entryCommand img n i with
  | none => some .commandKind
  | some c =>
    if !kindMatches (entryRecord plant img n i) c then some .commandKind
    else if !speedInRange c then some .range
    else none

/-- The first failing check of a stage record against the reference PLANT image (R184). Check 5 has two reasons and R184 gives them
no order over the entries: the model judges entry by entry, so the reason is that of the first bad entry (DESIGN CHOICE, unsafe,
log 16). -/
def stageReason (plant img : Image) (n : Nat) : Option Reason :=
  let count := stageCount img n
  let entries := List.range count
  if count = 0 then none
  else if 12 < count then some .range
  else if !(within 1 2 (stageByte img n 1) && within 0 1200 (stageHalf img n 5) && within 100 6000 (stageHalf img n 7) &&
      gateInRange img n) then some .range
  else if (stageHalf img n 7).getD 0 ≤ (stageHalf img n 5).getD 0 then some .settleWindow
  else if entries.any (fun i => entryRecord plant img n i == .unused) then some .actuatorUnused
  else
    match entries.findSome? (entryReason plant img n) with
    | some r => some r
    | none => if !noneTwice (entries.map (entryActuator img n)) then some .actuatorTwice else none

/-- The first failing check of a supervision time, items 1..3 of IDENTITY (R184). -/
def timeReason (img : Image) (i : Nat) : Option Reason :=
  let t := (halfField .identity img (6 + 2 * i)).toNat
  if 20 ≤ t ∧ t ≤ 600 then none else some .range

/-- The first of two results that fails. -/
def orElseFail (x : Option (Nat × Reason)) (y : Unit → Option (Nat × Reason)) : Option (Nat × Reason) :=
  match x with
  | some r => some r
  | none => y ()

/-- Validation of a staging image of a sector against the reference image of the other sector: the first failing item with
its reason, none on a pass (R184). -/
def validate (sec : Sector) (img ref : Image) : Option (Nat × Reason) :=
  match sec with
  | .identity => firstFailing (timeReason img) 0 [1, 2, 3]
  | .plant =>
    orElseFail (actuatorItems img (List.range 64) []) (fun _ =>
      orElseFail (firstFailing (scalingReason img) 64 (List.range 16)) (fun _ =>
        firstFailing (mismatchReason img ref) 80 (List.range 256)))
  | .sequences =>
    orElseFail (firstFailing (zoneReason img) 0 (List.range 24)) (fun _ =>
      firstFailing (stageReason ref img) 24 (List.range 256))

/-! ## What a pass clears (R184) -/

/-- Whether a field belongs to an actuator record of the kind that stands there (R3 to R7, R190). -/
def actuatorFieldBelongs (img : Image) (a field : Nat) : Bool :=
  match actByte img a 0 with
  | some 1 => field ∈ [0, 1, 2, 4, 6, 10, 11, 12, 13, 14, 15, 16, 17, 18, 20, 21, 22, 23] ||
      (field == 7 && (actByte img a 6).isSome)
  | some 2 => field ∈ [0, 1, 2, 3, 5, 11, 20, 21, 22, 23] ||
      (needsOpenSwitch (actByte img a 5) && (field == 6 || field == 7)) ||
      (needsClosedSwitch (actByte img a 5) && (field == 8 || field == 9))
  | some 3 => field ∈ [0, 1, 2, 5, 19, 20, 21] ||
      (needsOpenSwitch (actByte img a 5) && (field == 6 || field == 7)) ||
      (needsClosedSwitch (actByte img a 5) && (field == 8 || field == 9))
  | _ => false

/-- Whether a field belongs to a stage record, by its command count and its gate mode (R60, R61, R184). -/
def stageFieldBelongs (img : Image) (n field : Nat) : Bool :=
  if stageCount img n = 0 then false
  else if 15 ≤ field then decide (field < 15 + 4 * stageCount img n)
  else if field ∈ [3, 4, 9, 10, 11, 12] then stageByte img n 2 == some 1 || stageByte img n 2 == some 2
  else if field ∈ [13, 14] then stageByte img n 2 == some 2
  else true

/-- Whether a byte of a sector belongs to the record it lies in. -/
def byteBelongs (sec : Sector) (img : Image) (off : Nat) : Bool :=
  match sec with
  | .identity => true
  | .plant => if off < 1600 then actuatorFieldBelongs img (off / 25) (off % 25) else true
  | .sequences => if off < 456 then true else stageFieldBelongs img ((off - 456) / 63) ((off - 456) % 63)

/-- The staging image after a pass: every byte that does not belong is set to its absent encoding (R184). -/
def clearForeign (sec : Sector) (img : Image) : Image := img.filter (fun c => byteBelongs sec img c.1)

/-! ## The sectors together -/

/-- The reference image of a sector: its stored image, which a PENDING image already is; the blank image where the mark is
INVALID (R184). -/
def Store.reference (st : Store) (sec : Sector) : Image := if (st.sector sec).valid then (st.sector sec).stored else []

/-- The other sector of a cross-check (R184); IDENTITY has none and names itself. -/
def Sector.crossed : Sector → Sector
  | .identity => .identity
  | .plant => .sequences
  | .sequences => .plant

/-- The image a CONFIG-WRITE works on: the staging image, or a copy of the stored image under a VALID mark, or the blank
image (R183). -/
def SectorState.stagingBase (x : SectorState) : Image :=
  match x.staging with
  | some img => img
  | none => if x.valid then x.stored else []

end Sys2Proof.Machine
end

