-- ==== Sys2Proof/Machine/Apply.lean ====
section
/-!
DEFINITION. Bringing images into force: new drives (R107, R130), the application of each sector (R11, R39, R58, R144, R175,
R187), the end of CONFIG-FAULT (R13, R189), and the completion of a write (R186).
-/

namespace Sys2Proof.Machine

/-! ## New drives -/

/-- A new drive controller for an actuator's record, handed its REST value (R12, R107, R130). `since` is the event of a PLANT
application, and absent at a cold start and at the end of CONFIG-FAULT. -/
def State.freshDrive (s : State) (since : Option Nat) (a : Fin 64) : Drive :=
  match s.damperCtx a, (restCommand (s.record a)).bind sideOf with
  | some ctx, some rest => .damper (createDamper ctx rest s.supply.state since)
  | _, _ =>
    match s.fanCtx a with
    | some ctx => .fan (createFan ctx)
    | none => .none

/-- An empty claim list of a record: its target is the REST value (R28, R37). -/
def emptyList (d : ActuatorDef) : ClaimList where
  claims := []
  target := restCommand d
  normalShed := false

/-- Every list empty under a PLANT image (R37, R39). -/
def emptyLists (p : PlantImage) : Vector ClaimList 64 := Vector.ofFn (fun a : Fin 64 => emptyList p.acts[a])

/-- A new drive for every record (R12). -/
def State.freshDrives (s : State) (since : Option Nat) : Vector Drive 64 := Vector.ofFn (s.freshDrive since)

/-! ## PLANT (R11, R39, R144) -/

/-- A channel at the application of a PLANT image: a changed channel is judged anew from its kept window, with no last valid
value to hold (R144). -/
def appliedChannel (old new : Option Scaling) (c : Channel) : Channel :=
  if old = new then c else judgeChannel new { c with lastValid := none }

/-- The state under a new PLANT image, before any drive is touched: definitions, filter counts (R134), empty lists, channels. -/
def underPlant (p : PlantImage) (s : State) : State :=
  { s with
    plant := p
    filters := p.filters
    lists := emptyLists p
    channels := Vector.ofFn (fun c : Fin 16 => appliedChannel s.plant.scalings[c] p.scalings[c] s.channels[c]) }

/-- The drives after a PLANT application: a changed record's drive is new, an unchanged record keeps its own (R11). -/
def appliedDrives (old : State) (s : State) : Vector Drive 64 :=
  Vector.ofFn (fun a : Fin 64 => if old.record a = s.record a then old.drive a else s.freshDrive (some s.now) a)

/-- The target handed to an unchanged record's drive where it changed (R11 step 5). -/
def handApplied (old : State) (w : Work) (a : Fin 64) : Work :=
  if old.record a = w.st.record a ∧ (old.claimList a).target ≠ (w.st.claimList a).target then
    match (w.st.claimList a).target with
    | some t => handTarget a t w
    | none => w
  else w

/-- The notice of a changed channel to the fans that keep their drives (R143, R144). -/
def noticeApplied (old : State) (w : Work) (c : Fin 16) : Work :=
  if channelChanged (old.channel c) (w.st.channel c) then
    (List.finRange 64).foldl
      (fun w a => if provesOn c (w.st.record a) && old.record a == w.st.record a then fanEvent a fanChannel w else w) w
  else w

/-- The application of a PLANT image (R11, R39, R144, R187). The rules give no order between the judging of a changed channel and the
handing of a changed target to a drive that is kept: the model judges the channels first, so a drive takes its REST target under the new
scalings, and takes the channels' notices last (DESIGN CHOICE, unsafe, log 35). -/
def applyPlant (p : PlantImage) (w : Work) : Work :=
  let old := w.st
  let w1 := w.map (fun s => let s := underPlant p s; { s with drives := appliedDrives old s })
  let w2 := (List.finRange 64).foldl (handApplied old) w1
  ((List.finRange 16).foldl (noticeApplied old) w2).map State.raiseFlags

/-! ## SEQUENCES and IDENTITY -/

/-- The application of a SEQUENCES image: the pool and the zone definitions are replaced; the zone records keep their records
of past runs (R58, R60, R187). -/
def applySequences (q : SequenceImage) (w : Work) : Work := w.map (fun s => { s with sequences := q }.raiseFlags)

/-- A port takes its new supervision time; a LIVE line's timer is restarted at it (R175). -/
def Port.takeTime (now time : Nat) (p : Port) : Port :=
  { p with
    supervisionTime := time
    supervisionTimer := if p.line = .live then some (now + tenthsToMs time) else p.supervisionTimer }

/-- One supervised line takes its time from an IDENTITY image. -/
def takeTimeOf (img : Image) (s : State) (l : Line) : State :=
  s.setPort l ((s.port l).takeTime s.now (supervisionTimeOf img l))

/-- The application of an IDENTITY image (R175, R186). It sets no change flag: R187's sentence on the flags stands after its
bullets for PLANT and SEQUENCES, and R186 applies IDENTITY apart from them (DEDUCED, unsafe, log 15). -/
def applyIdentity (img : Image) (s : State) : State :=
  [Line.panelA, .panelB, .override].foldl (takeTimeOf img) { s with siteCode := some (siteCodeOf img) }

/-! ## The activation states -/

/-- The activation state of a sector written. -/
def State.setActivation (s : State) (sec : Sector) (act : Activation) : State :=
  { s with store := s.store.setSector sec { s.store.sector sec with activation := act } }

/-- The stored image of a sector is taken into force, and its activation state becomes NONE (R187). -/
def applySector (sec : Sector) (w : Work) : Work :=
  let img := (w.st.store.sector sec).stored
  let w1 := w.map (fun s => s.setActivation sec .none)
  match sec with
  | .identity => w1.map (applyIdentity img)
  | .plant => applyPlant (plantOf img) w1
  | .sequences => applySequences (sequencesOf img) w1

/-- Whether an image may be applied: the Activation List is empty and no override stands (R187). -/
def State.mayApply (s : State) : Bool := s.activation.isEmpty && s.overrides == 0

/-- A sector's PENDING image is applied. -/
def applyIfPending (sec : Sector) (w : Work) : Work :=
  if (w.st.store.sector sec).activation = .pending then applySector sec w else w

/-- The activation-empty and the override-empty event at the Configuration Store (R42, R155, R187): a PENDING image is applied
if the Activation List is empty and no override stands. -/
def storeEmptied (w : Work) : Work :=
  if w.st.mayApply then applyIfPending .sequences (applyIfPending .plant w) else w

/-! ## CONFIG-FAULT (R13, R189) -/

/-- The PLANT definitions under the sector's mark: the stored image, or every record UNUSED under an INVALID mark (R13). -/
def Store.startPlant (st : Store) : PlantImage := if st.plant.valid then plantOf st.plant.stored else State.reset.plant

/-- The SEQUENCES definitions under the sector's mark: the stored image, or every zone unconfigured and every stage UNUSED under an
INVALID mark (R58, R82). -/
def Store.startSequences (st : Store) : SequenceImage :=
  if st.sequences.valid then sequencesOf st.sequences.stored else State.reset.sequences

/-- In CONFIG-FAULT the definitions follow the two marks, for reads and cross-checks only (R13, R58, R82, R145, R186): the lists are
empty under them and the channels are judged by their scalings. No drive is created, and the filter counts, which follow an
application alone (R134), stay. -/
def followMarks (s : State) : State :=
  let p := s.store.startPlant
  { s with
    plant := p
    sequences := s.store.startSequences
    lists := emptyLists p
    channels := Vector.ofFn (fun c : Fin 16 => judgeChannel p.scalings[c] s.channels[c]) }

/-- A channel at the end of CONFIG-FAULT: judged anew from its kept window with its kept last valid value (R145). -/
def channelAtFaultEnd (scaling : Option Scaling) (c : Channel) : Channel := judgeChannel scaling c

/-- The end of CONFIG-FAULT: both stored images are taken into force, every activation state is NONE, and the Plant Table
proceeds through steps 3 and 4 of R12 (R13, R189). -/
def endConfigFault (s : State) : State :=
  let p := plantOf s.store.plant.stored
  let s1 := ((s.setActivation .identity .none).setActivation .plant .none).setActivation .sequences .none
  let s2 := { s1 with
    configFault := false
    plant := p
    filters := p.filters
    sequences := sequencesOf s.store.sequences.stored
    lists := emptyLists p
    channels := Vector.ofFn (fun c : Fin 16 => channelAtFaultEnd p.scalings[c] s.channels[c]) }
  { s2 with drives := s2.freshDrives none }

/-- In CONFIG-FAULT a completed image is taken into force for reads and cross-checks only (R186, R189). -/
def takeForReads (sec : Sector) (s : State) : State := followMarks (s.setActivation sec .none)

/-! ## Writes (R185, R186) -/

/-- A sector at the start of its write (R185 step 4); the staging image is the one that has passed validation. -/
def SectorState.beginWrite (img : Image) (x : SectorState) : SectorState :=
  { x with valid := false, activation := .writing, staging := some img }

/-- The write of a sector begins (R185 step 4). In CONFIG-FAULT the definitions follow the mark that it makes INVALID (R13, R58,
R82); otherwise the images in force stay. -/
def startWrite (sec : Sector) (img : Image) (s : State) : State :=
  let s1 := { s with store := s.store.setSector sec ((s.store.sector sec).beginWrite img) }
  if s.configFault && sec != .identity then followMarks s1 else s1

/-- A sector at the completion of its write: the stored image holds the staging image under a VALID mark (R186). -/
def SectorState.endWrite (x : SectorState) : SectorState :=
  { valid := true, activation := .none, stored := x.staging.getD x.stored, staging := none }

/-- What follows the completion of a write of PLANT or SEQUENCES, by the cases of R186. -/
def afterWrite (sec : Sector) (s : State) : State :=
  if s.configFault then
    if s.store.plant.valid && s.store.sequences.valid then endConfigFault s else takeForReads sec s
  else if s.mayApply then runEvent s (applySector sec)
  else s.setActivation sec .pending

/-- The completion of the write in progress; no event where no sector is WRITING (R186). -/
def completeWrite (s : State) : State :=
  match s.store.writing with
  | none => s
  | some sec =>
    let s1 := { s with store := s.store.setSector sec (s.store.sector sec).endWrite }
    match sec with
    | .identity => applyIdentity s1.store.identity.stored s1
    | .plant => afterWrite .plant s1
    | .sequences => afterWrite .sequences s1

end Sys2Proof.Machine
end

