-- ==== Sys2Proof/Machine/ConfigRequests.lean ====
section
/-!
DEFINITION. The requests of the Configuration Store: CONFIG-READ, CONFIG-WRITE, CONFIG-ACTIVATE (R182 to R185), and the
completion of a write (R186).
-/

namespace Sys2Proof.Machine

/-- The longest chunk of a CONFIG-READ or CONFIG-WRITE (R182, R183). -/
def maxChunk : Nat := 96

/-- The image a CONFIG-READ reads: STORED or STAGING (R182, R190); none for STAGING with no staging image. -/
def readSource (x : SectorState) (source : Byte) : Option Image := if source = 0x01 then some x.stored else x.staging

/-- The checks of R182 from check 2 on. -/
def configReadFields (sector source : Byte) (offset : Nat) (length : Nat) (s : State) : Reply :=
  if s.store.writing.isSome then Reply.bare .busy
  else
    match sectorOf sector with
    | none => Reply.bare .refusedRange
    | some sec =>
      if sectorSize sec < offset + length then Reply.bare .refusedRange
      else if (source ≠ 0x01 ∧ source ≠ 0x02) ∨ length < 1 ∨ maxChunk < length then Reply.bare .refusedForm
      else
        match readSource (s.store.sector sec) source with
        | none => Reply.bare .refusedState
        | some img =>
          { result := .done
            body := .configRead (s.store.sector sec).valid (s.store.sector sec).activation
              (readBytes sec img offset length) }

/-- CONFIG-READ (R182). -/
def takeConfigRead (body : List Byte) (s : State) : State × Reply :=
  match body with
  | [sector, source, hi, lo, length] =>
    unchanged s (configReadFields sector source (halfOf hi lo).toNat length.toNat s)
  | _ => refuse s .refusedForm

/-- The checks of R183 from check 2 on, and the write. -/
def configWriteFields (sector : Byte) (offset : Nat) (chunk : List Byte) (s : State) : State × Reply :=
  if s.store.writing.isSome then refuse s .busy
  else
    match sectorOf sector with
    | none => refuse s .refusedRange
    | some sec =>
      if sectorSize sec < offset + chunk.length then refuse s .refusedRange
      else if s.keyOn = false then refuse s .refusedKey
      else
        let x := s.store.sector sec
        ({ s with
            store := s.store.setSector sec { x with staging := some (writeBytes sec x.stagingBase offset chunk) } },
          { result := .done, body := .configWrite sec offset chunk.length })

/-- CONFIG-WRITE (R183). -/
def takeConfigWrite (body : List Byte) (s : State) : State × Reply :=
  match body with
  | sector :: hi :: lo :: chunk =>
    if 1 ≤ chunk.length ∧ chunk.length ≤ maxChunk then configWriteFields sector (halfOf hi lo).toNat chunk s
    else refuse s .refusedForm
  | _ => refuse s .refusedForm

/-- DISCARD (R185). -/
def discardStaging (sec : Sector) (s : State) : State × Reply :=
  let x := s.store.sector sec
  if x.staging.isSome then
    ({ s with store := s.store.setSector sec { x with staging := none } }, Reply.bare .done)
  else refuse s .noChange

/-- Step 3 of an APPLY: IDENTITY passes in every state, the others only with every zone NORMAL and no override (R185). -/
def State.mayActivate (s : State) (sec : Sector) : Bool :=
  sec == .identity || (s.allZonesNormal && s.overrides == 0)

/-- APPLY (R185): the four steps. -/
def applyStaging (sec : Sector) (s : State) : State × Reply :=
  match (s.store.sector sec).staging with
  | none => refuse s .refusedState
  | some img =>
    match validate sec img (s.store.reference sec.crossed) with
    | some (item, reason) => (s, { result := .refusedConfig, body := .invalid item reason })
    | none =>
      if s.mayActivate sec then
        (startWrite sec (clearForeign sec img) s, { result := .done, body := .writing sec })
      else
        ({ s with store := s.store.setSector sec { s.store.sector sec with staging := some (clearForeign sec img) } },
          Reply.bare .refusedState)

/-- CONFIG-ACTIVATE (R185): the checks, then the action; 01h is APPLY, 02h is DISCARD (R190). -/
def takeConfigActivate (body : List Byte) (s : State) : State × Reply :=
  match body with
  | [sector, action] =>
    if s.store.writing.isSome then refuse s .busy
    else
      match sectorOf sector with
      | none => refuse s .refusedRange
      | some sec =>
        if action = 0x01 then applyStaging sec s
        else if action = 0x02 then discardStaging sec s
        else refuse s .refusedForm
  | _ => refuse s .refusedForm

/-- CONFIG-READ. -/
def execConfigRead (body : List Byte) (s : State) : Out := request .building 0x40 (takeConfigRead body) s

/-- CONFIG-WRITE. -/
def execConfigWrite (body : List Byte) (s : State) : Out := request .building 0x41 (takeConfigWrite body) s

/-- CONFIG-ACTIVATE with action APPLY. -/
def execConfigActivateApply (sector : Byte) (s : State) : Out :=
  request .building 0x42 (takeConfigActivate [sector, 0x01]) s

/-- CONFIG-ACTIVATE with action DISCARD. -/
def execConfigActivateDiscard (sector : Byte) (s : State) : Out :=
  request .building 0x42 (takeConfigActivate [sector, 0x02]) s

/-- The sector write in progress completes (R186). -/
def execWriteCompletion (s : State) : Out := event completeWrite s

end Sys2Proof.Machine
end

