-- ==== Sys2Proof/Machine/OverrideRequests.lean ====
section
/-!
DEFINITION. The requests of the Override Line: OVERRIDE-SET, OVERRIDE-RELEASE, STAND-DOWN, RESUME (R152 to R160), and
FAULT-CLEAR, which the Building Line may also send (R102, R121, R171).
-/

namespace Sys2Proof.Machine

/-! ## OVERRIDE-SET (R152, R153) -/

/-- Whether a placing inserted a claim that its source did not hold, which counts an override (R151). -/
def Placing.inserted : Placing → Bool
  | .placed => true
  | .placedShedding _ => true
  | .same => false
  | .replaced => false
  | .shedAtOnce => false

/-- The OVERRIDE claim placed, and counted where the list held none (R151, R152). -/
def placeOverride (a : Fin 64) (cmd : Command) (w : Work) : Work × Placing :=
  let r := placeOp a .override cmd w
  (r.1.map (fun s => { s with overrides := s.overrides + if r.2.inserted then 1 else 0 }), r.2)

/-- The result of a placing (R32, R152). -/
def Placing.result : Placing → Result
  | .same => .noChange
  | .shedAtOnce => .noChange
  | .replaced => .done
  | .placed => .done
  | .placedShedding _ => .done

/-- OVERRIDE-SET (R152). -/
def takeOverrideSet (actuator command : Byte) (speed : Half) (s : State) : State × Reply :=
  if s.configFault then refuse s .refusedConfig
  else
    match s.configuredActuator actuator with
    | none => refuse s .refusedRange
    | some a =>
      match matchingCommand (s.record a) command speed with
      | none => refuse s .refusedForm
      | some cmd =>
        if speedInRange cmd = false then refuse s .refusedRange
        else
          let r := runEventWith s (placeOverride a cmd)
          (r.1,
            { result := r.2.result
              body := .overrideSet r.2.placement (r.2.shedClaim.map (·.src)) (r.1.claimList a).target })

/-! ## OVERRIDE-RELEASE (R154, R155) -/

/-- Whether a list holds an OVERRIDE claim. -/
def State.overridden (s : State) (a : Fin 64) : Bool := (claimOf (s.claimList a).claims .override).isSome

/-- The OVERRIDE claim of one list withdrawn, with the override-empty event where it was the last (R154, R155). -/
def releaseOne (a : Fin 64) (w : Work) : Work :=
  let w1 := (withdrawOp a .override w).map (fun s => { s with overrides := s.overrides - 1 })
  if w1.st.overrides = 0 then storeEmptied w1 else w1

/-- The lists that hold an OVERRIDE claim. -/
def State.overriddenLists (s : State) : List (Fin 64) := (List.finRange 64).filter s.overridden

/-- Every OVERRIDE claim withdrawn, then the override-empty event once (R154, R155). -/
def releaseAll (lists : List (Fin 64)) (w : Work) : Work :=
  let w1 := lists.foldl (fun w a => withdrawOp a .override w) w
  storeEmptied (w1.map (fun s => { s with overrides := 0 }))

/-- OVERRIDE-RELEASE of one actuator (R154). -/
def takeReleaseOne (actuator : Byte) (s : State) : State × Reply :=
  match s.configuredActuator actuator with
  | none => refuse s .refusedRange
  | some a =>
    if s.overridden a then
      let t := runEvent s (releaseOne a)
      (t, { result := .done, body := .target (t.claimList a).target })
    else unchanged s { result := .noChange, body := .target (s.claimList a).target }

/-- OVERRIDE-RELEASE of ALL (R154). -/
def takeReleaseAll (s : State) : State × Reply :=
  if s.overriddenLists.isEmpty then unchanged s { result := .noChange, body := .released 0 }
  else
    (runEvent s (releaseAll s.overriddenLists), { result := .done, body := .released s.overriddenLists.length })

/-- OVERRIDE-RELEASE: FFh stands for ALL (R154, R168). -/
def takeOverrideRelease (actuator : Byte) (s : State) : State × Reply :=
  if actuator = 0xFF then takeReleaseAll s else takeReleaseOne actuator s

/-! ## STAND-DOWN and RESUME (R156, R159, R160) -/

/-- Whether a zone holds a FIRE instance in phase RUNNING (R156). -/
def State.fireRunning (s : State) (z : Fin 24) : Bool := (s.zone z).mode == .fire && (s.zone z).phase == .running

/-- The number of zones whose held flag is set. -/
def State.heldCount (s : State) : Nat := (List.finRange 24).countP (fun z => (s.zone z).held)

/-- The items of a STAND-DOWN's answer (R156). -/
def standDownReply (r : Result) (s : State) : State × Reply :=
  (s, { result := r, body := .standDown s.standDown s.standDownOption s.heldCount })

/-- Stand-down set over the RUNNING FIRE zones (R156 case 3). -/
def setStandDown (option : StandDownOption) (s : State) : State :=
  ((List.finRange 24).filter s.fireRunning).foldl holdZone
    { s with standDown := true, standDownOption := some option }.raiseFlags

/-- The option of a stand-down replaced; a different option sets the change flags (R151, R156 case 1). -/
def replaceOption (option : StandDownOption) (s : State) : State :=
  if s.standDownOption = some option then s else { s with standDownOption := some option }.raiseFlags

/-- STAND-DOWN: the cases of R156. -/
def takeStandDown (option : Byte) (s : State) : State × Reply :=
  match standDownOptionOf option with
  | none => refuse s .refusedForm
  | some opt =>
    if s.standDown then standDownReply .noChange (replaceOption opt s)
    else if (List.finRange 24).any s.fireRunning then standDownReply .done (setStandDown opt s)
    else standDownReply .noChange s

/-- RESUME (R160). -/
def takeResume (s : State) : State × Reply :=
  if s.standDown then
    let t := runEvent s releaseStandDown
    (t, { result := .done, body := .resumed t.standDown })
  else unchanged s { result := .noChange, body := .resumed s.standDown }

/-! ## FAULT-CLEAR (R102, R121, R171) -/

/-- The items of a FAULT-CLEAR's answer: the actuator's drive as the request leaves it; in CONFIG-FAULT the drive that reads show
(R13, R107, R129). -/
def faultItems (s : State) (a : Fin 64) : AnswerBody :=
  match s.drive a with
  | .damper d => .damperPart d.fault d.state
  | .fan f => .fanPart f.state f.fault f.attempts
  | .none =>
    match s.record a with
    | .fan _ => .fanPart .stopped none 0
    | _ => .damperPart none .idle

/-- Whether a FAULT-CLEAR is DONE: it is judged by what the drive makes of it (R102, R121). -/
def faultClearDone (s : State) (a : Fin 64) : Bool :=
  match s.drive a, s.damperCtx a with
  | .damper d, some ctx => damperClearDone d (damperFinish ctx d (damperFaultClear ctx d))
  | .fan f, _ => fanClearDone f
  | _, _ => false

/-- FAULT-CLEAR handed to the drive of an actuator. -/
def clearFault (a : Fin 64) (w : Work) : Work := fanEvent a fanFaultClear (damperEvent a damperFaultClear w)

/-- FAULT-CLEAR (R171); only the Override Line and the Building Line may send it (R167). -/
def takeFaultClear (line : Line) (actuator : Byte) (s : State) : State × Reply :=
  if lineMaySend line 0x24 = false then refuse s .refusedRole
  else
    match s.configuredActuator actuator with
    | none => refuse s .refusedRange
    | some a =>
      let t := runEvent s (clearFault a)
      (t, { result := if faultClearDone s a then .done else .noChange, body := faultItems t a })

/-! ## The commands -/

/-- OVERRIDE-SET. -/
def execOverrideSet (actuator command : Byte) (speed : Half) (s : State) : Out :=
  request .override 0x20 (takeOverrideSet actuator command speed) s

/-- OVERRIDE-RELEASE. -/
def execOverrideRelease (actuator : Byte) (s : State) : Out := request .override 0x21 (takeOverrideRelease actuator) s

/-- STAND-DOWN. -/
def execStandDown (option : Byte) (s : State) : Out := request .override 0x22 (takeStandDown option) s

/-- RESUME. -/
def execResume (s : State) : Out := request .override 0x23 takeResume s

/-- FAULT-CLEAR. -/
def execFaultClear (line : Line) (actuator : Byte) (s : State) : Out :=
  request line 0x24 (takeFaultClear line actuator) s

end Sys2Proof.Machine
end

