-- ==== Sys2Proof/Machine/NormalRequests.lean ====
section
/-!
DEFINITION. The requests that place NORMAL claims: NORMAL-SET, NORMAL-RELEASE, NORMAL-GROUP (R32 to R35).
-/

namespace Sys2Proof.Machine

/-- Step 4 of R32: the NORMAL-SHED mark is cleared and the NORMAL claim placed. -/
def placeNormal (a : Fin 64) (cmd : Command) (w : Work) : Work × Placing :=
  placeOp a .normal cmd (w.map (clearNormalShed a))

/-- NORMAL-SET (R32). -/
def takeNormalSet (actuator command : Byte) (speed : Half) (s : State) : State × Reply :=
  if s.configFault then refuse s .refusedConfig
  else
    match s.configuredActuator actuator with
    | none => refuse s .refusedRange
    | some a =>
      match matchingCommand (s.record a) command speed with
      | none => refuse s .refusedForm
      | some cmd =>
        let r := runEventWith s (placeNormal a (capSpeed cmd))
        (r.1, { result := r.2.result, body := .normalSet r.2.placement (r.1.claimList a).target })

/-- NORMAL-RELEASE (R33): the three cases. -/
def takeNormalRelease (actuator : Byte) (s : State) : State × Reply :=
  match s.configuredActuator actuator with
  | none => refuse s .refusedRange
  | some a =>
    let l := s.claimList a
    if (claimOf l.claims .normal).isSome then
      let t := runEvent s (fun w => withdrawOp a .normal (w.map (clearNormalShed a)))
      (t, { result := .done, body := .target (t.claimList a).target })
    else if l.normalShed then (clearNormalShed a s, { result := .done, body := .target l.target })
    else unchanged s { result := .noChange, body := .target l.target }

/-! ## NORMAL-GROUP (R34, R35) -/

/-- One pair of a group: actuator, command code, speed. -/
structure GroupPair where
  actuator : Byte
  code : Byte
  speed : Half
deriving DecidableEq, Repr, Inhabited

/-- The pairs of a body after its count: four bytes each; none where bytes are left over. -/
def groupPairs : List Byte → Option (List GroupPair)
  | [] => some []
  | a :: c :: hi :: lo :: rest => (groupPairs rest).map ({ actuator := a, code := c, speed := halfOf hi lo } :: ·)
  | _ => none

/-- Check 2 of R34: a count of 1..16 and exactly that many pairs. -/
def groupOf (body : List Byte) : Option (List GroupPair) :=
  match body with
  | [] => none
  | count :: rest =>
    if 1 ≤ count.toNat ∧ count.toNat ≤ 16 then
      match groupPairs rest with
      | some pairs => if pairs.length = count.toNat then some pairs else none
      | none => none
    else none

/-- The first index at which a check fails. -/
def firstIndex {α : Type} (fails : α → Bool) : List α → Nat → Option Nat
  | [], _ => none
  | x :: xs, i => if fails x then some i else firstIndex fails xs (i + 1)

/-- Check 5 of R34: the index of the first pair whose actuator an earlier pair names. R34 gives the later of two pairs that name one
actuator; where two actuators are each named twice it leaves open which of them is reported (DESIGN CHOICE, unsafe, log 37). -/
def repeatedIndex : List GroupPair → List Byte → Nat → Option Nat
  | [], _, _ => none
  | p :: ps, seen, i => if p.actuator ∈ seen then some i else repeatedIndex ps (p.actuator :: seen) (i + 1)

/-- Check 3 of R34 fails for a pair. -/
def State.pairUnconfigured (s : State) (p : GroupPair) : Bool := (s.configuredActuator p.actuator).isNone

/-- The actuator and command of a pair, where checks 3 and 4 of R34 pass. -/
def State.pairCommand (s : State) (p : GroupPair) : Option (Fin 64 × Command) :=
  match s.configuredActuator p.actuator with
  | none => none
  | some a => (matchingCommand (s.record a) p.code p.speed).map (fun c => (a, capSpeed c))

/-- Check 4 of R34 fails for a pair. -/
def State.pairMismatched (s : State) (p : GroupPair) : Bool := (s.pairCommand p).isNone

/-- One pair applied as a NORMAL-SET, an event of its own (R35). -/
def applyPair (r : State × List (Fin 64 × Placing)) (x : Fin 64 × Command) : State × List (Fin 64 × Placing) :=
  let t := runEventWith r.1 (placeNormal x.1 x.2)
  (t.1, r.2 ++ [(x.1, t.2)])

/-- A pair's placement inserted or replaced a claim, which makes the group DONE (R35). -/
def pairDone (x : Fin 64 × Placing) : Bool := x.2.result == .done

/-- The reply to a group that has been applied (R35). -/
def groupReply (r : State × List (Fin 64 × Placing)) : State × Reply :=
  (r.1,
    { result := if r.2.any pairDone then .done else .noChange
      body := .normalGroup (r.2.map (fun x => (x.2.placement, (r.1.claimList x.1).target))) })

/-- A group refused at a pair (R34). -/
def refusePair (s : State) (r : Result) (index : Nat) : State × Reply :=
  (s, { result := r, body := .failingPair index })

/-- NORMAL-GROUP (R34, R35). -/
def takeNormalGroup (body : List Byte) (s : State) : State × Reply :=
  if s.configFault then refuse s .refusedConfig
  else
    match groupOf body with
    | none => refuse s .refusedForm
    | some pairs =>
      match firstIndex s.pairUnconfigured pairs 0 with
      | some i => refusePair s .refusedRange i
      | none =>
        match firstIndex s.pairMismatched pairs 0 with
        | some i => refusePair s .refusedForm i
        | none =>
          match repeatedIndex pairs [] 0 with
          | some i => refusePair s .refusedForm i
          | none => groupReply ((pairs.filterMap s.pairCommand).foldl applyPair (s, []))

/-- NORMAL-SET. -/
def execNormalSet (actuator command : Byte) (speed : Half) (s : State) : Out :=
  request .building 0x30 (takeNormalSet actuator command speed) s

/-- NORMAL-RELEASE. -/
def execNormalRelease (actuator : Byte) (s : State) : Out := request .building 0x31 (takeNormalRelease actuator) s

/-- NORMAL-GROUP. -/
def execNormalGroup (body : List Byte) (s : State) : Out := request .building 0x32 (takeNormalGroup body) s

end Sys2Proof.Machine
end

