-- ==== Sys2Proof/Machine/Zones.lean ====
section
/-!
DEFINITION. The Zone Table: the start and the end of an instance (R42, R44, R45, R47, R49), the records of past runs (R55, R56).
-/

namespace Sys2Proof.Machine

/-! ## The records of past runs (R55, R56) -/

/-- The stage entries of a test at its end: the current stage's entry is INTERRUPTED unless that stage is FINISHED (R55). R55 names
the GATE-EXPIRED mark for FINISHED entries; the model gives the INTERRUPTED entry the mark its stage carries (DEDUCED, unsafe,
log 33). -/
def endEntries (s : State) (r : ZoneRecord) (entries : List LogEntry) : List LogEntry :=
  match r.stage with
  | none => entries
  | some cs => if cs.phase = .finished then entries else entries.set cs.position (logEntry s cs .interrupted)

/-- The last test record written at the end of a TEST instance (R47 step 4, R55). -/
def testRecord (s : State) (r : ZoneRecord) (log : TestLog) (why : EndReason) : TestRecord where
  reason := log.reason
  ended := why
  finalPhase := r.phase
  failed := r.failed.getD 0
  entries := endEntries s r log.entries

/-- The last fire-run summary written at the end of a FIRE instance (R47 step 4, R56). -/
def fireSummary (r : ZoneRecord) : FireSummary where
  finalPhase := r.phase
  finalPosition := (r.stage.map (·.position)).getD 0
  subStatus := r.subStatus
  failed := r.failed.getD 0

/-- A zone record with its no-instance values and the record of the run that has ended (R41, R47 steps 4 and 5). -/
def endedRecord (s : State) (r : ZoneRecord) (why : EndReason) : ZoneRecord :=
  { zoneAtRest with
    lastTest := if r.mode = .test then (r.log.map (fun log => testRecord s r log why)).or r.lastTest else r.lastTest
    lastFire := if r.mode = .fire then some (fireSummary r) else r.lastFire }

/-! ## The end of an instance (R47) -/

/-- The withdrawal of a zone's entry for an actuator (R47 step 2). -/
def withdrawEntry (z : Fin 24) (w : Work) (a : Fin 64) : Work :=
  let r := w.st.zone z
  match r.map[a] with
  | none => w
  | some e => if e.status = .shed then w else withdrawOp a (zoneSource r z) w

/-- The end of a zone's instance (R47); the end reason is used for a TEST instance. -/
def endInstance (z : Fin 24) (why : EndReason) (w : Work) : Work :=
  let w1 := w.map (fun s => { s with activation := s.activation.filter (fun y => y != z) })
  let w2 := (List.finRange 64).foldl (withdrawEntry z) w1
  w2.map (fun s => (s.setZone z (endedRecord s (s.zone z) why)).raiseFlags)

/-! ## The start of an instance (R44, R49) -/

/-- A zone record at the start of an instance (R44 steps 3 to 6, R49 steps 1 to 5). -/
def startedRecord (s : State) (z : Fin 24) (mode : ZoneMode) (sourceA sourceB held : Bool) (log : Option TestLog) :
    ZoneRecord :=
  { s.zone z with
    mode := mode
    phase := .running
    sourceA := sourceA
    sourceB := sourceB
    held := held
    suspended := s.supply.state == .low
    stage := some (dueAt s z 0)
    failed := some 0
    map := Vector.replicate 64 none
    log := log
    subStatus := .none }

/-- The zone's record written and the zone appended at the tail of the Activation List (R42). -/
def startZone (z : Fin 24) (r : ZoneRecord) (s : State) : State :=
  ({ s with activation := s.activation ++ [z] }.setZone z r).raiseFlags

/-- Stand-down's option acts on an alarm that starts an instance (R44 step 2, R158). -/
def alarmStandDown (w : Work) : Work :=
  if w.st.standDown && w.st.standDownOption == some .resumeOnNewAlarm then releaseStandDown w else w

/-- The zones holding a TEST instance; at most one does (R49). -/
def State.testZones (s : State) : List (Fin 24) := (List.finRange 24).filter (fun z => (s.zone z).mode == .test)

/-- A FIRE instance started by a panel: any TEST instance ended, stand-down judged, the zone started (R44, R45). -/
def startFire (panel : Panel) (z : Fin 24) (w : Work) : Work :=
  let w1 := w.st.testZones.foldl (fun w y => endInstance y .abortedByAlarm w) w
  (alarmStandDown w1).map (fun s =>
    startZone z
      (startedRecord s z .fire (panel == .panelA) (panel == .panelB) s.standDown none) s)

/-- A new stage log: one entry per position, NOT-REACHED (R49 step 3). -/
def newLog (s : State) (z : Fin 24) (reason : TestReason) : TestLog where
  reason := reason
  entries := (s.sequenceOf z).map (fun n => { stage := n, state := .notReached, gateExpired := false, outcomes := [] })

/-- A TEST instance started (R49). -/
def startTest (z : Fin 24) (reason : TestReason) (w : Work) : Work :=
  w.map (fun s => startZone z (startedRecord s z .test false false false (some (newLog s z reason))) s)

/-! ## Alarm sources -/

/-- Whether a panel is among a zone's reporting panels (R40). -/
def ZoneDef.reportedBy (d : ZoneDef) : Panel → Bool
  | .panelA => d.panelA
  | .panelB => d.panelB

/-- Whether a panel is among a zone's alarm sources (R41). -/
def ZoneRecord.hasSource (r : ZoneRecord) : Panel → Bool
  | .panelA => r.sourceA
  | .panelB => r.sourceB

/-- A panel put into or taken out of a zone's alarm sources. -/
def ZoneRecord.setSource (r : ZoneRecord) (panel : Panel) (present : Bool) : ZoneRecord :=
  match panel with
  | .panelA => { r with sourceA := present }
  | .panelB => { r with sourceB := present }

/-- A zone of a ZONE-ALARM or ZONE-RESET that passes checks 2 and 3 of R43 (R40, R46). -/
def State.reportedZone (s : State) (panel : Panel) (b : Byte) : Option (Fin 24) :=
  match s.configuredZone b with
  | none => none
  | some z => if ((s.zoneDef z).map (fun d => d.reportedBy panel)).getD false then some z else none

end Sys2Proof.Machine
end

