-- ==== Sys2Proof/Machine/Reads.lean ====
section
/-!
DEFINITION. What the reads show: POLL (R178), READ-SUMMARY (R150, R179, R181), READ-ZONE (R57, R81, R180) and READ-ACTUATOR
(R13, R36, R106, R129).
-/

namespace Sys2Proof.Machine

/-- A remaining time in milliseconds as it is shown, in tenths of a second; the rounding of a time that is no whole number of
tenths is free (log 6). -/
def shownTenths (ms : Nat) : Nat :=
  if ms % 100 = 0 then ms / 100
  else if Config.shownTenthRoundsUp ms then ms / 100 + 1
  else ms / 100

/-- The remaining time until an instant, as it is shown. -/
def shownUntil (now deadline : Nat) : Nat := shownTenths (deadline - now)

/-! ## READ-ACTUATOR -/

/-- A claim as it is shown (R36). -/
def claimView (target : Option Command) (c : Claim) : ClaimView where
  src := c.src
  level := c.src.level
  cmd := c.cmd
  concordant := concordant c.cmd target

/-- The running timer of a damper as it is shown (R106). -/
def damperTimer (now : Nat) (d : DamperDrive) : DamperTimerView :=
  match d.travel, d.deadTimer, d.coolTimer with
  | .running t, _, _ => .travel (shownUntil now t)
  | .frozen ms, _, _ => .frozenTravel (shownTenths ms)
  | .stopped, some t, _ => .deadTime (shownUntil now t)
  | .stopped, none, some t => .cooldown (shownUntil now t)
  | .stopped, none, none => .none

/-- Whether a drive is in DEAD-TIME or COOLDOWN, where R106 shows a pending direction and the interruption mark. -/
def showsPending (d : DamperDrive) : Bool := d.state == .deadTime || d.state == .cooldown

/-- The drive part of a damper (R106). -/
def damperView (ctx : DamperCtx) (d : DamperDrive) : DamperView where
  state := d.state
  position := d.position
  fault := d.fault
  openOut := d.openOut
  closeOut := d.closeOut
  driveOut := d.driveOut
  timer := damperTimer ctx.now d
  pending := if showsPending d then d.pending else none
  interrupted := showsPending d && d.interrupted
  lastDirection := d.lastDirection
  reversals := (d.history.filter (youngerThanWindow ctx.now)).length
  restartBar := (d.restartBar.filter (youngerThanWindow ctx.now)).map (fun t => shownUntil ctx.now (t + reversalWindow))
  openSwitch := ctx.openSwitch
  closedSwitch := ctx.closedSwitch

/-- The drive part of a damper in CONFIG-FAULT: IDLE, position UNKNOWN (R13, R107). -/
def damperViewAtFault (ctx : DamperCtx) : DamperView where
  state := .idle
  position := .unknown
  fault := none
  openOut := false
  closeOut := false
  driveOut := false
  timer := .none
  pending := none
  interrupted := false
  lastDirection := none
  reversals := 0
  restartBar := none
  openSwitch := ctx.openSwitch
  closedSwitch := ctx.closedSwitch

/-- The running timer of a fan as it is shown (R129). -/
def fanTimer (now : Nat) (f : FanDrive) : FanTimerView :=
  if f.waiting then .waiting
  else
    match f.startTimer, f.stopTimer, f.lossTimer, f.restartTimer with
    | some t, _, _, _ => .startProof (shownUntil now t)
    | none, some t, _, _ => .stopProof (shownUntil now t)
    | none, none, some t, _ => .runLoss (shownUntil now t)
    | none, none, none, some t => .restartDelay (shownUntil now t)
    | none, none, none, none => .none

/-- The pressure item of a fan (R129). -/
def pressureView (ctx : FanCtx) : Option PressureView :=
  match ctx.definition.pressure, ctx.channel with
  | some p, some c => some { channel := p.channel, value := c.2, status := c.1, threshold := p.threshold }
  | _, _ => none

/-- The speed-chain item of a fan: the applied code with its B and E (R126, R129). -/
def speedView (ctx : FanCtx) (applied : Fin 16 → Nat) (f : FanDrive) : Option SpeedView :=
  ctx.definition.speed.map (fun sd =>
    { demand := f.demand
      clamped := f.clamped
      ramped := f.ramped
      preload := f.preload
      applied := applied sd.output
      base := baseCount (applied sd.output)
      extension := extensionCount (applied sd.output) })

/-- The drive part of a fan (R129). -/
def fanView (ctx : FanCtx) (applied : Fin 16 → Nat) (f : FanDrive) : FanView where
  state := f.state
  fault := f.fault
  attempts := f.attempts
  restartAttempts := ctx.definition.restartAttempts
  lastFailure := f.lastFailure
  runOut := f.runOut
  timer := fanTimer ctx.now f
  proofInput := ctx.input
  pressure := pressureView ctx
  proofUnavailable := f.proofUnavailable
  speed := speedView ctx applied f

/-- The drive part of a fan in CONFIG-FAULT: STOPPED, no fault, output off, applied code 0 (R13, R129). -/
def fanViewAtFault (ctx : FanCtx) : FanView :=
  { fanView ctx (fun _ => 0) (createFan ctx) with state := .stopped, timer := .none }

/-- The drive part of an actuator. -/
def State.driveView (s : State) (a : Fin 64) : DriveView :=
  match s.drive a, s.damperCtx a, s.fanCtx a with
  | .damper d, some ctx, _ => .damper (damperView ctx d)
  | .fan f, _, some ctx => .fan (fanView ctx (fun o => s.applied[o]) f)
  | _, some ctx, _ => .damper (damperViewAtFault ctx)
  | _, none, some ctx => .fan (fanViewAtFault ctx)
  | _, none, none => .none

/-- What READ-ACTUATOR shows of a configured actuator (R36, R106, R129, R180). -/
def State.actuatorView (s : State) (a : Fin 64) : ActuatorView where
  definition := s.record a
  claims := (s.claimList a).claims.map (claimView (s.claimList a).target)
  target := (s.claimList a).target
  fromRest := (s.claimList a).claims.isEmpty
  normalShed := (s.claimList a).normalShed
  drive := s.driveView a

/-! ## READ-ZONE -/

/-- The remaining time of a stage timer as it is shown; none when it is stopped (R81). -/
def shownTimer (now : Nat) (t : Timer) : Option Nat := (remainingMs now t).map shownTenths

/-- The commands of a stage with their outcomes; a command of a stage that has not been issued has none (R57, R62). -/
def stageCommands (s : State) (cs : CurrentStage) : List (StageCommand × Option CommandOutcome) :=
  let commands := (s.stageOf cs).commands
  commands.zip (cs.outcomes.map some ++ List.replicate (commands.length - cs.outcomes.length) none)

/-- A current stage as it is shown (R57, R81). -/
def stageView (s : State) (cs : CurrentStage) : StageView where
  position := cs.position
  stage := cs.stage
  phase := cs.phase
  gateExpired := cs.gateExpired
  settle := shownTimer s.now cs.settle
  window := shownTimer s.now cs.window
  gateWait := shownTimer s.now cs.gateWait
  commands := stageCommands s cs

/-- The place of a zone in the Activation List, oldest first; none where the zone is not in it. -/
def State.activationPlace (s : State) (z : Fin 24) : Option Nat :=
  if s.activation.contains z then some (s.activation.idxOf z) else none

/-- Part 0 of READ-ZONE (R57, R180). -/
def State.zoneView (s : State) (z : Fin 24) : ZoneView where
  definition := s.zoneDef z
  mode := (s.zone z).mode
  phase := (s.zone z).phase
  subStatus := (s.zone z).subStatus
  sourceA := (s.zone z).sourceA
  sourceB := (s.zone z).sourceB
  held := (s.zone z).held
  suspended := (s.zone z).suspended
  activation := s.activationPlace z
  testReason := (s.zone z).log.map (·.reason)
  stage := (s.zone z).stage.map (stageView s)
  failed := (s.zone z).failed
  lastFire := (s.zone z).lastFire

/-- The entries of a zone's map for the actuators from one number to another, ascending (R180). -/
def mapEntries (r : ZoneRecord) (low high : Nat) : List (Fin 64 × MapEntry) :=
  ((List.finRange 64).filter (fun a => decide (low ≤ a.val ∧ a.val ≤ high))).filterMap
    (fun a => (r.map[a]).map (fun e => (a, e)))

/-- The fields of a last test record beside its stage entries (R55). -/
def testHeader (t : TestRecord) : TestHeader where
  reason := t.reason
  ended := t.ended
  finalPhase := t.finalPhase
  failed := t.failed

/-- Parts 3 to 6 of READ-ZONE: the last test record's fields and four stage entries from a position (R180). -/
def testPart (r : ZoneRecord) (from' : Nat) : Option (TestHeader × List LogEntry) :=
  r.lastTest.map (fun t => (testHeader t, (t.entries.drop from').take 4))

/-- What a part of READ-ZONE shows (R180); none above part 6. -/
def State.zonePart (s : State) (z : Fin 24) (part : Nat) : Option AnswerBody :=
  match part with
  | 0 => some (.zone (s.zoneView z))
  | 1 => some (.zoneMap (mapEntries (s.zone z) 0 31))
  | 2 => some (.zoneMap (mapEntries (s.zone z) 32 63))
  | 3 => some (.testPart (testPart (s.zone z) 0))
  | 4 => some (.testPart (testPart (s.zone z) 4))
  | 5 => some (.testPart (testPart (s.zone z) 8))
  | 6 => some (.testPart (testPart (s.zone z) 12))
  | _ => none

/-! ## READ-SUMMARY and POLL -/

/-- A zone in page 0 (R179). -/
def State.zoneSummary (s : State) (z : Fin 24) : ZoneSummary where
  configured := (s.zoneDef z).isSome
  mode := (s.zone z).mode
  phase := (s.zone z).phase
  subStatus := (s.zone z).subStatus
  sourceA := (s.zone z).sourceA
  sourceB := (s.zone z).sourceB
  held := (s.zone z).held
  suspended := (s.zone z).suspended

/-- A sector in page 0 (R181). -/
def sectorView (x : SectorState) : SectorView where
  valid := x.valid
  activation := x.activation
  staging := x.staging.isSome

/-- The actuators carrying a latched fault, with the fault's kind (R179). -/
def State.faults (s : State) : List (Fin 64 × ActuatorFault) :=
  (List.finRange 64).filterMap (fun a => (s.drive a).fault.map (fun f => (a, f)))

/-- Page 0 of READ-SUMMARY on a line (R179, R181). -/
def State.summaryView (s : State) (l : Line) : SummaryView where
  changeFlag := (s.port l).changeFlag
  start := s.start
  configFault := s.configFault
  lines := s.lineStates
  activation := s.activation
  zones := (List.finRange 24).map s.zoneSummary
  overrides := s.overrides
  standDown := s.standDown
  standDownOption := s.standDownOption
  key := s.key.debounced
  keyOn := s.keyOn
  supply := s.supply.state
  reading := s.supply.reading
  faults := s.faults
  identity := sectorView s.store.identity
  plant := sectorView s.store.plant
  sequences := sectorView s.store.sequences
  siteCode := s.siteCode

/-- Inputs with their filter counts, 64 from a number on (R150, R179). -/
def State.inputViews (s : State) (half : Bool) : List (Debounced × Nat) :=
  ((List.finRange 128).filter (fun i => decide (64 ≤ i.val) == half)).map (fun i => (s.reading i, s.filterCount i))

/-- A channel in page 3 (R150, R179). -/
def channelView (c : Channel) : ChannelView where
  status := c.status
  value := c.value
  average := windowAverage c.window
  codes := c.window.length

/-- A page of READ-SUMMARY (R179); none above page 4. -/
def State.summaryPage (s : State) (l : Line) (page : Nat) : Option AnswerBody :=
  match page with
  | 0 => some (.summary (s.summaryView l))
  | 1 => some (.inputs (s.inputViews false))
  | 2 => some (.inputs (s.inputViews true))
  | 3 => some (.channels (s.channels.toList.map channelView))
  | 4 => some (.scalings s.plant.scalings.toList)
  | _ => none

/-- The items of a POLL's answer on a line (R178). -/
def State.pollBody (s : State) (l : Line) : AnswerBody := .poll (s.port l).changeFlag s.lineStates s.configFault

end Sys2Proof.Machine
end

