-- ==== Sys2Proof/Machine/ReadRequests.lean ====
section
/-!
DEFINITION. The requests that read: POLL, READ-SUMMARY, READ-ZONE, READ-ACTUATOR (R57, R176, R178 to R180).
-/

namespace Sys2Proof.Machine

/-- POLL: always DONE; the change flag is shown and not cleared (R178). -/
def takePoll (line : Line) (s : State) : State × Reply := unchanged s { result := .done, body := s.pollBody line }

/-- READ-SUMMARY: a page above 4 is refused; page 0 clears this line's change flag after it is shown (R176, R179). -/
def takeReadSummary (line : Line) (page : Byte) (s : State) : State × Reply :=
  match s.summaryPage line page.toNat with
  | none => refuse s .refusedRange
  | some b => (if page = 0 then s.clearFlag line else s, { result := .done, body := b })

/-- READ-ZONE: a zone above 23 or a part above 6 is refused (R57, R180). -/
def takeReadZone (zone part : Byte) (s : State) : State × Reply :=
  match zoneOf zone with
  | none => refuse s .refusedRange
  | some z =>
    match s.zonePart z part.toNat with
    | none => refuse s .refusedRange
    | some b => unchanged s { result := .done, body := b }

/-- READ-ACTUATOR: a number above 63 or an UNUSED record is refused (R1, R180). -/
def takeReadActuator (actuator : Byte) (s : State) : State × Reply :=
  match s.configuredActuator actuator with
  | none => refuse s .refusedRange
  | some a => unchanged s { result := .done, body := .actuator (s.actuatorView a) }

/-- POLL. -/
def execPoll (line : Line) (s : State) : Out := request line 0x01 (takePoll line) s

/-- READ-SUMMARY. -/
def execReadSummary (line : Line) (page : Byte) (s : State) : Out := request line 0x02 (takeReadSummary line page) s

/-- READ-ZONE. -/
def execReadZone (line : Line) (zone part : Byte) (s : State) : Out := request line 0x03 (takeReadZone zone part) s

/-- READ-ACTUATOR. -/
def execReadActuator (line : Line) (actuator : Byte) (s : State) : Out :=
  request line 0x04 (takeReadActuator actuator) s

end Sys2Proof.Machine
end

