-- ==== Sys2Proof/Machine/ZoneRequests.lean ====
section
/-!
DEFINITION. The requests to the Zone Table: ZONE-ALARM, ZONE-RESET, TEST-START, TEST-END (R43 to R50).
-/

namespace Sys2Proof.Machine

/-- The items of a ZONE-ALARM's or ZONE-RESET's answer (R44, R46). R45 names none for a zone already in FIRE; the model's answer
carries the same ones there (DESIGN CHOICE, unsafe, log 33). -/
def zoneItems (s : State) (z : Fin 24) : AnswerBody :=
  .zoneState (s.zone z).mode (s.zone z).phase (s.zone z).sourceA (s.zone z).sourceB

/-- A reply of a request that has left a zone as it stands in a state. -/
def zoneReply (r : Result) (z : Fin 24) (s : State) : State × Reply := (s, { result := r, body := zoneItems s z })

/-- A ZONE-ALARM for a configured zone that its panel reports: a FIRE zone adds the panel to its sources, any other zone starts
a FIRE instance (R44, R45). -/
def alarmZone (panel : Panel) (z : Fin 24) (s : State) : State × Reply :=
  match (s.zone z).mode with
  | .fire =>
    if (s.zone z).hasSource panel then zoneReply .noChange z s
    else zoneReply .done z (s.setZone z ((s.zone z).setSource panel true))
  | .none => zoneReply .done z (runEvent s (startFire panel z))
  | .test => zoneReply .done z (runEvent s (startFire panel z))

/-- ZONE-ALARM (R43 to R45). -/
def takeZoneAlarm (panel : Panel) (zone : Byte) (s : State) : State × Reply :=
  if s.configFault then refuse s .refusedConfig
  else
    match s.reportedZone panel zone with
    | none => refuse s .refusedRange
    | some z => alarmZone panel z s

/-- The end of a FIRE instance by the reset of its last panel, with the activation-empty event (R42, R46, R47). -/
def endFire (panel : Panel) (z : Fin 24) (w : Work) : Work :=
  storeEmptied (endInstance z .ended (w.map (fun s => s.setZone z ((s.zone z).setSource panel false))))

/-- A ZONE-RESET for a configured zone that its panel reports (R46): the three cases. -/
def resetZone (panel : Panel) (z : Fin 24) (s : State) : State × Reply :=
  let r := (s.zone z).setSource panel false
  if !((s.zone z).hasSource panel) then zoneReply .noChange z s
  else if r.sourceA || r.sourceB then zoneReply .done z (s.setZone z r)
  else zoneReply .done z (runEvent s (endFire panel z))

/-- ZONE-RESET (R46). -/
def takeZoneReset (panel : Panel) (zone : Byte) (s : State) : State × Reply :=
  match s.reportedZone panel zone with
  | none => refuse s .refusedRange
  | some z => resetZone panel z s

/-- TEST-START (R48, R49). -/
def takeTestStart (zone reason : Byte) (s : State) : State × Reply :=
  if s.configFault then refuse s .refusedConfig
  else
    match s.configuredZone zone with
    | none => refuse s .refusedRange
    | some z =>
      match testReasonOf reason with
      | none => refuse s .refusedForm
      | some why =>
        if why = .commissioning ∧ s.keyOn = false then refuse s .refusedKey
        else if s.allZonesNormal then (runEvent s (startTest z why), Reply.bare .done)
        else refuse s .refusedState

/-- The end of a TEST instance by TEST-END, with the activation-empty event (R42, R47, R50). -/
def endTest (z : Fin 24) (w : Work) : Work := storeEmptied (endInstance z .ended w)

/-- TEST-END (R50). -/
def takeTestEnd (zone : Byte) (s : State) : State × Reply :=
  match s.configuredZone zone with
  | none => refuse s .refusedRange
  | some z =>
    match (s.zone z).mode with
    | .test => (runEvent s (endTest z), Reply.bare .done)
    | .fire => refuse s .refusedState
    | .none => refuse s .noChange

/-- ZONE-ALARM. -/
def execZoneAlarm (panel : Panel) (zone : Byte) (s : State) : Out :=
  request panel.line 0x10 (takeZoneAlarm panel zone) s

/-- ZONE-RESET. -/
def execZoneReset (panel : Panel) (zone : Byte) (s : State) : Out :=
  request panel.line 0x11 (takeZoneReset panel zone) s

/-- TEST-START. -/
def execTestStart (zone reason : Byte) (s : State) : Out := request .building 0x33 (takeTestStart zone reason) s

/-- TEST-END. -/
def execTestEnd (zone : Byte) (s : State) : Out := request .building 0x34 (takeTestEnd zone) s

end Sys2Proof.Machine
end

