-- ==== Sys2Proof/Machine/LineEvents.lean ====
section
/-!
DEFINITION. The ports and the Line Interface: the reception of bytes (R165), the judgement of a frame (R166), line
supervision (R173, R174), dispatch (R167), RESTART (R172), and the sending of an answer (R165, R169).
-/

namespace Sys2Proof.Machine

/-! ## Line supervision (R173, R174) -/

/-- A port whose line state becomes a state; a change is seen by `lineChanged`. -/
def Port.enter (l : LineState) (p : Port) : Port := { p with line := l }

/-- The flags of every line are set where a line's state has changed (R174). -/
def raiseIfChanged (old new : LineState) (s : State) : State := if old = new then s else s.raiseFlags

/-- A good frame is taken by line supervision (R173): the line is LIVE, and a supervised line's timer is restarted. -/
def superviseGood (line : Line) (s : State) : State :=
  let p := s.port line
  raiseIfChanged p.line .live
    (s.setPort line
      { p.enter .live with
        supervisionTimer :=
          if line.supervised then some (s.now + tenthsToMs p.supervisionTime) else p.supervisionTimer })

/-- A line enters LOST (R173, R174); the loss of the Override Line releases a stand-down that is SET (R161). -/
def loseLine (line : Line) (s : State) : State :=
  let p := s.port line
  let s1 := raiseIfChanged p.line .lost (s.setPort line { p.enter .lost with supervisionTimer := none })
  if line = .override ∧ s1.standDown = true then runEvent s1 releaseStandDown else s1

/-- The supervision timer of a line expires; no event where it is stopped. -/
def supervisionExpiry (line : Line) (s : State) : State :=
  match (s.port line).supervisionTimer with
  | none => s
  | some t => loseLine line (s.reach t)

/-! ## Dispatch (R167) -/

/-- RESTART: answered DONE while the key line reads ON; the restart follows the answer (R172). -/
def takeRestart (s : State) : State × Reply := if s.keyOn then refuse s .done else refuse s .refusedKey

/-- The panel of a line (R163). -/
def panelOfLine : Line → Option Panel
  | .panelA => some .panelA
  | .panelB => some .panelB
  | .override => none
  | .building => none

/-- A request of one byte. -/
def oneByte (body : List Byte) (take : Byte → State → State × Reply) (s : State) : State × Reply :=
  match body with
  | [a] => take a s
  | _ => refuse s .refusedForm

/-- A request of two bytes. -/
def twoBytes (body : List Byte) (take : Byte → Byte → State → State × Reply) (s : State) : State × Reply :=
  match body with
  | [a, b] => take a b s
  | _ => refuse s .refusedForm

/-- A request of an actuator, a command code and a speed. -/
def commandBytes (body : List Byte) (take : Byte → Byte → Half → State → State × Reply) (s : State) : State × Reply :=
  match body with
  | [a, c, hi, lo] => take a c (halfOf hi lo) s
  | _ => refuse s .refusedForm

/-- A request of a panel. -/
def fromPanel (line : Line) (take : Panel → State → State × Reply) (s : State) : State × Reply :=
  match panelOfLine line with
  | some p => take p s
  | none => refuse s .refusedRole

/-- The block that takes a kind, by the table of R167. -/
def handOver (line : Line) (kind : Byte) (body : List Byte) (s : State) : State × Reply :=
  if kind = 0x01 then takePoll line s
  else if kind = 0x02 then oneByte body (takeReadSummary line) s
  else if kind = 0x03 then twoBytes body takeReadZone s
  else if kind = 0x04 then oneByte body takeReadActuator s
  else if kind = 0x10 then fromPanel line (fun p => oneByte body (takeZoneAlarm p)) s
  else if kind = 0x11 then fromPanel line (fun p => oneByte body (takeZoneReset p)) s
  else if kind = 0x20 then commandBytes body takeOverrideSet s
  else if kind = 0x21 then oneByte body takeOverrideRelease s
  else if kind = 0x22 then oneByte body takeStandDown s
  else if kind = 0x23 then takeResume s
  else if kind = 0x24 then oneByte body (takeFaultClear line) s
  else if kind = 0x30 then commandBytes body takeNormalSet s
  else if kind = 0x31 then oneByte body takeNormalRelease s
  else if kind = 0x32 then takeNormalGroup body s
  else if kind = 0x33 then twoBytes body takeTestStart s
  else if kind = 0x34 then oneByte body takeTestEnd s
  else if kind = 0x40 then takeConfigRead body s
  else if kind = 0x41 then takeConfigWrite body s
  else if kind = 0x42 then takeConfigActivate body s
  else takeRestart s

/-- Check 3 of R167. -/
def bodyLengthRight (kind : Byte) (body : List Byte) : Bool :=
  match fixedBodyLength kind with
  | none => true
  | some n => body.length == n

/-- The request of a good frame: the checks of R167 in order, then the block that takes it. -/
def dispatch (line : Line) (kind : Byte) (body : List Byte) (s : State) : State × Reply :=
  if kindKnown kind = false then refuse s .refusedForm
  else if lineMaySend line kind = false then refuse s .refusedRole
  else if bodyLengthRight kind body = false then refuse s .refusedForm
  else handOver line kind body s

/-! ## The judgement of a frame (R166) -/

/-- The length n of a frame's body (R164). -/
def frameBodyLength (frame : List Byte) : Nat := (frame.getD 2 0).toNat

/-- A complete frame is good: its CRC and its role code are right (R166). -/
def frameGood (line : Line) (frame : List Byte) : Bool :=
  let n := frameBodyLength frame
  crc ((frame.drop 1).take (3 + n)) == halfOf (frame.getD (4 + n) 0) (frame.getD (5 + n) 0) &&
    frame.getD 1 0 == line.roleCode

/-- A port in HUNTING with nothing half-received. -/
def Port.hunt (p : Port) : Port := { p with reception := .hunting, buffer := [], gapTimer := none }

/-- A complete frame judged at its last byte: a good one is taken by line supervision and its request is dispatched and
answered; any other leaves the port in HUNTING (R165, R166). -/
def judgeFrame (line : Line) (frame : List Byte) (s : State) : State :=
  let s0 := s.setPort line (s.port line).hunt
  if frameGood line frame then
    answered line (frame.getD 3 0)
      (dispatch line (frame.getD 3 0) ((frame.drop 4).take (frameBodyLength frame))) (superviseGood line s0)
  else s0

/-! ## Reception (R165) -/

/-- A frame discarded for its length or for a byte error; also a byte in DISCARDING: the gap timer runs afresh. -/
def Port.discard (now : Nat) (p : Port) : Port :=
  { p with reception := .discarding, buffer := [], gapTimer := some (now + gapTime) }

/-- A byte appended to a frame: RECEIVING, the gap timer restarted. -/
def Port.collect (now : Nat) (frame : List Byte) (p : Port) : Port :=
  { p with reception := .receiving, buffer := frame, gapTimer := some (now + gapTime) }

/-- A port in RECEIVING takes a byte: a body length above 120 discards the frame, the last byte completes it (R165). -/
def receiveInFrame (line : Line) (b : Byte) (s : State) : State :=
  let frame := (s.port line).buffer ++ [b]
  if frame.length = 3 ∧ maxBodyBytes < frameBodyLength frame then s.setPort line ((s.port line).discard s.now)
  else if 3 ≤ frame.length ∧ frame.length = 6 + frameBodyLength frame then judgeFrame line frame s
  else s.setPort line ((s.port line).collect s.now frame)

/-- A port takes a byte, a byte error or a break, by its reception state (R165). -/
def receive (line : Line) (r : Received) (s : State) : State :=
  match (s.port line).reception, r with
  | .hunting, .byte b => if b = startByte then s.setPort line ((s.port line).collect s.now [b]) else s
  | .hunting, .byteError => s
  | .hunting, .lineBreak => s
  | .receiving, .byte b => receiveInFrame line b s
  | .receiving, .byteError => s.setPort line ((s.port line).discard s.now)
  | .receiving, .lineBreak => s.setPort line ((s.port line).discard s.now)
  | .discarding, _ => s.setPort line ((s.port line).discard s.now)
  | .taking, _ => s
  | .answering, _ => s

/-- The bytes of a frame received one after another. -/
def receiveAll (line : Line) (frame : List Byte) (s : State) : State :=
  frame.foldl (fun s b => receive line (.byte b) s) s

/-- The gap timer of a port expires: a partial frame is discarded, DISCARDING ends, and the port is HUNTING; no event where
it is stopped (R165). -/
def gapExpiry (line : Line) (s : State) : State :=
  match (s.port line).gapTimer with
  | none => s
  | some t => (s.reach t).setPort line (s.port line).hunt

/-! ## Sending the answer (R165, R169, R172) -/

/-- The port begins to send its answer's frame, no sooner than 1.0 ms after the request (R164, R169); nothing in another reception
state. -/
def beginAnswer (line : Line) (s : State) : State :=
  let p := s.port line
  if p.reception = .taking then (s.reach (p.takenAt + answerLead)).setPort line
      { p with reception := .answering, sending := p.answerBytes line }
  else s

/-- An answer after which a warm restart begins: the DONE answer to a RESTART (R14, R172). -/
def restartFollows (a : Option Answer) : Bool :=
  match a with
  | none => false
  | some a => a.kind == 0x43 && a.result == .done

/-- The last byte of an answer leaves the line: DISCARDING; after the DONE answer to a RESTART the warm restart is due (R165,
R172). Nothing in another reception state. -/
def endAnswer (line : Line) (s : State) : State :=
  let p := s.port line
  if p.reception = .answering then
    let s1 := s.setPort line { p.discard s.now with answer := none, sending := [] }
    if restartFollows p.answer then { s1 with power := .restartDue } else s1
  else s

/-! ## The commands -/

/-- RESTART. -/
def execRestart (s : State) : Out := request .building 0x43 takeRestart s

/-- A frame arrives on a line: its bytes are received one after another, and the last one completes and judges it (R165,
R166). -/
def execFrameReceived (line : Line) (frame : List Byte) (s : State) : Out := event (receiveAll line frame) s

/-- A port receives a byte, a byte error or a break. -/
def execByteReceived (line : Line) (received : Received) (s : State) : Out := event (receive line received) s

/-- The gap timer of a port expires. -/
def execGapTimerExpiry (line : Line) (s : State) : Out := event (gapExpiry line) s

/-- The port begins to send its answer. -/
def execAnswerBegin (line : Line) (s : State) : Out := event (beginAnswer line) s

/-- The last byte of an answer leaves the line. -/
def execAnswerSent (line : Line) (s : State) : Out := event (endAnswer line) s

/-- The supervision timer of a line expires. -/
def execSupervisionTimerExpiry (line : Line) (s : State) : Out := event (supervisionExpiry line) s

end Sys2Proof.Machine
end

