-- ==== Sys2Proof/Machine/Retained.lean ====
section
/-!
DEFINITION. The check of kept state that opens every warm restart (R14): the claim lists (R38), the zones and the Activation
List (R59), the current stages (R84), the damper drives (R108), the fan drives (R131), overrides and stand-down (R162).
-/

namespace Sys2Proof.Machine

/-! ## Claim lists (R38) -/

/-- Each claim ranks above the one below it (R19). -/
def rankOrdered (activation : List (Fin 24)) : List Claim → Bool
  | [] => true
  | [_] => true
  | c :: x :: rest => outranks activation c x && rankOrdered activation (x :: rest)

/-- No source holds two claims. -/
def sourcesDistinct : List Claim → Bool
  | [] => true
  | c :: rest => (claimOf rest c.src).isNone && sourcesDistinct rest

/-- A TEST(z) or FIRE(z) claim names an active zone whose instance is of that mode. -/
def sourceActive (s : State) : Source → Bool
  | .test z => s.activation.contains z && (s.zone z).mode == .test
  | .fire z => s.activation.contains z && (s.zone z).mode == .fire
  | .normal => true
  | .override => true

/-- The check of one list (R38). -/
def listKept (s : State) (a : Fin 64) : Bool :=
  let l := s.claimList a
  let d := s.record a
  if d = .unused then l.claims.isEmpty
  else
    decide (l.claims.length ≤ maxClaims) && sourcesDistinct l.claims && l.claims.all (fun c => kindMatches d c.cmd) &&
      l.claims.all (fun c => sourceActive s c.src) && rankOrdered s.activation l.claims &&
      l.target == deriveTarget (restCommand d) l.claims

/-! ## Zones (R59) -/

/-- No zone stands twice in the Activation List. -/
def zonesDistinct : List (Fin 24) → Bool
  | [] => true
  | z :: rest => !(rest.contains z) && zonesDistinct rest

/-- The alarm sources of a zone are as its mode and its reporting panels allow. -/
def sourcesKept (s : State) (z : Fin 24) : Bool :=
  let r := s.zone z
  (r.sourceA || r.sourceB) == (r.mode == .fire) &&
    (match s.zoneDef z with
     | none => !r.sourceA && !r.sourceB
     | some d => (!r.sourceA || d.panelA) && (!r.sourceB || d.panelB))

/-- An entry of a zone's map agrees with the actuator's list. -/
def entryKept (s : State) (z : Fin 24) (a : Fin 64) : Bool :=
  let r := s.zone z
  let held := claimOf (s.claimList a).claims (zoneSource r z)
  match r.map[a] with
  | none => (claimOf (s.claimList a).claims (.fire z)).isNone && (claimOf (s.claimList a).claims (.test z)).isNone
  | some e =>
    match e.status with
    | .shed => held.isNone
    | .inForce => (held.map (·.cmd)) == some e.cmd
    | .displaced => (held.map (·.cmd)) == some e.cmd

/-- The check of one zone (R59). -/
def zoneKept (s : State) (z : Fin 24) : Bool :=
  let r := s.zone z
  (r.mode != .none) == s.activation.contains z && sourcesKept s z &&
    (r.mode == .none ||
      ((s.zoneDef z).isSome && (r.stage.map (fun cs => decide (cs.position < (s.sequenceOf z).length))).getD true)) &&
    (List.finRange 64).all (entryKept s z)

/-- A FIRE and a TEST instance never exist at the same time, nor two TEST instances (R49). -/
def modesKept (s : State) : Bool :=
  let tests := (List.finRange 24).countP (fun z => (s.zone z).mode == .test)
  let fires := (List.finRange 24).countP (fun z => (s.zone z).mode == .fire)
  decide (tests ≤ 1) && (tests == 0 || fires == 0)

/-- The check of the Activation List (R59). -/
def activationKept (s : State) : Bool := zonesDistinct s.activation && decide (s.activation.length ≤ 24)

/-! ## Current stages (R84) -/

/-- The outcomes of a current stage agree with its phase and its record. -/
def outcomesKept (s : State) (cs : CurrentStage) : Bool :=
  match cs.phase with
  | .due => cs.outcomes.isEmpty
  | .gated => cs.outcomes.isEmpty
  | .settling => cs.outcomes.length == (s.stageOf cs).commands.length && !(cs.outcomes.contains .skipped)
  | .proving => cs.outcomes.length == (s.stageOf cs).commands.length && !(cs.outcomes.contains .skipped)
  | .finished =>
    cs.outcomes.length == (s.stageOf cs).commands.length &&
      (!(cs.outcomes.contains .skipped) || cs.outcomes.all (· == .skipped))

/-- The phase of a current stage agrees with the phase of its zone. -/
def phaseKept (s : State) (z : Fin 24) (r : ZoneRecord) (cs : CurrentStage) : Bool :=
  match r.phase with
  | .normal => false
  | .running => cs.phase != .finished
  | .stopped =>
    cs.phase == .finished && cs.outcomes.contains .failed && (s.stageOf cs).policy == .stop
  | .complete => cs.phase == .finished && s.isLast z cs.position

/-- A stage in SETTLING or PROVING has its commands in the map. -/
def commandsKept (s : State) (r : ZoneRecord) (cs : CurrentStage) : Bool :=
  !cs.phase.live ||
    (s.stageOf cs).commands.all (fun c =>
      match r.map[c.actuator] with
      | none => false
      | some e => e.cmd == c.cmd)

/-- The check of one zone's current stage (R84). -/
def stageKept (s : State) (z : Fin 24) : Bool :=
  let r := s.zone z
  match r.stage with
  | none => r.mode == .none
  | some cs =>
    r.mode != .none && (s.sequenceOf z)[cs.position]? == some cs.stage && (s.stageDef cs.stage).isSome &&
      phaseKept s z r cs && outcomesKept s cs && decide (cs.outcomes.count .failed ≤ r.failed.getD 0) &&
      commandsKept s r cs

/-! ## Drives (R108, R131) -/

/-- The outputs of a reversing drive agree with its state (R86). -/
def reversingKept (limit : Nat) (now : Nat) (d : DamperDrive) : Bool :=
  !(d.openOut && d.closeOut) && (!d.openOut || d.state == .drivingOpen) && (!d.closeOut || d.state == .drivingClose) &&
    decide ((d.history.filter (youngerThanWindow now)).length ≤ limit)

/-- The output of a spring drive agrees with R93, and its state is one of its kind. -/
def springKept (fail : Side) (d : DamperDrive) : Bool :=
  d.driveOut == (d.target != fail) && d.state != .deadTime && d.state != .cooldown

/-- The run output of a fan agrees with its run state and target (R110). -/
def runOutputKept (f : FanDrive) : Bool :=
  match f.state with
  | .stopped => !f.runOut
  | .starting => f.runOut
  | .running => f.runOut
  | .stopping => !f.runOut
  | .restartWait => !f.runOut
  | .failed => f.runOut == (f.fault == some .inputFault && f.target.isRun)

/-- The speed chain of a variable-speed fan is within its limits (R131). -/
def speedKept (sd : SpeedDef) (f : FanDrive) : Bool :=
  decide (sd.smin ≤ f.clamped ∧ f.clamped ≤ sd.smax) && decide (f.ramped ≤ sd.smax) &&
    (f.runOut || f.ramped == 0) && decide (f.preload ≤ 1023)

/-- The check of a fan drive (R131). -/
def fanKept (d : FanDef) (f : FanDrive) : Bool :=
  runOutputKept f && (f.state == .failed) == f.fault.isSome && decide (f.attempts ≤ d.restartAttempts) &&
    (f.lastFailure.isNone || f.state == .restartWait) &&
    (match d.speed with
     | none => true
     | some sd => speedKept sd f)

/-- The check of one drive against its record (R108, R131): a drive of a record that is UNUSED or of another kind fails. -/
def driveKept (s : State) (a : Fin 64) : Bool :=
  match s.drive a, s.record a with
  | .none, _ => true
  | .damper d, .reversing def' => reversingKept def'.reversalLimit s.now d
  | .damper d, .spring def' => springKept def'.failPosition d
  | .fan f, .fan def' => fanKept def' f
  | _, _ => false

/-! ## Overrides and stand-down (R162) -/

/-- The number of lists holding an OVERRIDE claim. -/
def overrideLists (s : State) : Nat :=
  (List.finRange 64).countP (fun a => (claimOf (s.claimList a).claims .override).isSome)

/-- A zone's held flag is allowed. -/
def heldKept (s : State) (z : Fin 24) : Bool :=
  let r := s.zone z
  !r.held || (s.standDown && r.mode == .fire && r.phase != .stopped && r.phase != .complete)

/-- The check of the Override and Stand-Down block (R162). -/
def overridesKept (s : State) : Bool :=
  s.overrides == overrideLists s && s.standDown == s.standDownOption.isSome && (List.finRange 24).all (heldKept s)

/-! ## The whole check (R14) -/

/-- The working state that a warm restart is about to keep passes every check. -/
def retainedOk (s : State) : Bool :=
  (List.finRange 64).all (listKept s) && activationKept s && modesKept s && (List.finRange 24).all (zoneKept s) &&
    (List.finRange 24).all (stageKept s) && (List.finRange 64).all (driveKept s) && overridesKept s

end Sys2Proof.Machine
end

