-- ==== Sys2Proof/Machine/Restart.lean ====
section
/-!
DEFINITION. The two restarts: loss of power, cold start (R12, R16, R37, R58, R107, R130, R137, R145, R149, R162, R175, R177,
R181, R188), and the begin and end of a warm restart (R14, R15, R83, R108, R131, R137, R145, R170).
-/

namespace Sys2Proof.Machine

/-! ## The store at a loss of working memory -/

/-- A sector when the working memory is lost: no staging image, activation state NONE; a write in progress is cut off under
its INVALID mark, and the stored image is part-written (R181, R182, R188). -/
def SectorState.losePower (sec : Sector) (cut : Nat) (x : SectorState) : SectorState where
  valid := x.valid
  activation := .none
  stored := if x.activation = .writing then tornImage sec cut else x.stored
  staging := none

/-- The three sectors when the working memory is lost. -/
def Store.losePower (cut : Nat) (st : Store) : Store where
  identity := st.identity.losePower .identity cut
  plant := st.plant.losePower .plant cut
  sequences := st.sequences.losePower .sequences cut

/-- The state with its working memory lost: the store is kept, and so are the waiting commands and the clock, which are the
model's own. -/
def loseWorking (s : State) : State :=
  { State.reset with
    pending := s.pending
    now := s.now
    cutWrites := if s.store.writing.isSome then s.cutWrites + 1 else s.cutWrites
    store := s.store.losePower s.cutWrites }

/-- Power is lost: every output is de-energized and nothing is taken until power is applied (R12, R170, R188). -/
def losePower (s : State) : State := { loseWorking s with power := .unpowered, siteCode := none }

/-! ## Cold start (R12) -/

/-- A line's supervision time at a cold start, in tenths of a second (R175). -/
def Store.startTime (st : Store) (l : Line) : Nat :=
  if st.identity.valid then supervisionTimeOf st.identity.stored l
  else if l.supervised then defaultSupervisionTime
  else 0

/-- The working state that a cold start loads, before the validity marks are judged (R12, R37, R58, R145, R162, R175). -/
def loadedState (cause : StartCause) (s : State) : State :=
  let base := loseWorking s
  let p := base.store.startPlant
  { base with
    start := { kind := .cold, cause := cause }
    siteCode := if base.store.identity.valid then some (siteCodeOf base.store.identity.stored) else none
    plant := p
    filters := p.filters
    sequences := base.store.startSequences
    lists := emptyLists p
    channels := Vector.ofFn (fun c : Fin 16 => judgeChannel p.scalings[c] channelAtReset)
    ports := #v[portAtReset (base.store.startTime .panelA), portAtReset (base.store.startTime .panelB),
      portAtReset (base.store.startTime .override), portAtReset (base.store.startTime .building)] }

/-- A cold start (R12): CONFIG-FAULT when the PLANT or the SEQUENCES mark is INVALID, and otherwise a new drive for every
configured record. -/
def coldStart (cause : StartCause) (s : State) : State :=
  let loaded := loadedState cause s
  if loaded.store.plant.valid && loaded.store.sequences.valid then { loaded with drives := loaded.freshDrives none }
  else { loaded with configFault := true }

/-! ## The begin of a warm restart (R14, R16, R170) -/

/-- A port whose answer is ended and which receives nothing (R14, R170). -/
def Port.atRestart (p : Port) : Port := { p with reception := .hunting, buffer := [], gapTimer := none, answer := none, sending := [] }

/-- A warm restart begins: the kept state is checked; a failed check gives a cold start (R14). -/
def beginWarmRestart (cause : StartCause) (s : State) : State :=
  if retainedOk s then
    { s with
      power := .restarting
      start := { kind := .warm, cause := cause }
      ports := s.ports.map Port.atRestart }
  else coldStart .retainedCheck s

/-! ## The end of a warm restart (R15, R83, R108, R131, R137, R145, R149, R175, R177) -/

/-- A port at the end of a warm restart: SILENT, HUNTING, change flag set. -/
def Port.atRestartEnd (p : Port) : Port :=
  { p.atRestart with line := .silent, supervisionTimer := none, changeFlag := true }

/-- The drive of an actuator at the end of a warm restart. -/
def restartedDrive (s : State) (a : Fin 64) : Drive :=
  match s.drive a, s.damperCtx a, s.fanCtx a with
  | .damper d, some ctx, _ => .damper (damperRestarted ctx d)
  | .fan f, _, some ctx => .fan (fanRestarted ctx f)
  | d, _, _ => d

/-- The re-entry of an issued stage: SETTLING with its timers at full length, frozen at once while the zone is held or
suspended; a settle time of 0 takes it to PROVING (R83). -/
def reenterIssued (s : State) (blocked : Bool) (cs : CurrentStage) : CurrentStage :=
  let full (tenths : Nat) : Timer :=
    if blocked then .frozen (tenthsToMs tenths) else startTimer s.now (tenthsToMs tenths)
  let record := s.stageOf cs
  { cs with
    phase := if record.settleTime = 0 then .proving else .settling
    settle := if record.settleTime = 0 then .stopped else full record.settleTime
    window := full record.proofWindow }

/-- The re-entry of a zone's current stage (R83). -/
def reenterStage (s : State) (blocked : Bool) (cs : CurrentStage) : CurrentStage :=
  match cs.phase with
  | .due => cs
  | .gated => { cs with phase := .due, gateWait := .stopped, gateExpired := false }
  | .settling => reenterIssued s blocked cs
  | .proving => reenterIssued s blocked cs
  | .finished => cs

/-- The re-entry of a zone at the end of a warm restart (R83). -/
def reenterZone (s : State) (z : Fin 24) : State :=
  let r := s.zone z
  if r.phase = .running then s.setZone z { r with stage := r.stage.map (reenterStage s r.blocked) } else s

/-- The state at the end of a warm restart, before its notices are handed: inputs, key and channels empty, the scan at channel 0
(R138), supply count 0, lines SILENT, drives restarted. -/
def restartedState (s : State) : State :=
  let s1 :=
    { s with
      power := .running
      inputs := Vector.replicate 128 inputAtReset
      key := inputAtReset
      channels := Vector.ofFn (fun c : Fin 16 => judgeChannel s.plant.scalings[c] channelAtReset)
      scan := 0
      supply := { s.supply with count := 0 }
      ports := s.ports.map Port.atRestartEnd }
  { s1 with drives := Vector.ofFn (restartedDrive s1) }

/-- The notice of a channel that the end of the restart changed (R145). -/
def noticeRestarted (old : State) (w : Work) (c : Fin 16) : Work :=
  if channelChanged (old.channel c) (w.st.channel c) then channelNotice c w else w

/-- The inputs that some record names (R137). -/
def State.allNamedInputs (s : State) : List (Fin 128) :=
  (List.finRange 64).flatMap (fun a => (namedInputs (s.record a)).map (·.input))

/-- The end of a warm restart: each stage re-enters, each named input hands UNKNOWN to its drive, each changed channel hands its
notice, and the engine goes on (R83, R137, R145). -/
def endWarmRestart (s : State) : State :=
  runEvent (restartedState s) (fun w =>
    let w1 := w.map (fun t => (List.finRange 24).foldl reenterZone t)
    let w2 := w1.st.allNamedInputs.foldl (fun w i => handInput i w) w1
    (List.finRange 16).foldl (noticeRestarted s) w2)

end Sys2Proof.Machine
end

