-- ==== Sys2Proof/Machine/PowerEvents.lean ====
section
/-!
DEFINITION. The commands of power and restart: COLD-START, POWER-LOSS, WARM-RESTART-START, SUPERVISOR, WARM-RESTART-END (R12,
R14, R15).
-/

namespace Sys2Proof.Machine

/-- Power is applied: a cold start with cause POWER (R12, R16). -/
def execColdStart (s : State) : Out := .next (coldStart .power s)

/-- Power is lost (R12). -/
def execPowerLoss (s : State) : Out := .next (losePower s)

/-- The supervisor begins a warm restart, and begins one again that is in progress; without power there is no supervisor
(R14, R16). -/
def supervisorRestart (s : State) : State := if s.power = .unpowered then s else beginWarmRestart .supervisor s

/-- A warm restart begins: for a RESTART once its answer has left the line, or for the supervisor (R14, R172). -/
def startWarmRestart (cause : WarmCause) (s : State) : State :=
  match cause with
  | .request => if s.power = .restartDue then beginWarmRestart .request s else s
  | .supervisor => supervisorRestart s

/-- A warm restart begins. -/
def execWarmRestartStart (cause : WarmCause) (s : State) : Out := .next (startWarmRestart cause s)

/-- The supervisor's event. -/
def execSupervisor (s : State) : Out := .next (supervisorRestart s)

/-- The warm restart in progress ends; no event where none is in progress (R15). -/
def execWarmRestartEnd (s : State) : Out := .next (if s.power = .restarting then endWarmRestart s else s)

end Sys2Proof.Machine
end

