-- ==== Sys2Proof/Machine/ScanEvents.lean ====
section
/-!
DEFINITION. The samples and conversions: inputs (R132 to R135), the key line (R136), channels (R138 to R143), the supply monitor
(R146 to R148), and the frame boundaries of the speed outputs (R127).
-/

namespace Sys2Proof.Machine

/-- A sample of an input; a new debounced state is handed to the drive that names the input (R133, R135). -/
def takeSample (i : Fin 128) (current : Nat) (s : State) : State :=
  let x := sampleInput (s.filterCount i) s.inputs[i] current
  let s1 := { s with inputs := s.inputs.set i x }
  if x.debounced = s.inputs[i].debounced then s1 else runEvent s1 (handInput i)

/-- A sample of the key line, with filter count 5; it hands nothing (R136). -/
def takeKeySample (current : Nat) (s : State) : State := { s with key := sampleInput keyFilterCount s.key current }

/-- A completed conversion has its effect at its place in the scan, which then goes on to the next one; the converter completes no
other conversion there (R138). -/
def atScan (place : Fin 17) (effect : State → State) (s : State) : State :=
  if s.scan = place then effect { s with scan := s.scan + 1 } else s

/-- A conversion of a channel: the code joins the window, the channel is judged, and a change of status or value is handed on
(R139, R142, R143). -/
def takeConversion (c : Fin 16) (code : BitVec 10) (s : State) : State :=
  let old := s.channel c
  let new := judgeChannel s.plant.scalings[c] { old with window := pushCode old.window code.toNat }
  let s1 := { s with channels := s.channels.set c new }
  if channelChanged old new then runEvent s1 (channelNotice c) else s1

/-- The place of the supply's conversion in the scan, after channel 15 (R138). -/
def supplyPlace : Fin 17 := 16

/-- A supply conversion: its reading is classed and counted, and a change of state is handed on (R146, R147, R148). -/
def takeSupply (code : BitVec 10) (s : State) : State :=
  let m := supplyAfter s.supply (supplyReading code.toNat)
  let s1 := { s with supply := m }
  match s.supply.state, m.state with
  | .ok, .low => runEvent s1 supplyLowEvent
  | .low, .ok => runEvent s1 supplyOkEvent
  | .ok, .ok => s1
  | .low, .low => s1

/-- A frame boundary of a speed output: the applied code is taken from the preload (R127). -/
def takeBoundary (o : Fin 16) (s : State) : State := { s with applied := s.applied.set o (s.preloadOf o) }

/-- A 10 ms sample of a supervised input. -/
def execInputSample (input : Fin 128) (current : Nat) (s : State) : Out := event (takeSample input current) s

/-- A 10 ms sample of the key line. -/
def execKeyLineSample (current : Nat) (s : State) : Out := event (takeKeySample current) s

/-- A completed conversion of a channel. -/
def execChannelConversion (channel : Fin 16) (code : BitVec 10) (s : State) : Out :=
  event (atScan channel.castSucc (takeConversion channel code)) s

/-- A completed supply conversion. -/
def execSupplyConversion (code : BitVec 10) (s : State) : Out :=
  event (atScan supplyPlace (takeSupply code)) s

/-- A 4 ms frame boundary of a speed output; through a warm restart the output keeps its applied code (R15, R131). -/
def execSpeedFrameBoundary (output : Fin 16) (s : State) : Out := event (takeBoundary output) s

end Sys2Proof.Machine
end

