-- ==== Sys2Proof/Machine/DriveEvents.lean ====
section
/-!
DEFINITION. The timer expiries of the drives: dampers (R89, R90, R92, R100), fans (R114, R115, R117, R119), the ramp (R124). The
expiry of a timer that is not running is no event (log 1).
-/

namespace Sys2Proof.Machine

/-- The instant at which a running timer ends. -/
def Timer.deadline : Timer → Option Nat
  | .running t => some t
  | .frozen _ => none
  | .stopped => none

/-- The expiry of a damper's timer: the clock stands at its end, and the drive acts. -/
def damperExpiry (a : Fin 64) (timer : DamperDrive → Option Nat) (act : DamperCtx → DamperDrive → DamperDrive) (s : State) :
    State :=
  match s.drive a with
  | .damper d =>
    (match timer d with
     | some t => runEvent (s.reach t) (damperEvent a act)
     | none => s)
  | .fan _ => s
  | .none => s

/-- The expiry of a fan's timer: the clock stands at its end, and the drive acts. -/
def fanExpiry (a : Fin 64) (timer : FanDrive → Option Nat) (act : FanCtx → FanDrive → FanDrive) (s : State) : State :=
  match s.drive a with
  | .fan f =>
    (match timer f with
     | some t => runEvent (s.reach t) (fanEvent a act)
     | none => s)
  | .damper _ => s
  | .none => s

/-- A damper's travel timer expires (R89, R94). -/
def execTravelTimerExpiry (actuator : Fin 64) (s : State) : Out :=
  event (damperExpiry actuator (fun d => d.travel.deadline) travelExpiry) s

/-- A reversing damper's dead-time timer expires (R90). -/
def execDeadTimeExpiry (actuator : Fin 64) (s : State) : Out :=
  event (damperExpiry actuator (fun d => d.deadTimer) deadTimeEnd) s

/-- A reversing damper's cooldown timer expires (R92). -/
def execCooldownExpiry (actuator : Fin 64) (s : State) : Out :=
  event (damperExpiry actuator (fun d => d.coolTimer) cooldownEnd) s

/-- The SWITCH-DISAGREE timer of a damper expires (R100). -/
def execSwitchDisagreeExpiry (actuator : Fin 64) (s : State) : Out :=
  event (damperExpiry actuator (fun d => d.disagreeTimer) disagreeEnd) s

/-- The LEFT-POSITION timer of a damper expires (R100). -/
def execLeftPositionExpiry (actuator : Fin 64) (s : State) : Out :=
  event (damperExpiry actuator (fun d => d.leftTimer) leftEnd) s

/-- A fan's start proof timer expires (R114). -/
def execStartProofExpiry (actuator : Fin 64) (s : State) : Out :=
  event (fanExpiry actuator (fun f => f.startTimer) startProofEnd) s

/-- A fan's stop proof timer expires (R119). -/
def execStopProofExpiry (actuator : Fin 64) (s : State) : Out :=
  event (fanExpiry actuator (fun f => f.stopTimer) stopProofEnd) s

/-- A fan's run-loss timer expires (R115). -/
def execRunLossExpiry (actuator : Fin 64) (s : State) : Out :=
  event (fanExpiry actuator (fun f => f.lossTimer) runLossEnd) s

/-- A fan's restart delay expires (R117). -/
def execRestartDelayExpiry (actuator : Fin 64) (s : State) : Out :=
  event (fanExpiry actuator (fun f => f.restartTimer) restartDelayEnd) s

/-- A fan's ramp timer expires (R124). -/
def execRampStep (actuator : Fin 64) (s : State) : Out :=
  event (fanExpiry actuator (fun f => f.rampTimer) fanRamp) s

end Sys2Proof.Machine
end

