-- ==== Sys2Proof/Machine/StageEvents.lean ====
section
/-!
DEFINITION. The timer expiries of a zone's current stage: settle (R69), proof window (R71), gate wait (R64). The expiry of a timer
that is not running, frozen or stopped, is no event (R77, R81, log 1), and neither is one in a phase that it cannot come in: a
proof window does not expire while its stage is SETTLING (R71).
-/

namespace Sys2Proof.Machine

/-- The expiry of a stage timer in the phase it belongs to: the clock stands at its end, the stage acts, and the engine goes on. -/
def stageExpiry (z : Fin 24) (phase : StagePhase) (timer : CurrentStage → Timer) (act : CurrentStage → Work → Work) (s : State) :
    State :=
  match (s.zone z).stage with
  | none => s
  | some cs =>
    if cs.phase = phase then
      match (timer cs).deadline with
      | some t => runEvent (s.reach t) (act cs)
      | none => s
    else s

/-- The settle timer has expired: the stage is PROVING, and the engine judges it for finishing (R69, R70). -/
def settleEnd (z : Fin 24) (cs : CurrentStage) (w : Work) : Work :=
  w.map (fun s => s.setZone z { s.zone z with stage := some (provingStage cs) })

/-- The proof window has expired (R71). -/
def windowEnd (z : Fin 24) (cs : CurrentStage) (w : Work) : Work := w.map (fun s => expireWindow s z cs)

/-- The gate wait has expired: the stage is issued with its GATE-EXPIRED mark set (R64). -/
def gateWaitEnd (z : Fin 24) (cs : CurrentStage) (w : Work) : Work := issueStage z cs true w

/-- A stage's settle timer expires. -/
def execSettleExpiry (zone : Fin 24) (s : State) : Out :=
  event (stageExpiry zone .settling (fun cs => cs.settle) (settleEnd zone)) s

/-- A stage's proof-window timer expires. -/
def execProofWindowExpiry (zone : Fin 24) (s : State) : Out :=
  event (stageExpiry zone .proving (fun cs => cs.window) (windowEnd zone)) s

/-- A stage's gate-wait timer expires. -/
def execGateWaitExpiry (zone : Fin 24) (s : State) : Out :=
  event (stageExpiry zone .gated (fun cs => cs.gateWait) (gateWaitEnd zone)) s

end Sys2Proof.Machine
end

