-- ==== Sys2Proof/Machine/Dispatch.lean ====
section
/-!
DEFINITION. The dispatch of a command to its meaning: one arm per constructor of Instr.
-/

namespace Sys2Proof.Machine

def exec (i : Instr) (s : State) : Host.Outcome State Fault Refusal :=
  match i with
  | .poll line => Sys2Proof.Machine.execPoll line s
  | .readSummary line page => Sys2Proof.Machine.execReadSummary line page s
  | .readZone line zone part => Sys2Proof.Machine.execReadZone line zone part s
  | .readActuator line actuator => Sys2Proof.Machine.execReadActuator line actuator s
  | .zoneAlarm panel zone => Sys2Proof.Machine.execZoneAlarm panel zone s
  | .zoneReset panel zone => Sys2Proof.Machine.execZoneReset panel zone s
  | .overrideSet actuator command speed => Sys2Proof.Machine.execOverrideSet actuator command speed s
  | .overrideRelease actuator => Sys2Proof.Machine.execOverrideRelease actuator s
  | .standDown option => Sys2Proof.Machine.execStandDown option s
  | .resume => Sys2Proof.Machine.execResume s
  | .faultClear line actuator => Sys2Proof.Machine.execFaultClear line actuator s
  | .normalSet actuator command speed => Sys2Proof.Machine.execNormalSet actuator command speed s
  | .normalRelease actuator => Sys2Proof.Machine.execNormalRelease actuator s
  | .normalGroup body => Sys2Proof.Machine.execNormalGroup body s
  | .testStart zone reason => Sys2Proof.Machine.execTestStart zone reason s
  | .testEnd zone => Sys2Proof.Machine.execTestEnd zone s
  | .configRead body => Sys2Proof.Machine.execConfigRead body s
  | .configWrite body => Sys2Proof.Machine.execConfigWrite body s
  | .configActivateApply sector => Sys2Proof.Machine.execConfigActivateApply sector s
  | .configActivateDiscard sector => Sys2Proof.Machine.execConfigActivateDiscard sector s
  | .restart => Sys2Proof.Machine.execRestart s
  | .frameReceived line frame => Sys2Proof.Machine.execFrameReceived line frame s
  | .gapTimerExpiry line => Sys2Proof.Machine.execGapTimerExpiry line s
  | .answerSent line => Sys2Proof.Machine.execAnswerSent line s
  | .supervisionTimerExpiry line => Sys2Proof.Machine.execSupervisionTimerExpiry line s
  | .coldStart => Sys2Proof.Machine.execColdStart s
  | .powerLoss => Sys2Proof.Machine.execPowerLoss s
  | .warmRestartStart cause => Sys2Proof.Machine.execWarmRestartStart cause s
  | .supervisor => Sys2Proof.Machine.execSupervisor s
  | .warmRestartEnd => Sys2Proof.Machine.execWarmRestartEnd s
  | .inputSample input current => Sys2Proof.Machine.execInputSample input current s
  | .keyLineSample current => Sys2Proof.Machine.execKeyLineSample current s
  | .channelConversion channel code => Sys2Proof.Machine.execChannelConversion channel code s
  | .supplyConversion code => Sys2Proof.Machine.execSupplyConversion code s
  | .speedFrameBoundary output => Sys2Proof.Machine.execSpeedFrameBoundary output s
  | .writeCompletion => Sys2Proof.Machine.execWriteCompletion s
  | .travelTimerExpiry actuator => Sys2Proof.Machine.execTravelTimerExpiry actuator s
  | .deadTimeExpiry actuator => Sys2Proof.Machine.execDeadTimeExpiry actuator s
  | .cooldownExpiry actuator => Sys2Proof.Machine.execCooldownExpiry actuator s
  | .switchDisagreeExpiry actuator => Sys2Proof.Machine.execSwitchDisagreeExpiry actuator s
  | .leftPositionExpiry actuator => Sys2Proof.Machine.execLeftPositionExpiry actuator s
  | .startProofExpiry actuator => Sys2Proof.Machine.execStartProofExpiry actuator s
  | .stopProofExpiry actuator => Sys2Proof.Machine.execStopProofExpiry actuator s
  | .runLossExpiry actuator => Sys2Proof.Machine.execRunLossExpiry actuator s
  | .restartDelayExpiry actuator => Sys2Proof.Machine.execRestartDelayExpiry actuator s
  | .rampStep actuator => Sys2Proof.Machine.execRampStep actuator s
  | .settleExpiry zone => Sys2Proof.Machine.execSettleExpiry zone s
  | .proofWindowExpiry zone => Sys2Proof.Machine.execProofWindowExpiry zone s
  | .gateWaitExpiry zone => Sys2Proof.Machine.execGateWaitExpiry zone s
  | .byteReceived line received => Sys2Proof.Machine.execByteReceived line received s
  | .answerBegin line => Sys2Proof.Machine.execAnswerBegin line s

end Sys2Proof.Machine
end

