-- ==== Sys2Proof/Safety.lean ====
section
/-!
DEFINITION. What counts as a sound state of the part, in the terms the statements use: the store (R181), the drives and their
outputs (R86, R93, R110, R120), the zones and stand-down (R41, R42, R46, R49, R157), the claim lists and overrides (R18, R19,
R28, R151). Each is a promise the manual makes of every state, and each is kept by every step. Then what the rules say that one
event makes of a drive, a claim list, a stage, a zone and the whole part, as relations between before and after.
-/

namespace Sys2Proof.Machine

/-! ## The store (R181) -/

/-- A sector's images are in canonical form; a WRITING sector has an INVALID mark and a staging image. -/
def SectorSound (sec : Sector) (x : SectorState) : Prop :=
  Memory.wf sec x.stored = true ∧ (∀ img, x.staging = some img → Memory.wf sec img = true) ∧
    (x.activation = .writing → x.valid = false ∧ x.staging.isSome = true)

/-- The store: every sector sound, at most one WRITING, IDENTITY never PENDING (R181). -/
def StoreSound (s : State) : Prop :=
  (∀ sec, SectorSound sec (s.store.sector sec)) ∧
    (∀ x y, (s.store.sector x).activation = .writing → (s.store.sector y).activation = .writing → x = y) ∧
    s.store.identity.activation ≠ .pending

/-! ## The drives (R86, R93, R110, R120) -/

/-- A reversing drive: each output is energized in its driving state alone, so never both; a dead time or a cooldown runs only
in its own state (R86). -/
def ReversingSound (d : DamperDrive) : Prop :=
  d.openOut = (d.state == .drivingOpen) ∧ d.closeOut = (d.state == .drivingClose) ∧ d.driveOut = false ∧
    (d.deadTimer.isSome = true → d.state = .deadTime) ∧ (d.coolTimer.isSome = true → d.state = .cooldown)

/-- A spring drive: its output is energized exactly while its target differs from its fail position, and it has neither
dead time nor cooldown (R93). -/
def SpringSound (fail : Side) (d : DamperDrive) : Prop :=
  d.driveOut = (d.target != fail) ∧ d.openOut = false ∧ d.closeOut = false ∧ d.state ≠ .deadTime ∧ d.state ≠ .cooldown

/-- A fan drive: its run output is as R110 gives and the ramp timer runs exactly while it is on, a fault stands exactly in FAILED, and
no more attempts are used than configured (R110, R116, R120). -/
def FanSound (d : FanDef) (f : FanDrive) : Prop :=
  runOutputKept f = true ∧ (f.state = .failed ↔ f.fault.isSome = true) ∧ f.attempts ≤ d.restartAttempts ∧
    (f.state = .restartWait → f.attempts < d.restartAttempts) ∧ (f.restartTimer.isSome = true → f.state = .restartWait) ∧
    (f.startTimer.isSome = true → f.state = .starting) ∧ (f.stopTimer.isSome = true → f.state = .stopping) ∧
    (f.lossTimer.isSome = true → f.state = .running) ∧ f.rampTimer.isSome = f.runOut

/-- A drive serves a record of its own kind and is sound for it. -/
def DriveSound : ActuatorDef → Drive → Prop
  | _, .none => True
  | .reversing _, .damper d => ReversingSound d
  | .spring r, .damper d => SpringSound r.failPosition d
  | .fan r, .fan f => FanSound r f
  | _, _ => False

/-- Every drive is sound; in CONFIG-FAULT there is none, and no PLANT image waits to be applied (R13, R189); outside it every input's
filter count is the one of the PLANT image in force (R134). -/
def DrivesSound (s : State) : Prop :=
  (∀ a, DriveSound (s.record a) (s.drive a)) ∧
    (s.configFault = true → (∀ a, s.drive a = .none) ∧ s.store.plant.activation ≠ .pending) ∧
    (s.configFault = false → ∀ i, s.filterCount i = s.plant.filterCount i)

/-- The speed chain of every variable-speed fan: C within Smin..Smax, R within 0..Smax, R = 0 while the run output is off, the preload
within 0..1023, and the ramp timer running only while the run output is on (R110, R123, R124). -/
def SpeedsSound (s : State) : Prop :=
  ∀ a f r sd, s.drive a = .fan f → s.record a = .fan r → r.speed = some sd →
    sd.smin ≤ f.clamped ∧ f.clamped ≤ sd.smax ∧ f.ramped ≤ sd.smax ∧ (f.runOut = false → f.ramped = 0) ∧
      f.preload ≤ 1023 ∧ (f.rampTimer.isSome = true → f.runOut = true)

/-- The speed limits of every fan of a PLANT image are as validation leaves them (R3, R10). -/
def FansOrdered (p : PlantImage) : Prop :=
  ∀ (a : Fin 64) (r : FanDef) (sd : SpeedDef), p.acts[a] = .fan r → r.speed = some sd → sd.smin ≤ sd.smax ∧ sd.smax ≤ 1000

/-- The speed limits are ordered in the PLANT image in force, in the stored image under a VALID mark, and in the image that is being
written (R10, R185, R186). -/
def LimitsOrdered (s : State) : Prop :=
  FansOrdered s.plant ∧ (s.store.plant.valid = true → FansOrdered (plantOf s.store.plant.stored)) ∧
    ∀ img, s.store.plant.activation = .writing → s.store.plant.staging = some img → FansOrdered (plantOf img)

/-! ## The zones and stand-down (R41, R42, R46, R49, R151, R157) -/

/-- One zone record: with no instance it has its no-instance values; its alarm sources are non-empty exactly in FIRE; it is
held only in FIRE and while stand-down is SET. -/
def ZoneSound (s : State) (r : ZoneRecord) : Prop :=
  (r.mode = .none ↔ r.phase = .normal) ∧ (r.mode = .none ↔ r.stage = none) ∧ (r.mode = .none ↔ r.failed = none) ∧
    ((r.sourceA = true ∨ r.sourceB = true) ↔ r.mode = .fire) ∧
    (r.held = true → r.mode = .fire ∧ s.standDown = true) ∧ (r.suspended = true → r.mode ≠ .none)

/-- The zones: each record sound; the Activation List holds, once, each zone with an instance and no other (R42); a TEST
instance stands alone (R49); stand-down has an option exactly while SET (R151). -/
def ZonesSound (s : State) : Prop :=
  (∀ z, ZoneSound s (s.zone z)) ∧ s.activation.Nodup ∧ (∀ z, z ∈ s.activation ↔ (s.zone z).mode ≠ .none) ∧
    (∀ z y, (s.zone z).mode = .test → (s.zone y).mode ≠ .none → y = z) ∧
    (s.standDown = true ↔ s.standDownOption.isSome = true)

/-! ## The claim lists (R18, R19, R28, R59, R151) -/

/-- A claim of a zone is in a list only while the zone is active in the claim's mode (R17, R38). -/
def ClaimActive (s : State) (c : Claim) : Prop :=
  ∀ z, (c.src = .test z → z ∈ s.activation ∧ (s.zone z).mode = .test) ∧
    (c.src = .fire z → z ∈ s.activation ∧ (s.zone z).mode = .fire)

/-- A zone's map and an actuator's list agree (R51, R52, R59): no entry, no claim of the zone; SHED, no claim; IN-FORCE or
DISPLACED, the zone's claim with the entry's command. -/
def EntryAgrees (s : State) (z : Fin 24) (a : Fin 64) : Prop :=
  match (s.zone z).map[a] with
  | none => ∀ c ∈ (s.claimList a).claims, c.src ≠ .fire z ∧ c.src ≠ .test z
  | some e =>
    if e.status = .shed then ∀ c ∈ (s.claimList a).claims, c.src ≠ zoneSource (s.zone z) z
    else ∃ c, claimOf (s.claimList a).claims (zoneSource (s.zone z) z) = some c ∧ c.cmd = e.cmd

/-- The claim lists: at most 6 claims in each, no source twice, in rank order against the Activation List, each zone's claim of an
active zone, each target derived from its list; every map in agreement with the lists; the override count the number of lists
that hold an OVERRIDE claim; in CONFIG-FAULT no claim and no active zone (R13, R18, R19, R28, R59, R151). -/
def ListsSound (s : State) : Prop :=
  (∀ a, (s.claimList a).claims.length ≤ maxClaims ∧
    ((s.claimList a).claims.map (·.src)).Nodup ∧
    (s.claimList a).claims.Pairwise (fun c x => outranks s.activation c x = true) ∧
    (∀ c ∈ (s.claimList a).claims, ClaimActive s c) ∧
    (s.claimList a).target = deriveTarget (restCommand (s.record a)) (s.claimList a).claims) ∧
  (∀ z a, EntryAgrees s z a) ∧
  s.overrides = overrideLists s ∧
  (s.configFault = true → s.activation = [] ∧ ∀ a, (s.claimList a).claims = [])

/-! ## What statements say of a next state -/

/-- Two states have the same ports but for their change flags. -/
def SamePorts (s t : State) : Prop := ∀ l, (t.port l).raise = (s.port l).raise

/-- Every line's change flag is set (R176). -/
def FlagsSet (t : State) : Prop := ∀ l, (t.port l).changeFlag = true

/-- One event of one drive, as it stands before the Sequence Engine judges it: the drive is written, a fault that has appeared or
been cleared sets the change flags, and a new proven state or a cleared fault is handed to the engine (R98, R122). A fault that one
event replaces by another kind counts as cleared, which is the model's choice (log 33: R75 and R98 do not say). -/
def driveEnded (a : Fin 64) (before after : Drive) (s : State) : Work where
  st := if before.fault = after.fault then s.setDrive a after else (s.setDrive a after).raiseFlags
  touched := if before.proven = after.proven ∧ (before.fault = none ∨ before.fault = after.fault) then [] else [a]

/-- The state that the Sequence Engine leaves after an event's own operations (log 12). -/
def settled (w : Work) : State := (engineLoop engineRounds w).st

/-- A reversing drive's outputs stand for a state: the driving side's alone while it travels, none otherwise; a spring drive's
output stays as it was (R86, R93). -/
def OutputsFor (ctx : DamperCtx) (before after : DamperDrive) : Prop :=
  match ctx.kind with
  | .reversing _ _ =>
    after.openOut = (after.state == .drivingOpen) ∧ after.closeOut = (after.state == .drivingClose)
  | .spring _ => after.driveOut = before.driveOut

/-! ## What an event makes of a damper drive -/

/-- A movement starts toward a side for a time (R85, R86, R95): the drive is in that driving state with the travel timer running and its
position MOVING; a reversing drive energizes that side's output alone, which becomes the last energized direction, and its
pending direction and mark end; with both switches ON the SWITCH-DISAGREE timer runs (R89, log 20). -/
def StartsToward (ctx : DamperCtx) (side : Side) (duration : Nat) (after : DamperDrive) : Prop :=
  after.state = side.driving ∧ after.travel = .running (ctx.now + duration) ∧ after.position = .moving ∧
    (ctx.bothOn = true → after.disagreeTimer.isSome = true) ∧
    match ctx.kind with
    | .reversing _ _ =>
      after.openOut = (side == .openSide) ∧ after.closeOut = (side == .closedSide) ∧ after.lastDirection = some side ∧
        after.pending = none ∧ after.interrupted = false
    | .spring _ => True

/-- Both outputs of a reversing drive are off. -/
def OutputsOff (d : DamperDrive) : Prop := d.openOut = false ∧ d.closeOut = false

/-- A drive stays where it is: state, timer and outputs. -/
def Stays (before after : DamperDrive) : Prop :=
  after.state = before.state ∧ after.travel = before.travel ∧ after.openOut = before.openOut ∧
    after.closeOut = before.closeOut ∧ after.driveOut = before.driveOut

/-- A reversing drive enters DEAD-TIME with the full dead time toward a side, with the interruption mark as given (R87, R88, R104). -/
def WaitsDeadTime (ctx : DamperCtx) (deadTime : Nat) (side : Side) (mark : Bool) (after : DamperDrive) : Prop :=
  after.state = .deadTime ∧ after.deadTimer = some (ctx.now + deadTime) ∧ after.travel = .stopped ∧
    after.pending = some side ∧ after.interrupted = mark ∧ OutputsOff after

/-- A reversing drive acts on a target (R87, R88). In IDLE: proven there, it stays; with the supply low, it is SUSPENDED toward it with
the full travel; against the last energized direction within the dead time, DEAD-TIME without the mark; otherwise it starts. In
travel the other way: DEAD-TIME with the mark, a TIMED position UNKNOWN. In DEAD-TIME: the pending direction turns. In COOLDOWN:
IDLE if proven, otherwise it starts in the last energized direction. SUSPENDED: it waits. -/
def ReversingActs (ctx : DamperCtx) (deadTime : Nat) (side : Side) (before after : DamperDrive) : Prop :=
  let proven := positionProves ctx.mode before.position side = true
  let pauses := before.lastDirection ≠ some side ∧ ∃ t, before.offSince = some t ∧ ctx.now - t < deadTime;
  (before.state = .idle →
    (proven → Stays before after) ∧
    (¬ proven → before.supply = .low →
      after.state = .suspended ∧ after.travel = .frozen ctx.travelLimit ∧ after.remembered = some side ∧
        after.interrupted = false ∧ OutputsOff after) ∧
    (¬ proven → before.supply = .ok → pauses → WaitsDeadTime ctx deadTime side false after) ∧
    (¬ proven → before.supply = .ok → ¬ pauses → StartsToward ctx side ctx.travelLimit after)) ∧
  (before.state = side.driving → Stays before after) ∧
  (before.state = side.other.driving →
    WaitsDeadTime ctx deadTime side true after ∧ (ctx.mode = .timed → after.position = .unknown)) ∧
  (before.state = .deadTime →
    Stays before after ∧ after.pending = some side ∧ after.deadTimer = before.deadTimer ∧
      after.interrupted = before.interrupted) ∧
  (before.state = .cooldown →
    (proven → after.state = .idle ∧ after.coolTimer = none ∧ OutputsOff after) ∧
    (¬ proven → StartsToward ctx (before.lastDirection.getD side) ctx.travelLimit after ∧ after.coolTimer = none)) ∧
  (before.state = .suspended → Stays before after ∧ after.remembered = before.remembered)

/-- A spring drive acts on a target (R93): the output is on exactly while the target differs from the fail position; IDLE and proven
there, it stays; with the supply low, it is SUSPENDED; otherwise it starts for the full travel. -/
def SpringActs (ctx : DamperCtx) (fail side : Side) (before after : DamperDrive) : Prop :=
  let stays := before.state = .idle ∧ positionProves ctx.mode before.position side = true
  after.driveOut = (side != fail) ∧
    (stays → after.state = .idle ∧ after.travel = before.travel) ∧
    (¬ stays → before.supply = .low → after.state = .suspended ∧ after.travel = .stopped) ∧
    (¬ stays → before.supply = .ok → StartsToward ctx side ctx.travelLimit after)

/-- A damper drive of either kind acts on a target; its reversal history and its restart bar stay (R87, R88, R91, R93). -/
def ActsOnTarget (ctx : DamperCtx) (side : Side) (before after : DamperDrive) : Prop :=
  after.target = side ∧ after.history = before.history ∧ after.restartBar = before.restartBar ∧
    match ctx.kind with
    | .reversing deadTime _ => ReversingActs ctx deadTime side before after
    | .spring fail => SpringActs ctx fail side before after

/-- A damper drive takes a target change: its fault is cleared, and it acts on the target (R87, R88, R93, R102). -/
def DamperTargeted (ctx : DamperCtx) (side : Side) (before after : DamperDrive) : Prop :=
  after.fault = none ∧ ActsOnTarget ctx side before after

/-- The switch of a side that is named is the one read there. -/
def OneSwitch (side : Side) (switch : Option Debounced) (arrival : Bool) (position : Position) : Prop :=
  (switch = some .on → position = side.position) ∧
    (switch = some .off → position = if arrival then side.other.position else .moving) ∧
    (switch ≠ some .on → switch ≠ some .off → position = .unknown)

/-- The position that the switches show (R96): with two healthy switches by the table of both, with one by that one's, and UNKNOWN
with none. -/
def SwitchesShow (ctx : DamperCtx) (arrival : Bool) (position : Position) : Prop :=
  let healthy (x : Option Debounced) : Prop := x = some .on ∨ x = some .off
  match ctx.mode with
  | .timed => True
  | .openSwitch => OneSwitch .openSide ctx.openSwitch arrival position
  | .closedSwitch => OneSwitch .closedSide ctx.closedSwitch arrival position
  | .bothSwitches =>
    (ctx.openSwitch = some .on → ctx.closedSwitch = some .off → position = .openPos) ∧
      (ctx.openSwitch = some .off → ctx.closedSwitch = some .on → position = .closedPos) ∧
      (ctx.openSwitch = some .off → ctx.closedSwitch = some .off → position = .moving) ∧
      (ctx.openSwitch = some .on → ctx.closedSwitch = some .on → position = .moving) ∧
      (¬ healthy ctx.closedSwitch → OneSwitch .openSide ctx.openSwitch false position) ∧
      (¬ healthy ctx.openSwitch → OneSwitch .closedSide ctx.closedSwitch false position)

/-- A new debounced state of the switch of a side reaches a damper drive (R89, R96, R100, R101): ON on the driven side is arrival, and
nothing else of the movement changes; a fault band latches INPUT-FAULT if no fault is latched; the SWITCH-DISAGREE timer runs exactly
while both switches read ON; the position is judged by the switches out of travel, unless a BY-TIME position or a position kept
through a restart stands; leaving the target's position in IDLE starts LEFT-POSITION. A travel end that waited for the switch
(R96) has its own clause. -/
def SwitchTaken (ctx : DamperCtx) (side : Side) (reading : Debounced) (before after : DamperDrive) : Prop :=
  after.target = before.target ∧ after.history = before.history ∧ after.lastDirection = before.lastDirection ∧
    (before.endWaits = false →
      (before.state = side.driving → reading = .on → after.state = .idle ∧ after.travel = .stopped ∧ OutputsFor ctx before after) ∧
      (before.state ≠ side.driving ∨ reading ≠ .on → Stays before after) ∧
      after.fault = if reading.faulted then before.fault.or (some .inputFault) else before.fault) ∧
    (before.endWaits = true → drivingSide before.state = none →
      (reading = .on → before.fault = none → after.fault = some .travelTimeout ∧ after.state = .idle ∧ after.travel = .stopped) ∧
      (reading = .off → after.unswitchedArrival = true ∧ after.fault = before.fault ∧ Stays before after)) ∧
    after.disagreeTimer = (if ctx.bothOn then some (before.disagreeTimer.getD (ctx.now + 2000)) else none) ∧
    (drivingSide after.state = none → (before.keptPosition = false ∨ ctx.anyUnknown = false) →
      before.position ≠ .openByTime → before.position ≠ .closedByTime →
      SwitchesShow ctx after.unswitchedArrival after.position) ∧
    (before.state = .idle → after.state = .idle → after.fault = none → ctx.mode ≠ .timed → ctx.anyUnknown = false →
      before.leftTimer = none → before.leftFrom = none → after.position ≠ before.position →
      positionProves ctx.mode before.position before.target = true → after.leftTimer = some (ctx.now + 2000))

/-- SUPPLY-LOW at a damper drive (R103, R105): a travelling reversing drive is SUSPENDED with its outputs off, its direction
remembered, its remaining travel frozen and the mark set; out of DEAD-TIME or COOLDOWN it is SUSPENDED with the last energized
direction remembered (log 20) and the full travel; a spring drive is SUSPENDED from travel or energized in IDLE, its output kept;
a TIMED position is then UNKNOWN; any other drive stays. -/
def SupplyFalls (ctx : DamperCtx) (before after : DamperDrive) : Prop :=
  after.supply = .low ∧ after.target = before.target ∧ after.history = before.history ∧
    match ctx.kind with
    | .reversing _ _ =>
      (∀ side, drivingSide before.state = some side →
        after.state = .suspended ∧ OutputsOff after ∧ after.remembered = some side ∧ after.interrupted = true ∧
          (∀ e, before.travel = .running e → after.travel = .frozen (e - ctx.now)) ∧
          (ctx.mode = .timed → after.position = .unknown)) ∧
      (before.state = .deadTime ∨ before.state = .cooldown →
        after.state = .suspended ∧ OutputsOff after ∧ after.deadTimer = none ∧ after.coolTimer = none ∧
          after.remembered = some (before.lastDirection.getD (before.pending.getD before.target)) ∧
          after.interrupted = before.interrupted ∧ after.travel = .frozen ctx.travelLimit) ∧
      (before.state = .idle ∨ before.state = .suspended → Stays before after)
    | .spring _ =>
      (let falls := (before.state = .idle ∧ before.driveOut = true) ∨ (drivingSide before.state).isSome = true;
        after.driveOut = before.driveOut ∧
          (falls → after.state = .suspended ∧ after.travel = .stopped ∧ (ctx.mode = .timed → after.position = .unknown)) ∧
          (¬ falls → Stays before after))

/-- SUPPLY-OK at a damper drive (R104, R105): only a SUSPENDED drive acts. Proven at its target, it is IDLE; a reversing drive whose
target lies in the remembered direction, which is the last energized one or that is NONE, runs on for the time it kept, and
otherwise enters DEAD-TIME with its mark; a spring drive starts for the full travel, or is IDLE where a stopping fault is latched
(R99, log 20). -/
def SupplyReturns (ctx : DamperCtx) (before after : DamperDrive) : Prop :=
  let proven := positionProves ctx.mode before.position before.target = true
  after.supply = .ok ∧ after.target = before.target ∧ after.history = before.history ∧ after.fault = before.fault ∧
    (before.state ≠ .suspended → Stays before after) ∧
    (before.state = .suspended → proven → after.state = .idle ∧ after.travel = .stopped ∧ OutputsFor ctx before after) ∧
    (before.state = .suspended → ¬ proven →
      match ctx.kind with
      | .reversing deadTime _ =>
        (let onward := before.remembered = some before.target ∧
            (before.lastDirection = some before.target ∨ before.lastDirection = none);
          (onward → ∀ ms, before.travel = .frozen ms → StartsToward ctx before.target ms after) ∧
            (¬ onward → WaitsDeadTime ctx deadTime before.target before.interrupted after))
      | .spring _ =>
        (stoppedByFault before = true → after.state = .idle ∧ after.travel = .stopped) ∧
          (stoppedByFault before = false → StartsToward ctx before.target ctx.travelLimit after))

/-- A damper drive as it is created and handed its REST value (R107): a controller IDLE with its outputs off, no fault, no direction,
an empty history and, for a reversing drive, off-since and restart bar at the application event or absent, acts on REST. -/
def DamperCreated (ctx : DamperCtx) (rest : Side) (supply : SupplyState) (since : Option Nat) (d : DamperDrive) : Prop :=
  ∃ new : DamperDrive, new.state = .idle ∧ OutputsOff new ∧ new.driveOut = false ∧ new.fault = none ∧ new.travel = .stopped ∧
    new.lastDirection = none ∧ new.history = [] ∧ new.unswitchedArrival = false ∧ new.supply = supply ∧
    (ctx.mode = .timed → new.position = .unknown) ∧ SwitchesShow ctx false new.position ∧
    (match ctx.kind with
     | .reversing _ _ => new.offSince = since ∧ new.restartBar = since
     | .spring _ => True) ∧
    DamperTargeted ctx rest new d

/-- A damper drive at the end of a warm restart (R108): what R108 keeps is kept, running timers stand at their full lengths, a frozen
travel is kept, the history is empty, the restart bar is this event and the fault timers are cancelled. -/
def DamperRestarted (ctx : DamperCtx) (before after : DamperDrive) : Prop :=
  after.state = before.state ∧ after.fault = before.fault ∧ after.target = before.target ∧
    after.lastDirection = before.lastDirection ∧ after.offSince = before.offSince ∧ after.pending = before.pending ∧
    after.interrupted = before.interrupted ∧ after.remembered = before.remembered ∧
    after.unswitchedArrival = before.unswitchedArrival ∧ after.supply = before.supply ∧ after.openOut = before.openOut ∧
    after.closeOut = before.closeOut ∧ after.driveOut = before.driveOut ∧
    (drivingSide before.state = none → after.position = before.position) ∧
    (∀ e, before.travel = .running e → after.travel = .running (ctx.now + ctx.travelLimit)) ∧
    (∀ ms, before.travel = .frozen ms → after.travel = .frozen ms) ∧
    (before.travel = .stopped → after.travel = .stopped) ∧ after.history = [] ∧ after.disagreeTimer = none ∧
    after.leftTimer = none ∧
    match ctx.kind with
    | .reversing deadTime _ =>
      after.restartBar = some ctx.now ∧ after.deadTimer = before.deadTimer.map (fun _ => ctx.now + deadTime) ∧
        after.coolTimer = before.coolTimer.map (fun _ => ctx.now + 60000)
    | .spring _ => True

/-- The end of a dead time or of a cooldown of a reversing drive (R90, R91, R92), the first case that holds: proven at its
target, IDLE; toward the last energized direction, or without an interruption, travel for the full limit; against it after an
interruption, a reversal, which is entered in the history or, with the history full or the restart bar young, refused into
COOLDOWN until the bar or the oldest entry is 60.0 s old. -/
def PauseEnds (ctx : DamperCtx) (limit : Nat) (interrupted : Bool) (toward : Side) (before after : DamperDrive) : Prop :=
  let young := before.history.filter (youngerThanWindow ctx.now)
  let bar := before.restartBar.filter (youngerThanWindow ctx.now)
  after.deadTimer = none ∧ after.target = before.target ∧ after.fault = before.fault ∧ OutputsFor ctx before after ∧
    if positionProves ctx.mode before.position before.target then
      after.state = .idle ∧ after.travel = .stopped ∧ after.history = before.history ∧
        after.lastDirection = before.lastDirection
    else if before.lastDirection = some toward.other ∧ interrupted = true then
      after.history = young ++ (if after.state = .cooldown then [] else [ctx.now]) ∧ after.restartBar = bar ∧
        (if bar = none ∧ young.length < limit then StartsToward ctx toward ctx.travelLimit after
         else
          after.state = .cooldown ∧ after.pending = some toward ∧ after.interrupted = true ∧
            after.coolTimer = some ((bar.getD (young.headD ctx.now)) + reversalWindow))
    else StartsToward ctx toward ctx.travelLimit after ∧ after.history = before.history

/-- What a fan's failure FAIL-START or FAIL-RUN makes of it (R116, R120): RESTART-WAIT with no fault while attempts remain,
FAILED with the failure latched otherwise; the run output off and R 0 either way. -/
def FailedOrWaiting (ctx : FanCtx) (kind : FanFault) (before after : FanDrive) : Prop :=
  after.runOut = false ∧ after.ramped = 0 ∧ after.preload = 0 ∧ after.rampTimer = none ∧ after.attempts = before.attempts ∧
    after.target = before.target ∧ after.startTimer = none ∧ after.lossTimer = none ∧
    if before.attempts < ctx.definition.restartAttempts then
      after.state = .restartWait ∧ after.fault = before.fault ∧ after.lastFailure = some kind ∧
        after.restartTimer = some (ctx.now + restartDelayTime)
    else after.state = .failed ∧ after.fault = some kind ∧ after.restartTimer = none

/-! ## What an event makes of a fan drive -/

/-- The judgement of proof at an event (R114, R115, R117, R119, R120): RUNNING at once from STARTING with the fan shown running; in
RUNNING the run-loss timer runs while the fan is shown stopped and is cancelled otherwise; STOPPED from STOPPING with the fan shown
stopped or no source; nothing in STOPPED, RESTART-WAIT and FAILED. -/
def FanJudged (ctx : FanCtx) (before after : FanDrive) : Prop :=
  match before.state with
  | .starting =>
    if ctx.evidence = .runningShown then after = { before with state := .running, startTimer := none, waiting := false }
    else after = before
  | .running =>
    after =
      { before with
        lossTimer :=
          if ctx.evidence = .stoppedShown then some (before.lossTimer.getD (ctx.now + 5000)) else none }
  | .stopping =>
    if ctx.evidence = .stoppedShown ∨ ctx.evidence = .noSource then
      after = { before with state := .stopped, stopTimer := none, waiting := false }
    else after = before
  | .stopped => after = before
  | .restartWait => after = before
  | .failed => after = before

/-- A fan starts (R113): no fault, no attempt used, the run output on with its ramp from 0 where it was off (an output that was on
goes on, log 17), and STARTING with the full start proof time, or RUNNING at once where it
is shown running. -/
def FanStarts (ctx : FanCtx) (before after : FanDrive) : Prop :=
  after.fault = none ∧ after.attempts = 0 ∧ after.lastFailure = none ∧ after.runOut = true ∧ after.stopTimer = none ∧
    after.restartTimer = none ∧ after.lossTimer = none ∧ after.waiting = false ∧
    (before.runOut = false →
      after.ramped = 0 ∧ after.preload = 0 ∧ after.rampTimer = some (ctx.now + 250)) ∧
    (before.runOut = true →
      after.ramped = before.ramped ∧ after.preload = before.preload ∧ after.rampTimer = before.rampTimer) ∧
    (ctx.evidence = .runningShown → after.state = .running ∧ after.startTimer = none) ∧
    (ctx.evidence ≠ .runningShown → after.state = .starting ∧
      after.startTimer = some (ctx.now + tenthsToMs ctx.definition.startProofTime))

/-- A fan stops (R118, R119): no fault, no attempt used, the run output off with R 0 and no ramp, and STOPPING with the full stop proof
time, or STOPPED at once where it is shown stopped or has no source. -/
def FanStops (ctx : FanCtx) (after : FanDrive) : Prop :=
  after.fault = none ∧ after.attempts = 0 ∧ after.lastFailure = none ∧ after.runOut = false ∧ after.ramped = 0 ∧
    after.preload = 0 ∧ after.rampTimer = none ∧ after.startTimer = none ∧ after.restartTimer = none ∧
    after.lossTimer = none ∧ after.waiting = false ∧
    (ctx.evidence = .stoppedShown ∨ ctx.evidence = .noSource → after.state = .stopped ∧ after.stopTimer = none) ∧
    (ctx.evidence ≠ .stoppedShown → ctx.evidence ≠ .noSource → after.state = .stopping ∧
      after.stopTimer = some (ctx.now + tenthsToMs ctx.definition.stopProofTime))

/-- The demand and the clamped speed at a target change (R123); a fixed-speed fan has none. -/
def SpeedTaken (ctx : FanCtx) (target : Command) (before after : FanDrive) : Prop :=
  match ctx.definition.speed with
  | none => after.demand = before.demand ∧ after.clamped = before.clamped
  | some sd =>
    (∀ v, target = .run v → after.demand = v ∧
      (v < sd.smin → after.clamped = sd.smin) ∧ (sd.smin ≤ v → sd.smax < v → after.clamped = sd.smax) ∧
      (sd.smin ≤ v → v ≤ sd.smax → after.clamped = v)) ∧
    ((∀ v, target ≠ .run v) → after.demand = 0 ∧ after.clamped = sd.smin)

/-- A fan drive takes a target change (R113, R117, R118, R121, R123, R128): a run/stop change starts or stops it, and a speed-only change
feeds the speed chain alone. -/
def FanTargeted (ctx : FanCtx) (target : Command) (before after : FanDrive) : Prop :=
  after.target = target ∧ SpeedTaken ctx target before after ∧
    (before.target.isRun = false → target.isRun = true → FanStarts ctx before after) ∧
    (before.target.isRun = true → target.isRun = false → FanStops ctx after) ∧
    (before.target.isRun = target.isRun →
      after = { before with target := target, demand := after.demand, clamped := after.clamped })

/-- INPUT-FAULT stands on a fan (R120): FAILED, every timer of the run controller stopped, attempts and last failure kept, the run
output on while the target is RUN, its ramp going on where it was on. -/
def FanInputFailed (before after : FanDrive) : Prop :=
  after.state = .failed ∧ after.fault = some .inputFault ∧ after.runOut = before.target.isRun ∧
    after.target = before.target ∧ after.attempts = before.attempts ∧ after.lastFailure = before.lastFailure ∧
    after.startTimer = none ∧ after.stopTimer = none ∧ after.lossTimer = none ∧ after.restartTimer = none ∧
    after.waiting = false ∧
    (before.runOut = true → before.target.isRun = true → after.ramped = before.ramped ∧ after.rampTimer = before.rampTimer) ∧
    (before.runOut = false ∨ before.target.isRun = false → after.ramped = 0 ∧ after.preload = 0) ∧
    after.rampTimer.isSome = (before.target.isRun && (!before.runOut || before.rampTimer.isSome))

/-- A new debounced state of a fan's run-proof input (R114, R117, R119, R120): a fault band latches INPUT-FAULT if no fault is latched;
a judgement that waited is made once the input is healthy; otherwise the proof is judged. -/
def FanInputTaken (ctx : FanCtx) (reading : Debounced) (before after : FanDrive) : Prop :=
  (reading.faulted = true →
    (before.fault = none → FanInputFailed before after) ∧ (before.fault.isSome = true → after = before)) ∧
  (reading.faulted = false → before.waiting = false ∨ reading = .unknown → FanJudged ctx before after) ∧
  (before.waiting = true → reading = .on ∨ reading = .off →
    (before.state = .starting → ctx.evidence = .runningShown →
      after = { before with state := .running, startTimer := none, waiting := false }) ∧
    (before.state = .starting → ctx.evidence = .stoppedShown → FailedOrWaiting ctx .failStart before after) ∧
    (before.state = .stopping → ctx.evidence = .stoppedShown →
      after = { before with state := .stopped, stopTimer := none, waiting := false }) ∧
    (before.state = .stopping → ctx.evidence = .runningShown →
      after.state = .failed ∧ after.fault = some .failStop ∧ after.runOut = false))

/-- A fan drive as it is created (R130): STOPPING with the full stop proof time, or STOPPED at once where it is shown stopped or has no
source; target OFF, no fault, no attempt, output off, D and R 0, C at Smin, preload 0. -/
def FanCreated (ctx : FanCtx) (f : FanDrive) : Prop :=
  FanStops ctx f ∧ f.target = .off ∧ f.demand = 0 ∧ (∀ sd, ctx.definition.speed = some sd → f.clamped = sd.smin) ∧
    (f.proofUnavailable = true ↔ ∃ status value, ctx.channel = some (status, value) ∧ status ≠ .valid)

/-- A fan drive at the end of a warm restart (R131): what R131 keeps is kept, running timers stand at their full lengths, the ramp timer
runs exactly while the run output is on, the run-loss timer is cancelled, and PRESSURE-PROOF-UNAVAILABLE is set exactly where the record
has a pressure channel. `noticed` says that the fan's channel hands its notice at that event (R145): a STOPPING fan that has then no
source, its record naming no run-proof input, is STOPPED (R111, R119), and every other fan keeps its run state. -/
def FanRestarted (ctx : FanCtx) (noticed : Prop) (before after : FanDrive) : Prop :=
  after.fault = before.fault ∧ after.target = before.target ∧ after.attempts = before.attempts ∧
    after.lastFailure = before.lastFailure ∧ after.runOut = before.runOut ∧ after.demand = before.demand ∧
    after.clamped = before.clamped ∧ after.ramped = before.ramped ∧ after.preload = before.preload ∧
    after.proofUnavailable = ctx.definition.pressure.isSome ∧
    after.lossTimer = none ∧ after.restartTimer = before.restartTimer.map (fun _ => ctx.now + restartDelayTime) ∧
    after.startTimer = before.startTimer.map (fun _ => ctx.now + tenthsToMs ctx.definition.startProofTime) ∧
    after.rampTimer = (if before.runOut = true then some (ctx.now + 250) else none) ∧
    (before.state = .stopping → ctx.definition.proofInput = none → noticed →
      after.state = .stopped ∧ after.stopTimer = none) ∧
    (before.state ≠ .stopping ∨ ctx.definition.proofInput ≠ none ∨ ¬ noticed →
      after.state = before.state ∧ after.waiting = before.waiting ∧
        after.stopTimer = before.stopTimer.map (fun _ => ctx.now + tenthsToMs ctx.definition.stopProofTime))

/-! ## What an operation on a list makes of a drive -/

/-- An actuator's drive takes a target: a damper drive the side it names, a fan drive the command (R29); a drive whose record gives it
nothing to act on stays. -/
def TargetTaken (s : State) (a : Fin 64) (target : Command) (before after : Drive) : Prop :=
  match before with
  | .none => after = .none
  | .damper d =>
    match s.damperCtx a, sideOf target with
    | some ctx, some side => ∃ d', after = .damper d' ∧ DamperTargeted ctx side d d'
    | _, _ => after = before
  | .fan f =>
    match s.fanCtx a with
    | some ctx => ∃ f', after = .fan f' ∧ FanTargeted ctx target f f'
    | none => after = before

/-- A drive as its record's chapter creates it (R1, R107, R130). -/
def DriveCreated (s : State) (since : Option Nat) (a : Fin 64) (d : Drive) : Prop :=
  (s.record a = .unused → d = .none) ∧
    (∀ ctx rest, s.damperCtx a = some ctx → restCommand (s.record a) = some (Side.command rest) →
      ∃ x, d = .damper x ∧ DamperCreated ctx rest s.supply.state since x) ∧
    ∀ ctx, s.fanCtx a = some ctx → ∃ f, d = .fan f ∧ FanCreated ctx f

/-- What became of an actuator's drive where its list was operated on (R21, R29, R30, R98, R122): a target that stays leaves the
drive as it is; a changed target is taken by the drive; a fault that appears or is cleared sets every change flag. -/
def DriveFollows (a : Fin 64) (s t : State) : Prop :=
  ((t.claimList a).target = (s.claimList a).target ∨ (t.claimList a).target = none → t.drive a = s.drive a) ∧
    (∀ c, (t.claimList a).target = some c → (s.claimList a).target ≠ some c → TargetTaken s a c (s.drive a) (t.drive a)) ∧
    ((t.drive a).fault ≠ (s.drive a).fault → FlagsSet t)

/-- An operation on one list with what it hands to the drive of its actuator and to the zones' maps: no other list and no other
drive, no other entry of a map, and nothing else of the state but change flags differs, and the drive takes the target by its
rules (R21, R29, R30). -/
def OnlyList (a : Fin 64) (s t : State) : Prop :=
  (∃ l d zs ps, t = { s with lists := s.lists.set a l, drives := s.drives.set a d, zones := zs, ports := ps }) ∧ SamePorts s t ∧
    DriveFollows a s t ∧
    ∀ z, ∃ m : Vector (Option MapEntry) 64, t.zone z = { s.zone z with map := m } ∧
      (∀ b, b ≠ a → m[b] = (s.zone z).map[b]) ∧ m[a].map (·.cmd) = (s.zone z).map[a].map (·.cmd)

/-- The bytes of a request command's body, as its frame carries them (R167, R168, R190). -/
def requestBody : Instr → List Byte
  | .readSummary _ page => [page]
  | .readZone _ zone part => [zone, part]
  | .readActuator _ actuator => [actuator]
  | .zoneAlarm _ zone => [zone]
  | .zoneReset _ zone => [zone]
  | .overrideSet actuator command speed => [actuator, command, (speed >>> 8).setWidth 8, speed.setWidth 8]
  | .overrideRelease actuator => [actuator]
  | .standDown option => [option]
  | .faultClear _ actuator => [actuator]
  | .normalSet actuator command speed => [actuator, command, (speed >>> 8).setWidth 8, speed.setWidth 8]
  | .normalRelease actuator => [actuator]
  | .normalGroup body => body
  | .testStart zone reason => [zone, reason]
  | .testEnd zone => [zone]
  | .configRead body => body
  | .configWrite body => body
  | .configActivateApply sector => [sector, 0x01]
  | .configActivateDiscard sector => [sector, 0x02]
  | _ => []

/-- The state and the replies that NORMAL-SETs of the pairs, one after another, leave (R35). -/
def groupRun (pairs : List GroupPair) (s : State) : State × List Reply :=
  pairs.foldl
    (fun r p =>
      ((takeNormalSet p.actuator p.code p.speed r.1).1, r.2 ++ [(takeNormalSet p.actuator p.code p.speed r.1).2]))
    (s, [])

/-- A zone record at the start of its run (R41, R44, R49): RUNNING, failed count 0, an empty map, and its stage at position 0 DUE;
suspended exactly while the supply is low. -/
def StartedZone (s : State) (z : Fin 24) (mode : ZoneMode) (sourceA sourceB held : Bool) (log : Option TestLog)
    (r : ZoneRecord) : Prop :=
  r.mode = mode ∧ r.phase = .running ∧ r.sourceA = sourceA ∧ r.sourceB = sourceB ∧ r.held = held ∧
    r.suspended = (s.supply.state == .low) ∧ r.failed = some 0 ∧ r.map = Vector.replicate 64 none ∧ r.log = log ∧
    ∃ cs, r.stage = some cs ∧ cs.position = 0 ∧ (s.sequenceOf z)[0]?.getD 0 = cs.stage ∧ cs.phase = .due ∧
      cs.outcomes = [] ∧ cs.gateExpired = false

/-! ## What an event makes of a stage and of a zone -/

/-- A timer frozen at an event keeps the time it had left, rounded up to the next whole 0.1 s; one that is not running stays (R77). -/
def TimerFrozen (now : Nat) (before after : Timer) : Prop :=
  match before with
  | .running e => ∃ n, after = .frozen (100 * n) ∧ e - now ≤ 100 * n ∧ 100 * n < e - now + 100
  | _ => after = before

/-- The three timers of a stage frozen at an event, and nothing else of it changed (R77). -/
def StageFrozen (now : Nat) (cs x : CurrentStage) : Prop :=
  x = { cs with settle := x.settle, window := x.window, gateWait := x.gateWait } ∧
    TimerFrozen now cs.settle x.settle ∧ TimerFrozen now cs.window x.window ∧ TimerFrozen now cs.gateWait x.gateWait

/-- A gate is true (R61): its channel is VALID, and the value passes the comparison. -/
def GateHolds (g : Gate) (c : Channel) : Prop :=
  c.status = .valid ∧ ∃ v, c.value = some v ∧
    match g.comparison with
    | .ge => g.value ≤ v
    | .lt => v < g.value
    | .within => g.value - g.tolerance ≤ v ∧ v ≤ g.value + g.tolerance
    | .outside => v < g.value - g.tolerance ∨ g.value + g.tolerance < v

/-- A stage as its issue leaves it, before its outcomes are judged (R62, R65): the GATE-EXPIRED mark as given, one outcome per command,
the proof window running from this event, and SETTLING with the settle timer running, or PROVING with a settle time of 0. -/
def IssuedStage (now : Nat) (sd : StageDef) (cs : CurrentStage) (mark : Bool) (x : CurrentStage) : Prop :=
  x.position = cs.position ∧ x.stage = cs.stage ∧ x.gateExpired = mark ∧ x.gateWait = .stopped ∧
    x.outcomes = List.replicate sd.commands.length .pending ∧ x.window = .running (now + tenthsToMs sd.proofWindow) ∧
    (sd.settleTime = 0 → x.phase = .proving ∧ x.settle = .stopped) ∧
    (sd.settleTime ≠ 0 → x.phase = .settling ∧ x.settle = .running (now + tenthsToMs sd.settleTime))

/-- Every command of a stage whose commands name distinct actuators stands in a zone's map (R51, R65). -/
def CommandsPlaced (sd : StageDef) (r : ZoneRecord) : Prop :=
  (sd.commands.map (·.actuator)).Nodup → ∀ c ∈ sd.commands, ∃ e, r.map[c.actuator] = some e ∧ e.cmd = c.cmd

/-- A zone's stage is issued, and nothing else but the lists, drives and entries of its commands' actuators differs (R65). -/
def StageIssued (s t : State) (z : Fin 24) (cs : CurrentStage) (mark : Bool) : Prop :=
  (∃ x, (t.zone z).stage = some x ∧ IssuedStage s.now (s.stageOf cs) cs mark x) ∧
    CommandsPlaced (s.stageOf cs) (t.zone z) ∧
    (∀ a, (∀ c ∈ (s.stageOf cs).commands, c.actuator ≠ a) →
      t.claimList a = s.claimList a ∧ t.drive a = s.drive a ∧ (t.zone z).map[a] = (s.zone z).map[a]) ∧
    (t.zone z).phase = (s.zone z).phase ∧ (t.zone z).failed = (s.zone z).failed ∧
    (∃ ls ds zs ps, t = { s with lists := ls, drives := ds, zones := zs, ports := ps }) ∧ SamePorts s t ∧
    ∀ y, y ≠ z → (t.zone y).stage = (s.zone y).stage ∧ (t.zone y).phase = (s.zone y).phase ∧
      (t.zone y).held = (s.zone y).held

/-- A stage is FINISHED with outcomes, and its zone proceeds (R55, R70 to R73): the entry of a running TEST's stage log is written; a FAILED
outcome under STOP makes the zone STOPPED, the last position COMPLETE, each with every change flag set; otherwise the next stage is
DUE. Nothing but the zone's record and those flags differs. -/
def StageEnded (s t : State) (z : Fin 24) (cs : CurrentStage) (outcomes : List CommandOutcome) (failed : Option Nat) : Prop :=
  let stops := CommandOutcome.failed ∈ outcomes ∧ (s.stageOf cs).policy = .stop
  let last := (s.sequenceOf z).length ≤ cs.position + 1
  let ended : CurrentStage :=
    { cs with phase := .finished, outcomes := outcomes, settle := .stopped, window := .stopped, gateWait := .stopped }
  ∃ r : ZoneRecord, (stops ∨ last → t = (s.setZone z r).raiseFlags) ∧ (¬ stops → ¬ last → t = s.setZone z r) ∧
    r =
      { s.zone z with
        failed := failed
        phase := r.phase
        stage := r.stage
        log := (s.zone z).log.map (fun l =>
          { l with
            entries := l.entries.set cs.position
              { stage := cs.stage, state := .finished, gateExpired := cs.gateExpired,
                outcomes := ((s.stageOf cs).commands.map (·.actuator)).zip outcomes } }) } ∧
    (stops → r.phase = .stopped ∧ r.stage = some ended) ∧
    (¬ stops → last → r.phase = .complete ∧ r.stage = some ended) ∧
    (¬ stops → ¬ last → r.phase = (s.zone z).phase ∧
      ∃ next, r.stage = some next ∧ next.position = cs.position + 1 ∧ next.phase = .due ∧ next.outcomes = [] ∧
        next.gateExpired = false ∧ (s.sequenceOf z)[cs.position + 1]? = some next.stage)

/-- A zone's stage brought forward as the last of its flags clears (R77, R78): DUE and FINISHED stay; a GATED stage is issued if its gate
holds, or with the mark if its wait had no time left, and otherwise waits on; a SETTLING stage runs on, and is PROVING if its settle
timer had no time left; a PROVING stage runs on, and with a PENDING outcome and no time left in its window it ends, those outcomes
FAILED. A timer that had been frozen runs from the time it kept. -/
def BroughtForward (s : State) (z : Fin 24) (cs : CurrentStage) (r : ZoneRecord) : Prop :=
  let runsOn : CurrentStage :=
    { cs with
      settle := thawTimer s.now cs.settle
      window := thawTimer s.now cs.window
      gateWait := thawTimer s.now cs.gateWait }
  let issued (mark : Bool) : Prop :=
    (∃ x, r.stage = some x ∧ IssuedStage s.now (s.stageOf cs) cs mark x) ∧ CommandsPlaced (s.stageOf cs) r
  match cs.phase with
  | .due => r.stage = some cs ∧ r.phase = (s.zone z).phase
  | .finished => r.stage = some cs ∧ r.phase = (s.zone z).phase
  | .gated =>
    ∀ g, (s.stageOf cs).gate = some g →
      (GateHolds g (s.channel g.channel) → issued false) ∧
      (¬ GateHolds g (s.channel g.channel) → cs.gateWait = .frozen 0 → issued true) ∧
      (¬ GateHolds g (s.channel g.channel) → cs.gateWait ≠ .frozen 0 → r.stage = some runsOn)
  | .settling =>
    (cs.settle = .frozen 0 → r.stage = some { runsOn with phase := .proving, settle := .stopped }) ∧
      (cs.settle ≠ .frozen 0 → r.stage = some runsOn)
  | .proving =>
    (let expires := CommandOutcome.pending ∈ cs.outcomes ∧ cs.window = .frozen 0
      let stops := (CommandOutcome.failed ∈ cs.outcomes ∨ CommandOutcome.pending ∈ cs.outcomes) ∧ (s.stageOf cs).policy = .stop
      let last := (s.sequenceOf z).length ≤ cs.position + 1;
      (¬ expires → r.stage = some runsOn) ∧
        (expires → stops → r.phase = .stopped) ∧ (expires → ¬ stops → last → r.phase = .complete) ∧
        (expires → ¬ stops → ¬ last →
          ∃ next, r.stage = some next ∧ next.position = cs.position + 1 ∧ next.phase = .due) ∧
        (expires → r.failed = (s.zone z).failed.map (fun n => n + cs.outcomes.count .pending)))

/-- A release of stand-down (R77, R78, R159): OFF, no option, no zone held; each zone that was held and is not suspended is brought
forward, the stage of every other zone stays, and the rest of the part, lists and drives of the zones' actuators apart, stays. -/
def StandDownReleased (s t : State) : Prop :=
  t.standDown = false ∧ t.standDownOption = none ∧ FlagsSet t ∧ (∀ z, (t.zone z).held = false) ∧
    (∀ z cs, (s.zone z).held = true → (s.zone z).suspended = false → (s.zone z).stage = some cs →
      BroughtForward s z cs (t.zone z)) ∧
    (∀ z, (s.zone z).held = false ∨ (s.zone z).suspended = true →
      (t.zone z).stage = (s.zone z).stage ∧ (t.zone z).phase = (s.zone z).phase) ∧
    (∀ z, (t.zone z).mode = (s.zone z).mode ∧ (t.zone z).suspended = (s.zone z).suspended) ∧
    (∀ a, (∀ z cs, (s.zone z).held = true → (s.zone z).suspended = false → (s.zone z).stage = some cs →
        cs.phase = .gated → ∀ c ∈ (s.stageOf cs).commands, c.actuator ≠ a) →
      t.claimList a = s.claimList a ∧ t.drive a = s.drive a) ∧
    ∃ ls ds zs ps, t = { s with
      lists := ls, drives := ds, zones := zs, ports := ps, standDown := false, standDownOption := none }

/-- The re-entry of a RUNNING zone's stage at the end of a warm restart (R83): DUE stays; GATED returns to DUE with its mark cleared;
SETTLING and PROVING are SETTLING again with both timers at full length, frozen at once while the zone is held or suspended, and a
settle time of 0 leaves the stage PROVING. -/
def StageReentered (s : State) (r : ZoneRecord) (cs x : CurrentStage) : Prop :=
  let full (tenths : Nat) (timer : Timer) : Prop :=
    timer = if r.held = true ∨ r.suspended = true then .frozen (tenthsToMs tenths) else .running (s.now + tenthsToMs tenths)
  match cs.phase with
  | .due => x = cs
  | .finished => x = cs
  | .gated => x = { cs with phase := .due, gateWait := .stopped, gateExpired := false }
  | _ =>
    x = { cs with phase := x.phase, settle := x.settle, window := x.window } ∧
      full (s.stageOf cs).proofWindow x.window ∧
      ((s.stageOf cs).settleTime = 0 → x.phase = .proving ∧ x.settle = .stopped) ∧
      ((s.stageOf cs).settleTime ≠ 0 → x.phase = .settling ∧ full (s.stageOf cs).settleTime x.settle)

/-- A record names an input as the switch of a side (R7). -/
def NamesSwitch (record : ActuatorDef) (side : Side) (i : Fin 128) : Prop :=
  let names (openSwitch closedSwitch : Option InputRef) : Prop :=
    match side with
    | .openSide => openSwitch.map (·.input) = some i
    | .closedSide => closedSwitch.map (·.input) = some i
  match record with
  | .reversing r => names r.openSwitch r.closedSwitch
  | .spring r => names r.openSwitch r.closedSwitch
  | _ => False

/-- A channel judged from its window under its scaling, the first case of R142 that holds; a held value stays (R139, R142). -/
def ChannelJudged (scaling : Option Scaling) (old new : Channel) : Prop :=
  new.window = old.window ∧
    (scaling = none → new.status = .unused ∧ new.value = none ∧ new.lastValid = old.lastValid) ∧
    ∀ sc, scaling = some sc →
      (new.window.length < 4 → new.status = .unknown ∧ new.value = none ∧ new.lastValid = old.lastValid) ∧
      (new.window.length = 4 →
        let avg := new.window.sum / 4
        let low := min sc.elo sc.ehi
        let high := max sc.elo sc.ehi;
        (avg + 20 < sc.clo → new.status = .underRange ∧ new.value = old.lastValid ∧ new.lastValid = old.lastValid) ∧
        (sc.clo ≤ avg + 20 → sc.chi + 20 < avg →
          new.status = .overRange ∧ new.value = old.lastValid ∧ new.lastValid = old.lastValid) ∧
        (sc.clo ≤ avg + 20 → avg ≤ sc.chi + 20 →
          new.status = .valid ∧ new.lastValid = new.value ∧ new.value = some (max low (min high (rawValue sc avg)))))

/-- The stage entries of a test record at the end of its run (R55): the entry of a current stage that is not FINISHED is INTERRUPTED with
its outcomes as they stand and its mark (log 33), and every other entry is as the stage log holds it. -/
def EntriesAtEnd (s : State) (r : ZoneRecord) (log : TestLog) (entries : List LogEntry) : Prop :=
  (∀ cs, r.stage = some cs → cs.phase ≠ .finished →
    entries = log.entries.set cs.position
      { stage := cs.stage, state := .interrupted, gateExpired := cs.gateExpired,
        outcomes := ((s.stageOf cs).commands.map (·.actuator)).zip cs.outcomes }) ∧
    ((∀ cs, r.stage = some cs → cs.phase = .finished) → entries = log.entries)

/-! ## What a passing validation establishes (R10, R140, R184) -/

/-- The switches of a damper record: present exactly where its proof mode names them, each with F 1..15 (R7). -/
def SwitchesPassed (mode : ProofMode) (openSwitch closedSwitch : Option InputRef) : Prop :=
  (openSwitch.isSome = true ↔ mode = .bothSwitches ∨ mode = .openSwitch) ∧
    (closedSwitch.isSome = true ↔ mode = .bothSwitches ∨ mode = .closedSwitch) ∧
    (∀ x, openSwitch = some x → 1 ≤ x.count ∧ x.count ≤ 15) ∧ ∀ x, closedSwitch = some x → 1 ≤ x.count ∧ x.count ≤ 15

/-- An actuator record of an image has every field within its range, its limits ordered and its pressure channel scaled (R3 to R7, R10). -/
def RecordPassed (p : PlantImage) : ActuatorDef → Prop
  | .unused => True
  | .fan d =>
    (∀ sd, d.speed = some sd → sd.smin ≤ sd.smax ∧ sd.smax ≤ 1000 ∧ 1 ≤ sd.rate ∧ sd.rate ≤ 250) ∧
      (∀ x, d.proofInput = some x → 1 ≤ x.count ∧ x.count ≤ 15) ∧
      (∀ x, d.pressure = some x → x.threshold ≤ 2000 ∧ (p.scalings[x.channel]).isSome = true) ∧
      50 ≤ d.startProofTime ∧ d.startProofTime ≤ 1200 ∧ 50 ≤ d.stopProofTime ∧ d.stopProofTime ≤ 3000 ∧
      d.restartAttempts ≤ 3
  | .reversing d =>
    SwitchesPassed d.mode d.openSwitch d.closedSwitch ∧ d.openOutput ≠ d.closeOutput ∧ 50 ≤ d.travelLimit ∧
      d.travelLimit ≤ 2400 ∧ 2 ≤ d.deadTime ∧ d.deadTime ≤ 50 ∧ 1 ≤ d.reversalLimit ∧ d.reversalLimit ≤ 8
  | .spring d => SwitchesPassed d.mode d.openSwitch d.closedSwitch ∧ 50 ≤ d.travelLimit ∧ d.travelLimit ≤ 2400

/-- The relay outputs that a record names (R9). -/
def relaysOf : ActuatorDef → List (Fin 96)
  | .unused => []
  | .fan d => [d.runOutput]
  | .reversing d => [d.openOutput, d.closeOutput]
  | .spring d => [d.driveOutput]

/-- The speed outputs that a record names (R9). -/
def speedsOf : ActuatorDef → List (Fin 16)
  | .fan d => (d.speed.map (·.output)).toList
  | _ => []

/-- A PLANT image that has passed against the reference SEQUENCES image: every record and every scaling in its ranges, no terminal
named twice, and every stage's commands on actuators of their kind (R10, R140, R184). -/
def PlantPassed (p : PlantImage) (q : SequenceImage) : Prop :=
  (∀ a : Fin 64, RecordPassed p p.acts[a]) ∧
    ((List.finRange 64).flatMap (fun a => relaysOf p.acts[a])).Nodup ∧
    ((List.finRange 64).flatMap (fun a => speedsOf p.acts[a])).Nodup ∧
    ((List.finRange 64).flatMap (fun a => (namedInputs p.acts[a]).map (·.input))).Nodup ∧
    (∀ (c : Fin 16) (x : Scaling), p.scalings[c] = some x → x.clo < x.chi ∧ x.chi ≤ 1023 ∧ -2000 ≤ x.elo ∧ x.elo ≤ 2000 ∧
      -2000 ≤ x.ehi ∧ x.ehi ≤ 2000) ∧
    ∀ (n : Fin 256) (d : StageDef), q.stages[n] = some d → ∀ c ∈ d.commands, kindMatches p.acts[c.actuator] c.cmd = true

/-- A stage record that has passed against the reference PLANT image (R60, R61, R184). -/
def StagePassed (p : PlantImage) (d : StageDef) : Prop :=
  1 ≤ d.commands.length ∧ d.commands.length ≤ 12 ∧ (d.commands.map (·.actuator)).Nodup ∧
    (∀ c ∈ d.commands, kindMatches p.acts[c.actuator] c.cmd = true ∧ ∀ v, c.cmd = .run v → v ≤ 1000) ∧
    d.settleTime ≤ 1200 ∧ 100 ≤ d.proofWindow ∧ d.proofWindow ≤ 6000 ∧ d.settleTime < d.proofWindow ∧
    ∀ g, d.gate = some g → -2000 ≤ g.value ∧ g.value ≤ 2000 ∧ g.tolerance ≤ 500 ∧
      (g.mode = .waitUntil → 10 ≤ g.wait ∧ g.wait ≤ 6000)

/-- A SEQUENCES image that has passed against the reference PLANT image: each zone with a panel and 1 to 16 configured stages, none
twice, and every stage record passed (R40, R184). -/
def SequencesPassed (q : SequenceImage) (p : PlantImage) : Prop :=
  (∀ (z : Fin 24) (d : ZoneDef), q.zones[z] = some d → (d.panelA = true ∨ d.panelB = true) ∧ 1 ≤ d.sequence.length ∧
    d.sequence.length ≤ 16 ∧ d.sequence.Nodup ∧ ∀ n ∈ d.sequence, (q.stages[n]).isSome = true) ∧
  ∀ (n : Fin 256) (d : StageDef), q.stages[n] = some d → StagePassed p d

/-- What a passing validation of an image against the reference image of the other sector establishes (R10, R140, R184). -/
def ImagePassed (sec : Sector) (img ref : Image) : Prop :=
  match sec with
  | .identity => ∀ l, l.supervised = true → 20 ≤ supervisionTimeOf img l ∧ supervisionTimeOf img l ≤ 600
  | .plant => PlantPassed (plantOf img) (sequencesOf ref)
  | .sequences => SequencesPassed (sequencesOf img) (plantOf ref)

/-- Two images of a sector lay out the same definitions. -/
def SameDefinitions (sec : Sector) (x y : Image) : Prop :=
  match sec with
  | .identity => siteCodeOf x = siteCodeOf y ∧ ∀ l, supervisionTimeOf x l = supervisionTimeOf y l
  | .plant => plantOf x = plantOf y
  | .sequences => sequencesOf x = sequencesOf y

/-! ## CONFIG-FAULT -/

/-- The definitions in CONFIG-FAULT follow the two marks: the stored image under a VALID mark, nothing configured under an INVALID one;
the lists are empty and the channels are judged by the scalings, and the filter counts and the drives stay (R13, R58, R82, R134). -/
def FollowsMarks (s t : State) : Prop :=
  (t.store.plant.valid = true → t.plant = plantOf t.store.plant.stored) ∧
    (t.store.plant.valid = false → t.plant = State.reset.plant) ∧
    (t.store.sequences.valid = true → t.sequences = sequencesOf t.store.sequences.stored) ∧
    (t.store.sequences.valid = false → t.sequences = State.reset.sequences) ∧
    (∀ a, (t.claimList a).claims = [] ∧ (t.claimList a).target = restCommand (t.record a)) ∧
    (∀ c, ChannelJudged t.plant.scalings[c] (s.channel c) (t.channel c)) ∧
    ∃ p q ls cs st, t = { s with store := st, plant := p, sequences := q, lists := ls, channels := cs }

/-! ## What a re-offer, an application and a read make of the part -/

/-- The SHED claims of active zones on an actuator, oldest zone first (R27). -/
def shedClaims (s : State) (a : Fin 64) : List Claim :=
  s.activation.filterMap (fun z =>
    match (s.zone z).map[a] with
    | some e => if e.status = .shed then some ⟨zoneSource (s.zone z) z, e.cmd⟩ else none
    | none => none)

/-- The lists and counts of a PLANT image that is in force (R39, R134, R187). -/
def PlantInForce (p : PlantImage) (t : State) : Prop :=
  t.plant = p ∧ (∀ i, t.filterCount i = p.filterCount i) ∧
    ∀ a, (t.claimList a).claims = [] ∧ (t.claimList a).target = restCommand (t.record a) ∧
      (t.claimList a).normalShed = false

/-- A PENDING image is applied where an event leaves no zone active and no override standing, and otherwise waits (R42, R155, R187). -/
def PendingApplied (s t : State) : Prop :=
  (t.activation = [] → t.overrides = 0 →
    (s.store.plant.activation = .pending →
      t.store.plant = { s.store.plant with activation := .none } ∧ PlantInForce (plantOf s.store.plant.stored) t ∧ FlagsSet t) ∧
    (s.store.plant.activation ≠ .pending → t.store.plant = s.store.plant ∧ t.plant = s.plant) ∧
    (s.store.sequences.activation = .pending →
      t.store.sequences = { s.store.sequences with activation := .none } ∧
        t.sequences = sequencesOf s.store.sequences.stored ∧ FlagsSet t) ∧
    (s.store.sequences.activation ≠ .pending →
      t.store.sequences = s.store.sequences ∧ t.sequences = s.sequences)) ∧
  (t.activation ≠ [] ∨ t.overrides ≠ 0 → t.store = s.store ∧ t.plant = s.plant ∧ t.sequences = s.sequences)

/-- A sector's image in force is the same in two states. -/
def SameInForce (sec : Sector) (s t : State) : Prop :=
  match sec with
  | .identity => t.siteCode = s.siteCode
  | .plant => t.plant = s.plant
  | .sequences => t.sequences = s.sequences

/-- A time in milliseconds shown in tenths of a second, rounded one way or the other (R81, R106, R129, log 6). -/
def ShownTenths (ms shown : Nat) : Prop := shown = ms / 100 ∨ shown = (ms + 99) / 100

/-- The remaining time of a stage timer as it is shown (R81). -/
def ShowsTimer (now : Nat) (timer : Timer) (shown : Option Nat) : Prop :=
  match timer with
  | .stopped => shown = none
  | .running e => ∃ n, shown = some n ∧ ShownTenths (e - now) n
  | .frozen ms => ∃ n, shown = some n ∧ ShownTenths ms n

/-- The running timer of a damper as it is shown (R106). -/
def ShowsDamperTimer (now : Nat) (d : DamperDrive) (shown : DamperTimerView) : Prop :=
  match d.travel, d.deadTimer, d.coolTimer with
  | .running e, _, _ => ∃ n, shown = .travel n ∧ ShownTenths (e - now) n
  | .frozen ms, _, _ => ∃ n, shown = .frozenTravel n ∧ ShownTenths ms n
  | .stopped, some e, _ => ∃ n, shown = .deadTime n ∧ ShownTenths (e - now) n
  | .stopped, none, some e => ∃ n, shown = .cooldown n ∧ ShownTenths (e - now) n
  | .stopped, none, none => shown = .none

/-- The running timer of a fan as it is shown, a waiting judgement as WAITING (R129). -/
def ShowsFanTimer (now : Nat) (f : FanDrive) (shown : FanTimerView) : Prop :=
  (f.waiting = true → shown = .waiting) ∧
    (f.waiting = false →
      match f.startTimer, f.stopTimer, f.lossTimer, f.restartTimer with
      | some e, _, _, _ => ∃ n, shown = .startProof n ∧ ShownTenths (e - now) n
      | none, some e, _, _ => ∃ n, shown = .stopProof n ∧ ShownTenths (e - now) n
      | none, none, some e, _ => ∃ n, shown = .runLoss n ∧ ShownTenths (e - now) n
      | none, none, none, some e => ∃ n, shown = .restartDelay n ∧ ShownTenths (e - now) n
      | none, none, none, none => shown = .none)

/-- The items of a target in an answer: the code of its command, and a RUN's speed in two bytes; what stands for the speed of another
command is not coded (R168, log 4). -/
def CarriesTarget (target : Option Command) (items : List Byte) : Prop :=
  match target with
  | none => True
  | some .openPos => ∃ free, items = 0x01 :: free
  | some .closedPos => ∃ free, items = 0x02 :: free
  | some .off => ∃ free, items = 0x03 :: free
  | some (.run v) => items = [0x04, BitVec.ofNat 8 (v / 256), BitVec.ofNat 8 v]

/-- The frame of an answer on a line (R164, R168, R169, R190): start byte, role code, body length, kind, result code, items, and the CRC
over the bytes from the role code on, high byte first. A bare result has no item; a refused group has the index of its pair, an
OVERRIDE-RELEASE of ALL its number, a CONFIG-READ the bytes asked for at its end, a CONFIG-WRITE its sector, offset and length, an APPLY
its sector, a failed validation its item number in two bytes and its reason's code; a target stands last, and so does the number of
attempts used in a FAULT-CLEAR's fan part; every other body has the bytes
of its coded items in their order. The items that the manual gives no codes are free bytes (log 4). -/
def FrameCarries (line : Line) (a : Answer) (bytes : List Byte) : Prop :=
  ∃ (len code : Byte) (items : List Byte),
    (let covered : List Byte := line.roleCode :: len :: a.kind :: code :: items
      let check : List Byte := [(crc covered >>> 8).setWidth 8, (crc covered).setWidth 8]
      bytes = startByte :: (covered ++ check)) ∧
    len.toNat = items.length + 1 ∧ items.length ≤ 119 ∧
    (code = match a.result with
      | .done => 0x00
      | .noChange => 0x01
      | .refusedRole => 0x10
      | .refusedRange => 0x11
      | .refusedForm => 0x12
      | .refusedState => 0x13
      | .refusedKey => 0x14
      | .busy => 0x15
      | .refusedConfig => 0x16) ∧
    match a.body with
    | .plain => items = []
    | .target target => CarriesTarget target items
    | .normalSet _ target => ∃ free x, items = free ++ x ∧ CarriesTarget target x
    | .overrideSet _ _ target => ∃ free x, items = free ++ x ∧ CarriesTarget target x
    | .standDown _ option held =>
      ∃ free x, items = free ++ (x ++ [BitVec.ofNat 8 held]) ∧
        (option = some .resumeOnly → x = [0x01]) ∧ (option = some .resumeOnNewAlarm → x = [0x02])
    | .fanPart _ _ attempts => ∃ free, items = free ++ [BitVec.ofNat 8 attempts]
    | .configRead _ _ bytes => bytes.length ≤ 119 → ∃ free, items = free ++ bytes
    | .writing sec =>
      ∃ free, items = (match sec with | .identity => 0x01 | .plant => 0x02 | .sequences => 0x03) :: free
    | .failingPair i => items = [BitVec.ofNat 8 i]
    | .released n => items = [BitVec.ofNat 8 n]
    | .configWrite sec offset length =>
      items = [(match sec with | .identity => 0x01 | .plant => 0x02 | .sequences => 0x03),
        BitVec.ofNat 8 (offset / 256), BitVec.ofNat 8 offset, BitVec.ofNat 8 length]
    | .invalid item reason =>
      items = [BitVec.ofNat 8 (item / 256), BitVec.ofNat 8 item,
        match reason with
        | .range => 0x01
        | .missingField => 0x02
        | .speedLimits => 0x03
        | .terminalTwice => 0x04
        | .channelUnscaled => 0x05
        | .stageUnused => 0x06
        | .stageTwice => 0x07
        | .settleWindow => 0x08
        | .actuatorUnused => 0x09
        | .commandKind => 0x0A
        | .actuatorTwice => 0x0B
        | .sequenceMismatch => 0x0C]
    | body => (codedBytes body).length ≤ 119 → (codedBytes body).Sublist items

/-! ## The check of kept state (R14) -/

/-- A claim list passes the check (R38). -/
def ListRetained (s : State) (a : Fin 64) : Prop :=
  let l := s.claimList a
  (s.record a = .unused → l.claims = []) ∧
    (s.record a ≠ .unused →
      l.claims.length ≤ 6 ∧ (l.claims.map (·.src)).Nodup ∧ (∀ c ∈ l.claims, kindMatches (s.record a) c.cmd = true) ∧
        (∀ c ∈ l.claims, ClaimActive s c) ∧
        l.claims.Pairwise (fun c x => outranks s.activation c x = true) ∧
        l.target = deriveTarget (restCommand (s.record a)) l.claims)

/-- The zones and the Activation List pass the check (R59). -/
def ZonesRetained (s : State) : Prop :=
  s.activation.Nodup ∧ s.activation.length ≤ 24 ∧ (∀ z, z ∈ s.activation ↔ (s.zone z).mode ≠ .none) ∧
    (∀ z y, (s.zone z).mode = .test → (s.zone y).mode ≠ .none → y = z) ∧
    ∀ z, ((s.zone z).mode = .fire ↔ (s.zone z).sourceA = true ∨ (s.zone z).sourceB = true) ∧
      ((s.zone z).sourceA = true → ∃ d, s.zoneDef z = some d ∧ d.panelA = true) ∧
      ((s.zone z).sourceB = true → ∃ d, s.zoneDef z = some d ∧ d.panelB = true) ∧
      ((s.zone z).mode ≠ .none → (s.zoneDef z).isSome = true ∧
        ∀ cs, (s.zone z).stage = some cs → cs.position < (s.sequenceOf z).length) ∧
      ∀ a, EntryAgrees s z a

/-- A zone's current stage passes the check (R84); a zone with an instance is RUNNING, STOPPED or COMPLETE. -/
def StageRetained (s : State) (z : Fin 24) : Prop :=
  let r := s.zone z
  (r.mode = .none ↔ r.stage = none) ∧
    ∀ cs, r.stage = some cs →
      (s.sequenceOf z)[cs.position]? = some cs.stage ∧ (s.stageDef cs.stage).isSome = true ∧ r.phase ≠ .normal ∧
        (r.phase = .running ↔ cs.phase ≠ .finished) ∧
        (r.phase = .complete → (s.sequenceOf z).length ≤ cs.position + 1) ∧
        (cs.phase = .due ∨ cs.phase = .gated → cs.outcomes = []) ∧
        (cs.phase ≠ .due → cs.phase ≠ .gated → cs.outcomes.length = (s.stageOf cs).commands.length) ∧
        (cs.phase ≠ .finished → CommandOutcome.skipped ∉ cs.outcomes) ∧
        (CommandOutcome.skipped ∈ cs.outcomes → ∀ o ∈ cs.outcomes, o = .skipped) ∧
        (r.phase = .stopped → CommandOutcome.failed ∈ cs.outcomes ∧ (s.stageOf cs).policy = .stop) ∧
        cs.outcomes.count .failed ≤ r.failed.getD 0 ∧
        (cs.phase = .settling ∨ cs.phase = .proving →
          ∀ c ∈ (s.stageOf cs).commands, ∃ e, r.map[c.actuator] = some e ∧ e.cmd = c.cmd)

/-- A drive passes the check (R86, R93, R108, R110, R131). -/
def DriveRetained (s : State) (a : Fin 64) : Prop :=
  match s.drive a, s.record a with
  | .none, _ => True
  | .damper d, .reversing r =>
    ¬ (d.openOut = true ∧ d.closeOut = true) ∧ (d.openOut = true → d.state = .drivingOpen) ∧
      (d.closeOut = true → d.state = .drivingClose) ∧
      (d.history.filter (fun t => decide (s.now - t < 60000))).length ≤ r.reversalLimit
  | .damper d, .spring r =>
    (d.driveOut = true ↔ d.target ≠ r.failPosition) ∧ d.state ≠ .deadTime ∧ d.state ≠ .cooldown
  | .fan f, .fan r =>
    (f.runOut = true ↔
      f.state = .starting ∨ f.state = .running ∨
        (f.state = .failed ∧ f.fault = some .inputFault ∧ f.target.isRun = true)) ∧
      (f.state = .failed ↔ f.fault.isSome = true) ∧ f.attempts ≤ r.restartAttempts ∧
      (f.lastFailure.isSome = true → f.state = .restartWait) ∧
      ∀ sd, r.speed = some sd → sd.smin ≤ f.clamped ∧ f.clamped ≤ sd.smax ∧ f.ramped ≤ sd.smax ∧
        (f.runOut = false → f.ramped = 0) ∧ f.preload ≤ 1023
  | _, _ => False

/-- The overrides and stand-down pass the check (R162). -/
def OverridesRetained (s : State) : Prop :=
  s.overrides = overrideLists s ∧ (s.standDown = true ↔ s.standDownOption.isSome = true) ∧
    ∀ z, (s.zone z).held = true →
      s.standDown = true ∧ (s.zone z).mode = .fire ∧ (s.zone z).phase ≠ .stopped ∧ (s.zone z).phase ≠ .complete

/-- The kept state passes every check that opens a warm restart (R14, R38, R59, R84, R108, R131, R162). -/
def Retained (s : State) : Prop :=
  (∀ a, ListRetained s a) ∧ ZonesRetained s ∧ (∀ z, StageRetained s z) ∧ (∀ a, DriveRetained s a) ∧ OverridesRetained s

/-- A part after a cold start on its stored images (R12, R16, R37, R58, R137, R145, R149, R162, R175, R177, R181). -/
def StartedCold (cause : StartCause) (s t : State) : Prop :=
  t.power = .running ∧ t.start = { kind := .cold, cause := cause } ∧ t.pending = s.pending ∧
    (∀ a, (t.claimList a).claims = [] ∧ (t.claimList a).target = restCommand (t.record a) ∧
      (t.claimList a).normalShed = false) ∧
    (∀ z, t.zone z = zoneAtRest) ∧ t.activation = [] ∧ t.overrides = 0 ∧ t.standDown = false ∧ t.standDownOption = none ∧
    (∀ i : Fin 128, t.inputs[i] = inputAtReset) ∧ (∀ i, t.filterCount i = t.plant.filterCount i) ∧ t.key = inputAtReset ∧
    t.supply.state = .ok ∧ t.supply.count = 0 ∧ t.scan = 0 ∧
    (∀ c, (t.channel c).window = [] ∧ (t.channel c).lastValid = none) ∧ (∀ o : Fin 16, t.applied[o] = 0) ∧
    (∀ l, (t.port l).line = .silent ∧ (t.port l).reception = .hunting ∧ (t.port l).supervisionTimer = none ∧
      (t.port l).changeFlag = true) ∧
    (∀ sec, (t.store.sector sec).valid = (s.store.sector sec).valid ∧ (t.store.sector sec).activation = .none ∧
      (t.store.sector sec).staging = none) ∧
    t.configFault = !(s.store.plant.valid && s.store.sequences.valid) ∧ (t.configFault = true → ∀ a, t.drive a = .none) ∧
    (t.configFault = false → ∀ a, DriveCreated t none a (t.drive a))

end Sys2Proof.Machine
end

