-- ==== Sys2Proof/WellFormed.lean ====
section
/-!
DEFINITION. When a command is well formed: what the lines of the part can deliver at all. A request comes on a line
that may send its kind (R167), a body fits a frame (R164), a frame is complete (R164, R165), only a supervised
line has a supervision timer (R173). Everything else a body may hold is judged by the owning rules, not here.
-/

namespace Sys2Proof

/-- The checks on a command's operands. -/
def Instr.wellFormed (i : Instr) : Bool :=
  (match i.request with
   | some (l, k) => lineMaySend l k
   | none => true) &&
  (match i with
   | .normalGroup body => decide (body.length ≤ maxBodyBytes)
   | .configRead body => decide (body.length ≤ maxBodyBytes)
   | .configWrite body => decide (body.length ≤ maxBodyBytes)
   | .frameReceived _ frame => completeFrame frame
   | .supervisionTimerExpiry l => l.supervised
   | _ => true)

end Sys2Proof
end

