-- ==== Sys2Proof/Certificates/Slice0/Obligations.lean ====
section
/-!
DEFINITION. The statements for the provers: each is a `def Obligations.<Name> : Prop`. They speak of the part's commands through
`exec` and `step`, of answers through `deliver`, and of the Sequence Engine through `settled`.
-/

open Sys2Proof Sys2Proof.Machine

/-! ## The machine -/

/-- A step takes the command at the front of the queue: it is `exec` of that command on the state with the queue's rest. On an empty
queue a step lets one millisecond pass and changes nothing else, which is the model's choice (log 1). -/
def Obligations.StepTakesTheFrontCommand : Prop :=
  ∀ s : State,
    (∀ (c : Instr) (rest : List Instr), s.pending = c :: rest → step s = exec c { s with pending := rest }) ∧
    (s.pending = [] → step s = .next { s with now := s.now + 1 })

/-- Every command answers a next state from every state, leaves the queue as it was and never sets the clock back: the
manual gives every command an effect or an answer, so none faults and none is refused. The queue and the clock are the
model's own (log 1, log 3). -/
def Obligations.EveryCommandAnswersNext : Prop :=
  ∀ (c : Instr) (s : State), ∃ t, exec c s = .next t ∧ t.pending = s.pending ∧ s.now ≤ t.now

/-- While the part is unpowered, about to restart or restarting, it takes nothing but the commands of power and restart (R12,
R14). The model's own choices in it: log 7. -/
def Obligations.NothingIsTakenWhileNotRunning : Prop :=
  ∀ (c : Instr) (s : State), s.power ≠ .running →
    c ≠ .coldStart → c ≠ .powerLoss → (∀ cause, c ≠ .warmRestartStart cause) → c ≠ .supervisor → c ≠ .warmRestartEnd →
      exec c s = .next s

/-- The reset state is a cold start on power with the three blank images under VALID marks (log 2): nothing is energized, no zone
holds an alarm, no claim and no override stands, the inputs read UNKNOWN, the lines are SILENT with their change flags set. -/
def Obligations.ResetIsAColdStart : Prop :=
  StartedCold .power { State.reset with power := .unpowered } State.reset ∧
    exec .coldStart { State.reset with power := .unpowered } = .next State.reset ∧
    (∀ r, State.reset.relayOn r = false) ∧ (∀ o, State.reset.preloadOf o = 0)

/-- The reset state keeps every promise that the invariants state: of the store, the drives, the zones, the lists and the speed chain
with its limits. -/
def Obligations.ResetIsSound : Prop :=
  StoreSound State.reset ∧ DrivesSound State.reset ∧ ZonesSound State.reset ∧ ListsSound State.reset ∧
    SpeedsSound State.reset ∧ LimitsOrdered State.reset

/-- Every step keeps the store sound: images in canonical form, at most one sector WRITING, its mark INVALID and its staging image
present, IDENTITY never PENDING (R181). -/
def Obligations.StoreStaysSound : Prop :=
  ∀ s t : State, StoreSound s → step s = .next t → StoreSound t

/-- Every step keeps every drive sound: never both outputs of a reversing damper, each output on in its driving state alone (R86); a
spring damper's output on exactly while its target differs from its fail position (R93); a fan's run output as its run state
gives with its ramp timer running exactly while it is on, a fault exactly in FAILED, no more attempts than configured (R110, R116, R120); no drive in CONFIG-FAULT (R13), and outside
it every input's filter count is the one its record gives (R134). -/
def Obligations.DrivesStaySound : Prop :=
  ∀ s t : State, DrivesSound s → step s = .next t → DrivesSound t

/-- Every step keeps the zones sound: alarm sources exactly in FIRE (R46), the Activation List holding each zone with a run once and
no other (R42), a TEST alone (R49), a held flag only in FIRE while stand-down is SET (R157), an option exactly while SET (R151). -/
def Obligations.ZonesStaySound : Prop :=
  ∀ s t : State, ZonesSound s → step s = .next t → ZonesSound t

/-- Every step keeps the claim lists sound: at most 6 claims, no source twice, in rank order, each zone's claim of a zone that is
active in its mode, every map in agreement with the lists, every target the one R28 derives, the override count the number of
lists with an OVERRIDE claim (R17, R18, R19, R28, R38, R51, R52, R59, R151), no claim in CONFIG-FAULT (R13). -/
def Obligations.ListsStaySound : Prop :=
  ∀ s t : State, ListsSound s → ZonesSound s → step s = .next t → ListsSound t

/-- Stand-down is set by nothing but a STAND-DOWN, or by a frame or a byte on the Override Line, which alone may carry one (R156,
R163, R167). -/
def Obligations.OnlyTheOverrideLineSetsStandDown : Prop :=
  ∀ (c : Instr) (s t : State), exec c s = .next t → s.standDown = false → t.standDown = true →
    (∃ option, c = .standDown option) ∨ (∃ frame, c = .frameReceived .override frame) ∨
      ∃ b, c = .byteReceived .override (.byte b)

/-- What the Sequence Engine does after an event touches claim lists, drives, zone records and change flags alone, and of a zone
record neither its mode, its alarm sources, its suspended flag nor its past records; with no active zone it does nothing. With
sequences of at most 16 stages it comes to rest: no active zone that runs, neither held nor suspended, is left with a DUE stage
or with a PROVING stage without a PENDING outcome, every live outcome is the one that R66 gives at the end of the event, and every
sub-status is the one that R54 gives (R54, R62, R66, R70, R73, R75, R77). The model's own choices in it: log 12. -/
def Obligations.TheEngineTouchesNothingElse : Prop :=
  ∀ w : Work,
    (∃ ls ds zs ps, settled w = { w.st with lists := ls, drives := ds, zones := zs, ports := ps }) ∧
      SamePorts w.st (settled w) ∧
      (∀ z, ∃ r, (settled w).zone z = r ∧ r.mode = (w.st.zone z).mode ∧ r.sourceA = (w.st.zone z).sourceA ∧
        r.sourceB = (w.st.zone z).sourceB ∧ r.suspended = (w.st.zone z).suspended ∧
        r.lastTest = (w.st.zone z).lastTest ∧ r.lastFire = (w.st.zone z).lastFire) ∧
      (∀ l, (w.st.port l).changeFlag = true → ((settled w).port l).changeFlag = true) ∧
      (w.st.activation = [] → settled w = w.st) ∧
      ((∀ z, (w.st.sequenceOf z).length ≤ 16) →
        ∀ z ∈ w.st.activation,
          (let r := (settled w).zone z;
            r.subStatus = subStatusOf (settled w) r ∧
            ∀ cs, r.stage = some cs →
              (r.phase = .running → r.held = false → r.suspended = false →
                cs.phase ≠ .due ∧ (cs.phase = .proving → CommandOutcome.pending ∈ cs.outcomes)) ∧
              (cs.phase = .settling ∨ cs.phase = .proving → ∀ (i : Nat) c o, ((settled w).stageOf cs).commands[i]? = some c →
                cs.outcomes[i]? = some o → o = judgeOutcome (settled w) r c o)))

/-- The answer to a request stands at the port of its line, TAKING, with the request's kind and its result, built at that event;
no other port and nothing else of the state differs (R166, R169). The model's own choices in it: log 4, log 11. -/
def Obligations.AnAnswerStandsAtItsPort : Prop :=
  ∀ (l : Line) (kind : Byte) (r : Reply) (s : State),
    ∃ p, deliver l kind r s = s.setPort l p ∧ (deliver l kind r s).port l = p ∧ p.reception = .taking ∧
      p.answer = some { kind := kind, result := r.result, body := r.body } ∧ p.sending = [] ∧ p.buffer = [] ∧
      p.gapTimer = none ∧ p.takenAt = s.now ∧ p.line = (s.port l).line ∧
      p.supervisionTimer = (s.port l).supervisionTimer ∧ p.supervisionTime = (s.port l).supervisionTime ∧
      p.changeFlag = (s.port l).changeFlag ∧ ∀ k, k ≠ l → (deliver l kind r s).port k = s.port k

/-! ## Claims and proof -/

/-- A claim is CONCORDANT exactly as R31's table gives: OPEN with OPEN, CLOSED with CLOSED, OFF with OFF, RUN at any speed with RUN at
any speed; the HEAD is always CONCORDANT with the target R28 derives. -/
def Obligations.ConcordanceByTheTable : Prop :=
  (∀ (c : Command) (target : Option Command),
    concordant c target = true ↔
      (c = .openPos ∧ target = some .openPos) ∨ (c = .closedPos ∧ target = some .closedPos) ∨
        (c = .off ∧ target = some .off) ∨ (∃ x y, c = .run x ∧ target = some (.run y))) ∧
    ∀ (rest : Option Command) (head : Claim) (below : List Claim),
      concordant head.cmd (deriveTarget rest (head :: below)) = true

/-- An actuator is proven at a command exactly as R53's table gives; a fan in FAILED and a switch-mode damper in a BY-TIME position
are proven at nothing. The outcome of a command of an issued stage is the first of R66's six tests that holds, with the fault that
R67 names, and the sub-status is as R54 gives: NONE in NORMAL and RUNNING, DEGRADED in STOPPED, and in COMPLETE ESTABLISHED exactly
when every entry of the map is IN-FORCE with its actuator proven at its command. -/
def Obligations.ProvenByTheTable : Prop :=
  (∀ (s : State) (a : Fin 64) (c : Command),
    (∀ d ctx, s.drive a = .damper d → s.damperCtx a = some ctx →
      (s.provenAt a c = true ↔
        (c = .openPos ∧ (d.position = .openPos ∨ (ctx.mode = .timed ∧ d.position = .openByTime))) ∨
          (c = .closedPos ∧ (d.position = .closedPos ∨ (ctx.mode = .timed ∧ d.position = .closedByTime))))) ∧
    (∀ f, s.drive a = .fan f →
      (s.provenAt a c = true ↔ ((∃ v, c = .run v) ∧ f.state = .running) ∨ (c = .off ∧ f.state = .stopped)))) ∧
  (∀ (s : State) (r : ZoneRecord) (c : StageCommand) (old : CommandOutcome) (e : MapEntry), r.map[c.actuator] = some e →
    (let outcome := judgeOutcome s r c old
      let faultStands := (∃ d, s.drive c.actuator = .damper d ∧ d.fault.isSome = true) ∨
        ∃ f, s.drive c.actuator = .fan f ∧ f.state = .failed;
      (old = .failed → outcome = .failed) ∧
      (old ≠ .failed → e.status = .shed → outcome = .shed) ∧
      (old ≠ .failed → e.status = .displaced → outcome = .deferred) ∧
      (old ≠ .failed → e.status = .inForce → faultStands → outcome = .failed) ∧
      (old ≠ .failed → e.status = .inForce → ¬ faultStands → s.provenAt c.actuator c.cmd = true → outcome = .proven) ∧
      (old ≠ .failed → e.status = .inForce → ¬ faultStands → s.provenAt c.actuator c.cmd = false →
        outcome = .pending))) ∧
  ∀ (s : State) (r : ZoneRecord),
    (let whole := ∀ (a : Fin 64) (e : MapEntry), r.map[a] = some e → e.status = .inForce ∧ s.provenAt a e.cmd = true;
      (r.phase = .normal ∨ r.phase = .running → subStatusOf s r = .none) ∧
      (r.phase = .stopped → subStatusOf s r = .degraded) ∧
      (r.phase = .complete → whole → subStatusOf s r = .established) ∧
      (r.phase = .complete → ¬ whole → subStatusOf s r = .degraded))

/-- The target is REST with an empty list, and otherwise the HEAD's command, for RUN with the largest RUN speed among the claims at the
HEAD's level (R28). -/
def Obligations.TargetIsTheHeads : Prop :=
  ∀ (rest : Option Command) (claims : List Claim),
    (claims = [] → deriveTarget rest claims = rest) ∧
    ∀ head below, claims = head :: below →
      ((∀ v, head.cmd ≠ .run v) → deriveTarget rest claims = some head.cmd) ∧
      (∀ v, head.cmd = .run v →
        ∃ m, deriveTarget rest claims = some (.run m) ∧
          (∃ c ∈ claims, c.src.level = head.src.level ∧ c.cmd = .run m) ∧
          ∀ c ∈ claims, ∀ x, c.src.level = head.src.level → c.cmd = .run x → x ≤ m)

/-- A placing in a list in rank order whose sources are distinct keeps the rank order: a claim the source holds is replaced where it
stands (R22); with room the claim is inserted (R23); with 6 claims the new claim is shed if it outranks none, and otherwise the
lowest claim is (R24). An OVERRIDE claim is never shed. -/
def Obligations.PlacingByRank : Prop :=
  ∀ (activation : List (Fin 24)) (claims : List Claim) (src : Source) (cmd : Command),
    rankOrdered activation claims = true → sourcesDistinct claims = true →
    (∀ z, src = .test z ∨ src = .fire z → z ∈ activation) →
    (∀ c ∈ claims, ∀ z, c.src = .test z ∨ c.src = .fire z → z ∈ activation) →
    let r := placeClaim activation claims src cmd
    rankOrdered activation r.1 = true ∧
    (∀ old, claimOf claims src = some old →
      r.1 = claims.map (fun c => if c.src = src then { c with cmd := cmd } else c) ∧
        r.2 = if old.cmd = cmd then .same else .replaced) ∧
    (claimOf claims src = none → claims.length < 6 →
      r.1.Perm (⟨src, cmd⟩ :: claims) ∧ r.2 = .placed) ∧
    (claimOf claims src = none → claims.length = 6 →
      ∃ front low, claims = front ++ [low] ∧
        (outranks activation ⟨src, cmd⟩ low = false → r.1 = claims ∧ r.2 = .shedAtOnce) ∧
        (outranks activation ⟨src, cmd⟩ low = true → r.1.Perm (⟨src, cmd⟩ :: front) ∧ r.2 = .placedShedding low) ∧
        (src = .override → r.2 ≠ .shedAtOnce) ∧ low.src ≠ .override)

/-- Re-offer only adds (R27): it keeps the claims in their order and adds the SHED claims of active zones, with the commands their maps
record, oldest zone first until the list holds 6, and no other. Where the list is in rank order, its zones are active and no SHED
claim's source holds a claim, the list it leaves is in rank order: each added claim stands at its rank. -/
def Obligations.ReofferFillsTheList : Prop :=
  ∀ (s : State) (a : Fin 64) (claims : List Claim), claims.length ≤ 6 →
    (reoffer s a claims).Perm (claims ++ (shedClaims s a).take (6 - claims.length)) ∧
    claims.Sublist (reoffer s a claims) ∧ (reoffer s a claims).length ≤ 6 ∧
    (∀ c ∈ reoffer s a claims, c ∈ claims ∨
      ∃ z ∈ s.activation, ∃ e, (s.zone z).map[a] = some e ∧ e.status = .shed ∧
        c = ⟨zoneSource (s.zone z) z, e.cmd⟩) ∧
    ((reoffer s a claims).length < 6 →
      ∀ z ∈ s.activation, ∀ e, (s.zone z).map[a] = some e → e.status = .shed →
        ⟨zoneSource (s.zone z) z, e.cmd⟩ ∈ reoffer s a claims) ∧
    (s.activation.Nodup → claims.Pairwise (fun c x => outranks s.activation c x = true) →
      (∀ c ∈ claims, ∀ z, c.src = .test z ∨ c.src = .fire z → z ∈ s.activation) →
      (∀ c ∈ claims, ∀ x ∈ shedClaims s a, c.src ≠ x.src) →
      (reoffer s a claims).Pairwise (fun c x => outranks s.activation c x = true))

/-! ## Numbers -/

/-- The raw value of a channel is Elo plus the quotient of (avg − Clo) × (Ehi − Elo) by Chi − Clo, rounded to the nearest whole
number, and half away from zero (R141). -/
def Obligations.RawValueRoundsHalfAwayFromZero : Prop :=
  ∀ (sc : Scaling) (avg : Nat), sc.clo < sc.chi →
    let num : Int := ((avg : Int) - sc.clo) * (sc.ehi - sc.elo)
    let den : Int := (sc.chi : Int) - sc.clo
    let q := rawValue sc avg - sc.elo;
    (0 ≤ num → 2 * num - den < 2 * q * den ∧ 2 * q * den ≤ 2 * num + den) ∧
      (num < 0 → 2 * num - den ≤ 2 * q * den ∧ 2 * q * den < 2 * num + den)

/-- The duty code on a speed output changes at a frame boundary of that output alone, a start of the part apart, which sets it to
0 (R12); every frame carries exactly Q high counts, B or B + 1 in each of its four periods by the extension set (R126). The
model's own choices in it: log 23. -/
def Obligations.EveryFrameCarriesQ : Prop :=
  (∀ q, q ≤ 1023 →
    baseCount q = q / 4 ∧ baseCount q ≤ 255 ∧ extensionCount q = q - 4 * baseCount q ∧ extensionCount q ≤ 3 ∧
    highCounts q 1 + highCounts q 2 + highCounts q 3 + highCounts q 4 = q ∧
    (extensionCount q = 0 → ∀ i, highCounts q i = baseCount q) ∧
    (extensionCount q = 1 → highCounts q 2 = baseCount q + 1 ∧ ∀ i, i ≠ 2 → highCounts q i = baseCount q) ∧
    (extensionCount q = 2 → highCounts q 1 = baseCount q + 1 ∧ highCounts q 2 = baseCount q ∧
      highCounts q 3 = baseCount q + 1 ∧ highCounts q 4 = baseCount q) ∧
    (extensionCount q = 3 → highCounts q 1 = baseCount q + 1 ∧ highCounts q 2 = baseCount q + 1 ∧
      highCounts q 3 = baseCount q + 1 ∧ highCounts q 4 = baseCount q)) ∧
  (∀ (o : Fin 16) (s : State), s.power = .running →
    exec (.speedFrameBoundary o) s = .next { s with applied := s.applied.set o (s.preloadOf o) }) ∧
  ∀ (c : Instr) (s t : State) (o : Fin 16), exec c s = .next t → c ≠ .speedFrameBoundary o →
    t.applied[o] = s.applied[o] ∨
      (t.applied[o] = 0 ∧
        (c = .coldStart ∨ c = .powerLoss ∨ c = .supervisor ∨ ∃ cause, c = .warmRestartStart cause))

/-- The speed chain of every variable-speed fan stays in its ranges through every step: C within Smin..Smax, R within 0..Smax, R = 0 with
the run output off, the preload within 0..1023 (R123); and with it the limits stay ordered, Smin ≤ Smax ≤ 1000, in the image in force,
in the stored image under a VALID mark and in the image being written, which validation has passed (R10, R184). A clamped speed lies within its
limits, a ramp step is min or max of C and R ± k, a duty code is R × 1023 / 1000 rounded half up, and the preload of a speed output is
that of the fan whose record names it, and 0 where no record does (R109, R124, R125, R127). -/
def Obligations.TheSpeedChainStaysInRange : Prop :=
  (∀ s t : State, SpeedsSound s → LimitsOrdered s → DrivesSound s → StoreSound s → step s = .next t →
    SpeedsSound t ∧ LimitsOrdered t) ∧
  (∀ r, r ≤ 1000 → dutyCode r = (r * 1023 + 500) / 1000 ∧ dutyCode r ≤ 1023) ∧
  (∀ (sd : SpeedDef) (d : Nat), sd.smin ≤ sd.smax →
    sd.smin ≤ clampSpeed sd d ∧ clampSpeed sd d ≤ sd.smax ∧
      (sd.smin ≤ d → d ≤ sd.smax → clampSpeed sd d = d)) ∧
  (∀ (sd : SpeedDef) (c r : Nat), 1 ≤ sd.rate →
    (r < c → rampToward sd.rate c r = min c (r + sd.rate) ∧ r < rampToward sd.rate c r) ∧
      (c < r → rampToward sd.rate c r = max c (r - sd.rate) ∧ rampToward sd.rate c r < r) ∧
      (r = c → rampToward sd.rate c r = r)) ∧
  (∀ (s : State) (o : Fin 16), (∀ a, namesSpeedOutput o (s.record a) = false) → s.preloadOf o = 0) ∧
  ∀ (s : State) (o : Fin 16) (a : Fin 64) (f : FanDrive), namesSpeedOutput o (s.record a) = true →
    (∀ b, namesSpeedOutput o (s.record b) = true → b = a) → s.drive a = .fan f → s.preloadOf o = f.preload

/-! ## Reads -/

/-- POLL is answered DONE with this line's change flag, the four line states in order and the condition, and changes nothing (R178). -/
def Obligations.PollShowsTheLine : Prop :=
  ∀ (l : Line) (s : State), s.takes l →
    exec (.poll l) s =
      .next (deliver l 0x01
        { result := .done
          body := .poll (s.port l).changeFlag
            [(s.port .panelA).line, (s.port .panelB).line, (s.port .override).line, (s.port .building).line]
            s.configFault } s)

/-- READ-SUMMARY of pages 0 to 4: page 0 shows the change flag as it stood and clears this line's alone; pages 1 and 2 show inputs
0..63 and 64..127 with their F, page 3 the channels, page 4 the scalings, and change nothing; a page above 4 is refused (R176,
R179). The model's own choices in it: log 4. -/
def Obligations.SummaryPages : Prop :=
  ∀ (l : Line) (page : Byte) (s : State), s.takes l →
    (page = 0 →
      ∃ v, exec (.readSummary l page) s =
          .next (deliver l 0x02 { result := .done, body := .summary v }
            (s.setPort l { s.port l with changeFlag := false })) ∧
        v.changeFlag = (s.port l).changeFlag ∧ v.start = s.start ∧ v.configFault = s.configFault ∧
        v.activation = s.activation ∧ v.overrides = s.overrides ∧ v.standDown = s.standDown ∧
        v.standDownOption = s.standDownOption ∧ v.key = s.key.debounced ∧ v.keyOn = (s.key.debounced == .on) ∧
        v.supply = s.supply.state ∧ v.reading = s.supply.reading ∧ v.siteCode = s.siteCode ∧
        v.lines = [(s.port .panelA).line, (s.port .panelB).line, (s.port .override).line, (s.port .building).line] ∧
        (∀ z : Fin 24, v.zones[z.val]? = some (s.zoneSummary z)) ∧
        (∀ (a : Fin 64) (f : ActuatorFault), (a, f) ∈ v.faults ↔ (s.drive a).fault = some f) ∧
        v.identity = sectorView s.store.identity ∧ v.plant = sectorView s.store.plant ∧
        v.sequences = sectorView s.store.sequences) ∧
    (page = 1 ∨ page = 2 →
      ∃ v, exec (.readSummary l page) s = .next (deliver l 0x02 { result := .done, body := .inputs v } s) ∧
        v.length = 64 ∧
        ∀ i : Fin 128, i.val / 64 + 1 = page.toNat →
          v[i.val % 64]? = some (s.inputs[i].debounced, s.filterCount i)) ∧
    (page = 3 →
      ∃ v, exec (.readSummary l page) s = .next (deliver l 0x02 { result := .done, body := .channels v } s) ∧
        ∀ c : Fin 16, v[c.val]? = some
          { status := (s.channel c).status, value := (s.channel c).value, average := windowAverage (s.channel c).window,
            codes := (s.channel c).window.length }) ∧
    (page = 4 →
      ∃ v, exec (.readSummary l page) s = .next (deliver l 0x02 { result := .done, body := .scalings v } s) ∧
        ∀ c : Fin 16, v[c.val]? = some s.plant.scalings[c]) ∧
    (4 < page.toNat →
      exec (.readSummary l page) s = .next (deliver l 0x02 { result := .refusedRange, body := .plain } s))

/-- READ-ZONE of a zone 0..23: part 0 shows the definition, mode, phase, sub-status, sources, flags, place in the Activation List,
test reason, stage with its commands, outcomes and remaining times, failed count and last fire run; parts 1 and 2 the map entries
of actuators 0..31 and 32..63 in ascending order; parts 3 to 6 four stage entries each of the last test; a zone above 23 or a part
above 6 is refused (R57, R81, R180). READ-ACTUATOR of a configured actuator shows its definition, its claims in rank order with
their levels and concordance, its target, whether it comes from rest, the NORMAL-SHED mark and the drive: of a damper its timer,
pending direction and mark, reversals, restart bar and switches (R106), of a fan its timer, run-proof input, pressure item and speed
chain with the applied code's B and E (R129), and in CONFIG-FAULT an IDLE or STOPPED drive with its outputs off (R13); an UNUSED
record or a number above 63 is refused (R1, R36, R180). Neither read changes anything. That a fan's last failure is shown as it stands,
also in FAILED, is the model's choice (log 22: R120 followed against R129's "in RESTART-WAIT; otherwise none"); its other choices: log 4,
log 6. -/
def Obligations.ReadsShowTheRecords : Prop :=
  (∀ (l : Line) (zone part : Byte) (s : State), s.takes l →
    (24 ≤ zone.toNat ∨ 7 ≤ part.toNat →
      exec (.readZone l zone part) s = .next (deliver l 0x03 { result := .refusedRange, body := .plain } s)) ∧
    ∀ z : Fin 24, zone.toNat = z.val →
      (part = 0 →
        ∃ v, exec (.readZone l zone part) s = .next (deliver l 0x03 { result := .done, body := .zone v } s) ∧
          v.definition = s.zoneDef z ∧ v.mode = (s.zone z).mode ∧ v.phase = (s.zone z).phase ∧
          v.subStatus = (s.zone z).subStatus ∧ v.sourceA = (s.zone z).sourceA ∧ v.sourceB = (s.zone z).sourceB ∧
          v.held = (s.zone z).held ∧ v.suspended = (s.zone z).suspended ∧ v.failed = (s.zone z).failed ∧
          v.lastFire = (s.zone z).lastFire ∧ v.testReason = (s.zone z).log.map (·.reason) ∧
          (∀ i, v.activation = some i → s.activation[i]? = some z) ∧ (v.activation = none ↔ z ∉ s.activation) ∧
          ((s.zone z).stage = none → v.stage = none) ∧
          ∀ cs, (s.zone z).stage = some cs →
            ∃ x, v.stage = some x ∧ x.position = cs.position ∧ x.stage = cs.stage ∧ x.phase = cs.phase ∧
              x.gateExpired = cs.gateExpired ∧ ShowsTimer s.now cs.settle x.settle ∧
              ShowsTimer s.now cs.window x.window ∧ ShowsTimer s.now cs.gateWait x.gateWait ∧
              ∀ i : Nat, x.commands[i]? = ((s.stageOf cs).commands[i]?).map (fun c => (c, cs.outcomes[i]?))) ∧
      (part = 1 ∨ part = 2 →
        ∃ v, exec (.readZone l zone part) s = .next (deliver l 0x03 { result := .done, body := .zoneMap v } s) ∧
          (∀ (a : Fin 64) (e : MapEntry), (a, e) ∈ v ↔ (s.zone z).map[a] = some e ∧ a.val / 32 + 1 = part.toNat) ∧
          v.Pairwise (fun x y => x.1 < y.1)) ∧
      (3 ≤ part.toNat → part.toNat ≤ 6 →
        ∃ v, exec (.readZone l zone part) s = .next (deliver l 0x03 { result := .done, body := .testPart v } s) ∧
          (v = none ↔ (s.zone z).lastTest = none) ∧
          ∀ t, (s.zone z).lastTest = some t →
            ∃ entries, v = some ({ reason := t.reason, ended := t.ended, finalPhase := t.finalPhase, failed := t.failed },
              entries) ∧ ∀ i, entries[i]? = if i < 4 then t.entries[4 * (part.toNat - 3) + i]? else none)) ∧
  ∀ (l : Line) (b : Byte) (s : State), s.takes l →
    (s.configuredActuator b = none →
      exec (.readActuator l b) s = .next (deliver l 0x04 { result := .refusedRange, body := .plain } s)) ∧
    ∀ a, s.configuredActuator b = some a →
      ∃ v, exec (.readActuator l b) s = .next (deliver l 0x04 { result := .done, body := .actuator v } s) ∧
        v.definition = s.record a ∧ v.target = (s.claimList a).target ∧ v.normalShed = (s.claimList a).normalShed ∧
        (v.fromRest = true ↔ (s.claimList a).claims = []) ∧
        v.claims.map (fun c => (c.src, c.cmd)) = (s.claimList a).claims.map (fun c => (c.src, c.cmd)) ∧
        (∀ c ∈ v.claims, c.level = c.src.level ∧ c.concordant = concordant c.cmd (s.claimList a).target) ∧
        (∀ d ctx, s.drive a = .damper d → s.damperCtx a = some ctx →
          ∃ x, v.drive = .damper x ∧ x.state = d.state ∧ x.position = d.position ∧ x.fault = d.fault ∧
            x.openOut = d.openOut ∧ x.closeOut = d.closeOut ∧ x.driveOut = d.driveOut ∧ x.lastDirection = d.lastDirection ∧
            x.reversals = (d.history.filter (fun t => decide (s.now - t < 60000))).length ∧
            ShowsDamperTimer s.now d x.timer ∧ x.openSwitch = ctx.openSwitch ∧ x.closedSwitch = ctx.closedSwitch ∧
            (let waits := d.state = .deadTime ∨ d.state = .cooldown;
              (waits → x.pending = d.pending ∧ x.interrupted = d.interrupted) ∧
                (¬ waits → x.pending = none ∧ x.interrupted = false)) ∧
            ((∀ t, d.restartBar = some t → 60000 ≤ s.now - t) → x.restartBar = none) ∧
            ∀ t, d.restartBar = some t → s.now - t < 60000 →
              ∃ n, x.restartBar = some n ∧ ShownTenths (t + 60000 - s.now) n) ∧
        (∀ f ctx, s.drive a = .fan f → s.fanCtx a = some ctx →
          ∃ x, v.drive = .fan x ∧ x.state = f.state ∧ x.fault = f.fault ∧ x.attempts = f.attempts ∧
            x.restartAttempts = ctx.definition.restartAttempts ∧ x.lastFailure = f.lastFailure ∧ x.runOut = f.runOut ∧
            x.proofUnavailable = f.proofUnavailable ∧ ShowsFanTimer s.now f x.timer ∧ x.proofInput = ctx.input ∧
            (ctx.definition.pressure = none → x.pressure = none) ∧
            (∀ p, ctx.definition.pressure = some p →
              x.pressure = some
                { channel := p.channel, value := (s.channel p.channel).value, status := (s.channel p.channel).status,
                  threshold := p.threshold }) ∧
            (ctx.definition.speed = none → x.speed = none) ∧
            ∀ sd, ctx.definition.speed = some sd →
              x.speed = some
                { demand := f.demand, clamped := f.clamped, ramped := f.ramped, preload := f.preload,
                  applied := s.applied[sd.output], base := s.applied[sd.output] / 4,
                  extension := s.applied[sd.output] % 4 }) ∧
        (s.drive a = .none →
          ((s.damperCtx a).isSome = true →
            ∃ x, v.drive = .damper x ∧ x.state = .idle ∧ x.position = .unknown ∧ x.fault = none ∧ x.openOut = false ∧
              x.closeOut = false ∧ x.driveOut = false) ∧
          ((s.fanCtx a).isSome = true →
            ∃ x, v.drive = .fan x ∧ x.state = .stopped ∧ x.fault = none ∧ x.runOut = false ∧
              ∀ y, x.speed = some y → y.applied = 0))

/-! ## Zones -/

/-- A ZONE-ALARM for a configured zone that its panel reports and that has no FIRE run starts one (R44, R45): a TEST run on any
zone, the alarmed one too, is ended with its record written (R55) and leaves the Activation List, stand-down with RESUME-ON-NEW-ALARM is released, and
the zone is appended at the tail with its stage at position 0 DUE, held exactly while stand-down still stands. The answer is DONE.
The model's own choices in it: log 24, log 33. -/
def Obligations.AlarmStartsAFireRun : Prop :=
  ∀ (p : Panel) (b : Byte) (z : Fin 24) (d : ZoneDef) (s : State), s.takes p.line → s.configFault = false →
    zoneOf b = some z → s.zoneDef z = some d → d.reportedBy p = true → (s.zone z).mode ≠ .fire →
    ∃ w, exec (.zoneAlarm p b) s =
        .next (deliver p.line 0x10
          { result := .done
            body := .zoneState .fire ((settled w).zone z).phase (p == .panelA) (p == .panelB) } (settled w)) ∧
      StartedZone s z .fire (p == .panelA) (p == .panelB) w.st.standDown none (w.st.zone z) ∧
      w.st.activation = s.activation.filter (fun y => (s.zone y).mode != .test) ++ [z] ∧
      (w.st.standDown = true ↔ s.standDown = true ∧ s.standDownOption ≠ some .resumeOnNewAlarm) ∧
      (∀ y, (s.zone y).mode = .test → (y ≠ z → (w.st.zone y).mode = .none) ∧
        ∀ log, (s.zone y).log = some log → ∃ t, (w.st.zone y).lastTest = some t ∧ t.ended = .abortedByAlarm ∧
          t.reason = log.reason ∧ t.finalPhase = (s.zone y).phase ∧ t.failed = (s.zone y).failed.getD 0 ∧
          EntriesAtEnd s (s.zone y) log t.entries) ∧
      (∀ y, y ≠ z → (s.zone y).mode ≠ .test → (w.st.zone y).mode = (s.zone y).mode ∧
        (w.st.zone y).sourceA = (s.zone y).sourceA ∧ (w.st.zone y).sourceB = (s.zone y).sourceB) ∧
      (∀ y, (w.st.zone y).lastFire = (s.zone y).lastFire ∧
        ((s.zone y).mode ≠ .test → (w.st.zone y).lastTest = (s.zone y).lastTest)) ∧
      w.st.overrides = s.overrides ∧ w.st.store = s.store ∧ w.st.plant = s.plant ∧ w.st.sequences = s.sequences ∧
      FlagsSet w.st

/-- A ZONE-ALARM for a zone in FIRE adds its panel to the alarm sources and touches nothing else; a ZONE-RESET of a panel that is not a
source changes nothing, and one that leaves the other panel removes its panel alone (R45, R46). That the answer to the ZONE-ALARM
carries mode, phase and alarm sources is the model's choice (log 33): R45 names no items. -/
def Obligations.AFireRunKeepsItsCourse : Prop :=
  ∀ (p : Panel) (b : Byte) (z : Fin 24) (d : ZoneDef) (s : State), s.takes p.line →
    zoneOf b = some z → s.zoneDef z = some d → d.reportedBy p = true →
    (s.configFault = false → (s.zone z).mode = .fire →
      ((s.zone z).hasSource p = true →
        exec (.zoneAlarm p b) s = .next (deliver p.line 0x10 { result := .noChange, body := zoneItems s z } s)) ∧
      ((s.zone z).hasSource p = false →
        exec (.zoneAlarm p b) s =
          .next (deliver p.line 0x10
            { result := .done
              body := .zoneState .fire (s.zone z).phase ((s.zone z).sourceA || p == .panelA)
                ((s.zone z).sourceB || p == .panelB) }
            (s.setZone z
              { s.zone z with
                sourceA := (s.zone z).sourceA || p == .panelA
                sourceB := (s.zone z).sourceB || p == .panelB })))) ∧
    ((s.zone z).hasSource p = false →
      exec (.zoneReset p b) s = .next (deliver p.line 0x11 { result := .noChange, body := zoneItems s z } s)) ∧
    ((s.zone z).sourceA = true → (s.zone z).sourceB = true →
      exec (.zoneReset p b) s =
        .next (deliver p.line 0x11
          { result := .done
            body := .zoneState (s.zone z).mode (s.zone z).phase (p == .panelB) (p == .panelA) }
          (s.setZone z { s.zone z with sourceA := p == .panelB, sourceB := p == .panelA })))

/-- A ZONE-RESET of the last alarm source ends the FIRE run (R46, R47, R56): the zone leaves the Activation List, every claim of
it leaves every list, its record takes its no-run values with the last fire-run summary written, the other zones keep their modes,
and every change flag is set. Where that leaves no zone active and no override standing, a PENDING image is applied, and otherwise
the images in force and the store stay (R42, R187). The answer is DONE. The model's own choices in it: log 25. -/
def Obligations.TheLastResetEndsTheRun : Prop :=
  ∀ (p : Panel) (b : Byte) (z : Fin 24) (d : ZoneDef) (s : State), s.takes p.line →
    zoneOf b = some z → s.zoneDef z = some d → d.reportedBy p = true → (s.zone z).mode = .fire →
    (s.zone z).sourceA = (p == .panelA) → (s.zone z).sourceB = (p == .panelB) →
    (∀ a, (claimOf (s.claimList a).claims (.fire z)).isSome = true →
      ∃ e, (s.zone z).map[a] = some e ∧ e.status ≠ .shed) →
    ∃ t, exec (.zoneReset p b) s =
        .next (deliver p.line 0x11 { result := .done, body := .zoneState .none .normal false false } t) ∧
      t.activation = s.activation.filter (fun y => y != z) ∧
      t.zone z =
        { zoneAtRest with
          lastTest := (s.zone z).lastTest
          lastFire := some
            { finalPhase := (s.zone z).phase
              finalPosition := ((s.zone z).stage.map (·.position)).getD 0
              subStatus := (s.zone z).subStatus
              failed := (s.zone z).failed.getD 0 } } ∧
      (∀ a, claimOf (t.claimList a).claims (.fire z) = none) ∧
      (∀ y, y ≠ z → (t.zone y).mode = (s.zone y).mode) ∧ t.standDown = s.standDown ∧ t.overrides = s.overrides ∧
      FlagsSet t ∧ PendingApplied s t

/-- A TEST-START that passes its checks starts a TEST run on its zone and changes nothing but that zone, the Activation List and the
change flags before the engine takes the first stage (R48, R49). The answer is DONE. -/
def Obligations.TestStartBeginsATest : Prop :=
  ∀ (b code : Byte) (z : Fin 24) (why : TestReason) (s : State), s.takes .building → s.configFault = false →
    s.configuredZone b = some z → testReasonOf code = some why → (why = .commissioning → s.keyOn = true) →
    (∀ y, (s.zone y).mode = .none) →
    ∃ r, exec (.testStart b code) s =
        .next (deliver .building 0x33 { result := .done, body := .plain }
          (settled (Work.start ({ s with activation := s.activation ++ [z] }.setZone z r).raiseFlags))) ∧
      StartedZone s z .test false false false
        (some
          { reason := why
            entries := (s.sequenceOf z).map
              (fun n => { stage := n, state := .notReached, gateExpired := false, outcomes := [] }) }) r

/-- TEST-END of the zone in TEST ends the run with end reason ENDED (R47, R50, R55): the zone leaves the Activation List, every claim of it
leaves every list, and the last test record is written with its stage entries, that of an unfinished stage INTERRUPTED; a PENDING
image is applied where that leaves no zone active and no override standing (R42, R187); a zone in FIRE is refused REFUSED-STATE and
a zone without a run is answered NO-CHANGE, and neither changes anything. The model's own choices in it: log 33. -/
def Obligations.TestEndEndsTheTest : Prop :=
  ∀ (b : Byte) (z : Fin 24) (s : State), s.takes .building → s.configuredZone b = some z →
    ((s.zone z).mode = .fire →
      exec (.testEnd b) s = .next (deliver .building 0x34 { result := .refusedState, body := .plain } s)) ∧
    ((s.zone z).mode = .none →
      exec (.testEnd b) s = .next (deliver .building 0x34 { result := .noChange, body := .plain } s)) ∧
    ∀ log, (s.zone z).mode = .test → (s.zone z).log = some log →
      (∀ a, (claimOf (s.claimList a).claims (.test z)).isSome = true →
        ∃ e, (s.zone z).map[a] = some e ∧ e.status ≠ .shed) →
      ∃ t x, exec (.testEnd b) s = .next (deliver .building 0x34 { result := .done, body := .plain } t) ∧
        t.zone z = { zoneAtRest with lastTest := some x, lastFire := (s.zone z).lastFire } ∧
        x.reason = log.reason ∧ x.ended = .ended ∧ x.finalPhase = (s.zone z).phase ∧
        x.failed = (s.zone z).failed.getD 0 ∧ EntriesAtEnd s (s.zone z) log x.entries ∧
        t.activation = s.activation.filter (fun y => y != z) ∧
        (∀ a, claimOf (t.claimList a).claims (.test z) = none) ∧
        (∀ y, y ≠ z → (t.zone y).mode = (s.zone y).mode) ∧ FlagsSet t ∧ PendingApplied s t

/-- Each check of a request refuses with its result and changes nothing. In CONFIG-FAULT the requests that start a run or place a claim
are refused REFUSED-CONFIG (R13, R189). A request that names no configured zone or actuator, or a zone its panel does not report, is
refused REFUSED-RANGE; a command of the wrong kind REFUSED-FORM (R1, R32, R152), a RUN above 1000 on the Override Line REFUSED-RANGE
(R152); a TEST-START by its checks 3 to 5 (R48); a CONFIG-READ by its checks 1, 3 and 4 (R182), a CONFIG-WRITE by its checks 1 to 3
(R183); an unknown sector at a CONFIG-ACTIVATE REFUSED-RANGE (R185). -/
def Obligations.RefusalsChangeNothing : Prop :=
  (∀ (s : State) (p : Panel), s.takes p.line →
    (s.configFault = true →
      ∀ z, exec (.zoneAlarm p z) s = .next (deliver p.line 0x10 (Reply.bare .refusedConfig) s)) ∧
    (∀ b, s.configuredZone b = none →
      (s.configFault = false → exec (.zoneAlarm p b) s = .next (deliver p.line 0x10 (Reply.bare .refusedRange) s)) ∧
      exec (.zoneReset p b) s = .next (deliver p.line 0x11 (Reply.bare .refusedRange) s)) ∧
    ∀ b z d, zoneOf b = some z → s.zoneDef z = some d → d.reportedBy p = false →
      (s.configFault = false → exec (.zoneAlarm p b) s = .next (deliver p.line 0x10 (Reply.bare .refusedRange) s)) ∧
      exec (.zoneReset p b) s = .next (deliver p.line 0x11 (Reply.bare .refusedRange) s)) ∧
  (∀ s : State, s.takes .override →
    (s.configFault = true →
      ∀ a c v, exec (.overrideSet a c v) s = .next (deliver .override 0x20 (Reply.bare .refusedConfig) s)) ∧
    (∀ b, s.configuredActuator b = none →
      (s.configFault = false →
        ∀ c v, exec (.overrideSet b c v) s = .next (deliver .override 0x20 (Reply.bare .refusedRange) s)) ∧
      (b ≠ 0xFF → exec (.overrideRelease b) s = .next (deliver .override 0x21 (Reply.bare .refusedRange) s))) ∧
    ∀ b a c v, s.configuredActuator b = some a → s.configFault = false →
      (matchingCommand (s.record a) c v = none →
        exec (.overrideSet b c v) s = .next (deliver .override 0x20 (Reply.bare .refusedForm) s)) ∧
      (∀ n, matchingCommand (s.record a) c v = some (.run n) → 1000 < n →
        exec (.overrideSet b c v) s = .next (deliver .override 0x20 (Reply.bare .refusedRange) s))) ∧
  (∀ (s : State) (l : Line), s.takes l → l = .override ∨ l = .building → ∀ b, s.configuredActuator b = none →
    exec (.faultClear l b) s = .next (deliver l 0x24 (Reply.bare .refusedRange) s)) ∧
  ∀ s : State, s.takes .building →
    (s.configFault = true →
      (∀ z r, exec (.testStart z r) s = .next (deliver .building 0x33 (Reply.bare .refusedConfig) s)) ∧
      (∀ a c v, exec (.normalSet a c v) s = .next (deliver .building 0x30 (Reply.bare .refusedConfig) s)) ∧
      (∀ body, exec (.normalGroup body) s = .next (deliver .building 0x32 (Reply.bare .refusedConfig) s))) ∧
    (∀ b, s.configuredActuator b = none →
      (s.configFault = false →
        ∀ c v, exec (.normalSet b c v) s = .next (deliver .building 0x30 (Reply.bare .refusedRange) s)) ∧
      exec (.normalRelease b) s = .next (deliver .building 0x31 (Reply.bare .refusedRange) s)) ∧
    (∀ b a c v, s.configuredActuator b = some a → s.configFault = false → matchingCommand (s.record a) c v = none →
      exec (.normalSet b c v) s = .next (deliver .building 0x30 (Reply.bare .refusedForm) s)) ∧
    (∀ b, s.configuredZone b = none →
      (s.configFault = false →
        ∀ r, exec (.testStart b r) s = .next (deliver .building 0x33 (Reply.bare .refusedRange) s)) ∧
      exec (.testEnd b) s = .next (deliver .building 0x34 (Reply.bare .refusedRange) s)) ∧
    (∀ b z code, s.configuredZone b = some z → s.configFault = false →
      (testReasonOf code = none →
        exec (.testStart b code) s = .next (deliver .building 0x33 (Reply.bare .refusedForm) s)) ∧
      (testReasonOf code = some .commissioning → s.key.debounced ≠ .on →
        exec (.testStart b code) s = .next (deliver .building 0x33 (Reply.bare .refusedKey) s)) ∧
      (∀ why, testReasonOf code = some why → why ≠ .commissioning ∨ s.key.debounced = .on →
        (∃ y, (s.zone y).mode ≠ .none) →
        exec (.testStart b code) s = .next (deliver .building 0x33 (Reply.bare .refusedState) s))) ∧
    (∀ body, body.length ≠ 5 →
      exec (.configRead body) s = .next (deliver .building 0x40 (Reply.bare .refusedForm) s)) ∧
    (∀ body, body.length < 4 ∨ 99 < body.length →
      exec (.configWrite body) s = .next (deliver .building 0x41 (Reply.bare .refusedForm) s)) ∧
    (∀ code hi lo chunk, 1 ≤ chunk.length → chunk.length ≤ 96 → s.store.writing ≠ none →
      exec (.configWrite (code :: hi :: lo :: chunk)) s = .next (deliver .building 0x41 (Reply.bare .busy) s)) ∧
    (s.store.writing = none → ∀ code,
      (sectorOf code = none →
        (∀ source hi lo len, exec (.configRead [code, source, hi, lo, len]) s =
          .next (deliver .building 0x40 (Reply.bare .refusedRange) s)) ∧
        (∀ hi lo chunk, 1 ≤ chunk.length → chunk.length ≤ 96 →
          exec (.configWrite (code :: hi :: lo :: chunk)) s =
            .next (deliver .building 0x41 (Reply.bare .refusedRange) s)) ∧
        exec (.configActivateApply code) s = .next (deliver .building 0x42 (Reply.bare .refusedRange) s) ∧
        exec (.configActivateDiscard code) s = .next (deliver .building 0x42 (Reply.bare .refusedRange) s)) ∧
      ∀ sec hi lo, sectorOf code = some sec →
        (let offset := (hi ++ lo : BitVec 16).toNat;
          (∀ source len, sectorSize sec < offset + len.toNat → exec (.configRead [code, source, hi, lo, len]) s =
            .next (deliver .building 0x40 (Reply.bare .refusedRange) s)) ∧
          (∀ source len, offset + len.toNat ≤ sectorSize sec →
            (source ≠ 0x01 ∧ source ≠ 0x02) ∨ len.toNat < 1 ∨ 96 < len.toNat →
            exec (.configRead [code, source, hi, lo, len]) s =
              .next (deliver .building 0x40 (Reply.bare .refusedForm) s)) ∧
          ∀ chunk, 1 ≤ chunk.length → chunk.length ≤ 96 → sectorSize sec < offset + chunk.length →
            exec (.configWrite (code :: hi :: lo :: chunk)) s =
              .next (deliver .building 0x41 (Reply.bare .refusedRange) s)))

/-! ## Overrides and stand-down -/

/-- An OVERRIDE-SET that passes its checks leaves its claim the HEAD and its command the target, whatever the zones then do: no stage that
the engine issues at the same event outranks it (R24, R28, R152). The claim is placed by R22, R23 or R24, the drive takes the target
by its own rules (R29), and nothing but that list, its drive, its map entries and the override count differs before the engine goes
on; the count grows by one exactly where the list held no OVERRIDE claim. -/
def Obligations.AnOverrideGoverns : Prop :=
  ∀ (b code : Byte) (v : Half) (a : Fin 64) (cmd : Command) (s : State), s.takes .override → s.configFault = false →
    s.configuredActuator b = some a → matchingCommand (s.record a) code v = some cmd → speedInRange cmd = true →
    (∀ c ∈ (s.claimList a).claims.tail, c.src ≠ .override) →
    (s.claimList a).target = deriveTarget (restCommand (s.record a)) (s.claimList a).claims →
    ∃ w pl shed, (let t := settled w
      exec (.overrideSet b code v) s =
        .next (deliver .override 0x20
          { result := if pl = .same then .noChange else .done, body := .overrideSet pl shed (some cmd) } t) ∧
      (t.claimList a).target = some cmd ∧ (t.claimList a).claims.head? = some ⟨.override, cmd⟩ ∧
      (∀ old, claimOf (s.claimList a).claims .override = some old →
        pl = (if old.cmd = cmd then .same else .replaced) ∧ shed = none ∧ t.overrides = s.overrides) ∧
      (claimOf (s.claimList a).claims .override = none →
        pl = .placed ∧ t.overrides = s.overrides + 1 ∧
          shed = if (s.claimList a).claims.length < 6 then none else (s.claimList a).claims.getLast?.map (·.src)) ∧
      OnlyList a s { w.st with overrides := s.overrides } ∧
      (w.st.claimList a).claims = (placeClaim s.activation (s.claimList a).claims .override cmd).1 ∧
      ((w.st.claimList a).normalShed = true ↔ (s.claimList a).normalShed = true ∨ shed = some .normal) ∧
      t.activation = s.activation ∧ t.standDown = s.standDown ∧ t.store = s.store ∧ t.plant = s.plant ∧
      t.sequences = s.sequences)

/-- OVERRIDE-RELEASE withdraws the OVERRIDE claim of one actuator, or with FFh of every list, and no other override, each with re-offer,
and the target is derived anew from the list that leaves (R26, R27, R28, R154); the drives take their targets by their own rules; the
count follows, and the answer carries the target, or the number withdrawn. With no zone active, the release of the last override has a
PENDING image applied (R155, R187). Where there is no override it is answered NO-CHANGE and changes nothing. The model's own choices
in it: log 25. -/
def Obligations.ReleaseWithdrawsOverrides : Prop :=
  ∀ (s : State), s.takes .override → s.overrides = overrideLists s →
    (let left (a : Fin 64) (v : State) : Prop :=
        (v.claimList a).claims = reoffer s a ((s.claimList a).claims.filter (fun c => c.src != .override)) ∧
          (v.claimList a).target = deriveTarget (restCommand (s.record a)) (v.claimList a).claims
      let noneWaits := s.store.plant.activation ≠ .pending ∧ s.store.sequences.activation ≠ .pending;
      (∀ b a, s.configuredActuator b = some a →
        (s.overridden a = false →
          exec (.overrideRelease b) s =
            .next (deliver .override 0x21 { result := .noChange, body := .target (s.claimList a).target } s)) ∧
        (s.overridden a = true →
          ∃ v w, (let t := settled w
            exec (.overrideRelease b) s =
              .next (deliver .override 0x21 { result := .done, body := .target (t.claimList a).target } t) ∧
            OnlyList a s v ∧ left a v ∧
            (noneWaits ∨ s.activation ≠ [] ∨ s.overrides ≠ 1 → w.st = { v with overrides := s.overrides - 1 }) ∧
            PendingApplied s t ∧ t.overridden a = false ∧ (∀ c, c ≠ a → t.overridden c = s.overridden c) ∧
            t.overrides = s.overrides - 1 ∧ t.activation = s.activation))) ∧
      ((∀ a, s.overridden a = false) →
        exec (.overrideRelease 0xFF) s =
          .next (deliver .override 0x21 { result := .noChange, body := .released 0 } s)) ∧
      ((∃ a, s.overridden a = true) →
        ∃ w, (let t := settled w
          exec (.overrideRelease 0xFF) s =
            .next (deliver .override 0x21 { result := .done, body := .released (overrideLists s) } t) ∧
          (noneWaits ∨ s.activation ≠ [] → ∀ a,
            (s.overridden a = false → w.st.claimList a = s.claimList a ∧ w.st.drive a = s.drive a) ∧
            (s.overridden a = true → left a w.st ∧ DriveFollows a s w.st)) ∧
          PendingApplied s t ∧ (∀ a, t.overridden a = false) ∧ t.overrides = 0 ∧ t.activation = s.activation)))

/-- STAND-DOWN by the first case that holds (R156): SET already, the option is replaced alone; no FIRE run RUNNING, nothing;
otherwise it is SET with the option, and every RUNNING FIRE zone and no other is held, its timers frozen with the time they had
left rounded up to the next whole 0.1 s (R77), with every claim and drive left as it was. An undefined option is refused. The model's own choices in it: log 26. -/
def Obligations.StandDownHoldsTheRunningFires : Prop :=
  ∀ (code : Byte) (s : State), s.takes .override →
    (standDownOptionOf code = none →
      exec (.standDown code) s = .next (deliver .override 0x22 { result := .refusedForm, body := .plain } s)) ∧
    ∀ opt, standDownOptionOf code = some opt →
      (s.standDown = true →
        exec (.standDown code) s =
          .next (deliver .override 0x22 { result := .noChange, body := .standDown true (some opt) s.heldCount }
            (if s.standDownOption = some opt then s else { s with standDownOption := some opt }.raiseFlags))) ∧
      (s.standDown = false → (∀ z, s.fireRunning z = false) →
        exec (.standDown code) s =
          .next (deliver .override 0x22
            { result := .noChange, body := .standDown false s.standDownOption s.heldCount } s)) ∧
      (s.standDown = false → (∃ z, s.fireRunning z = true) →
        ∃ t, exec (.standDown code) s =
            .next (deliver .override 0x22 { result := .done, body := .standDown true (some opt) t.heldCount } t) ∧
          (∀ z, t.zone z =
            if s.fireRunning z = true ∧ (s.zone z).held = false then
              { s.zone z with
                held := true
                stage :=
                  if (s.zone z).suspended then (s.zone z).stage else (s.zone z).stage.map (freezeStage s.now) }
            else s.zone z) ∧
          (∀ z cs, s.fireRunning z = true → (s.zone z).held = false → (s.zone z).suspended = false →
            (s.zone z).stage = some cs → ∃ x, (t.zone z).stage = some x ∧ StageFrozen s.now cs x) ∧
          (∃ zs ps, t = { s with standDown := true, standDownOption := some opt, zones := zs, ports := ps }) ∧
          SamePorts s t ∧ FlagsSet t)

/-- RESUME of a stand-down that is SET releases it (R159, R160): OFF, no option, no zone held, each zone that was held and is not
suspended brought forward with its frozen timers running on from the time they kept (R77, R78), and every change flag set, with the
overrides and the Activation List kept; with stand-down OFF it is answered NO-CHANGE and changes nothing. -/
def Obligations.ResumeReleasesStandDown : Prop :=
  ∀ (s : State), s.takes .override →
    (s.standDown = false →
      exec .resume s = .next (deliver .override 0x23 { result := .noChange, body := .resumed false } s)) ∧
    (s.standDown = true →
      ∃ w, (let t := settled w
        exec .resume s = .next (deliver .override 0x23 { result := .done, body := .resumed false } t) ∧
        StandDownReleased s w.st ∧ t.standDown = false ∧ t.standDownOption = none ∧ (∀ z, (t.zone z).held = false) ∧
        (∀ z, (t.zone z).mode = (s.zone z).mode ∧ (t.zone z).suspended = (s.zone z).suspended) ∧
        t.activation = s.activation ∧ t.overrides = s.overrides ∧ t.store = s.store ∧ FlagsSet t))

/-- FAULT-CLEAR of a damper clears its fault, latching INPUT-FAULT again while a named switch is faulted, and has an IDLE drive that is
not proven at its target act on it as on a target change (R87, R93, R102, R171); of a fan, it clears the fault and the attempts and
starts or stops a FAILED fan, INPUT-FAULT standing again while its input is faulted (R120, R121, R171). Only the drive, and what the
engine makes of it, differs. That a fault which INPUT-FAULT replaces at that event is handed to the engine as a clearing, for a STOPPED
zone to be judged by, is the model's choice (log 33: R75 and R98 do not say); its other choices: log 17, log 18, log 20, log 29. -/
def Obligations.FaultClearRedrives : Prop :=
  ∀ (l : Line) (b : Byte) (a : Fin 64) (s : State), s.takes l → l = .override ∨ l = .building →
    s.configuredActuator b = some a →
    (∀ d ctx, s.drive a = .damper d → s.damperCtx a = some ctx →
      ∃ d', (let t := settled (driveEnded a (.damper d) (.damper d') s)
          exec (.faultClear l b) s =
            .next (deliver l 0x24
              { result :=
                  if d.fault.isSome = true ∨ ((drivingSide d.state).isNone = true ∧ (drivingSide d'.state).isSome = true)
                  then .done else .noChange
                body := faultItems t a } t)) ∧
        d'.fault = (if ctx.anyFaulted then some .inputFault else none) ∧ d'.target = d.target ∧ d'.history = d.history ∧
        (d.state ≠ .idle ∨ positionProves ctx.mode d.position d.target = true → Stays d d') ∧
        (d.state = .idle → positionProves ctx.mode d.position d.target = false → ActsOnTarget ctx d.target d d')) ∧
    (∀ f ctx, s.drive a = .fan f → s.fanCtx a = some ctx →
      ∃ f', (let t := settled (driveEnded a (.fan f) (.fan f') s)
          exec (.faultClear l b) s =
            .next (deliver l 0x24
              { result := if f.fault.isSome = true ∨ f.attempts ≠ 0 then .done else .noChange
                body := faultItems t a } t)) ∧
        f'.attempts = 0 ∧ f'.target = f.target ∧
        (f.state ≠ .failed → f' = { f with fault := none, attempts := 0 }) ∧
        (f.state = .failed → ctx.inputFaulted = true → FanInputFailed { f with attempts := 0 } f') ∧
        (f.state = .failed → ctx.inputFaulted = false → f.target.isRun = true → FanStarts ctx f f') ∧
        (f.state = .failed → ctx.inputFaulted = false → f.target.isRun = false → FanStops ctx f')) ∧
    (s.drive a = .none → s.activation = [] →
      exec (.faultClear l b) s = .next (deliver l 0x24 { result := .noChange, body := faultItems s a } s))

/-! ## NORMAL requests -/

/-- A NORMAL-SET that passes its checks places the NORMAL claim by R22, R23 or R24 with a RUN speed above 1000 taken as 1000, and touches
that list, its drive and its map entries alone; the NORMAL-SHED mark reads set exactly where the claim was shed at once (R32). -/
def Obligations.NormalSetPlacesItsClaim : Prop :=
  ∀ (b code : Byte) (v : Half) (a : Fin 64) (cmd : Command) (s : State), s.takes .building → s.configFault = false →
    s.configuredActuator b = some a → matchingCommand (s.record a) code v = some cmd →
    (s.claimList a).target = deriveTarget (restCommand (s.record a)) (s.claimList a).claims →
    ∃ w, (let p := placeClaim s.activation (s.claimList a).claims .normal (capSpeed cmd)
        exec (.normalSet b code v) s =
            .next (deliver .building 0x30
              { result := p.2.result, body := .normalSet p.2.placement ((settled w).claimList a).target } (settled w)) ∧
          (w.st.claimList a).claims = p.1 ∧
          (w.st.claimList a).target = deriveTarget (restCommand (s.record a)) p.1 ∧
          ((w.st.claimList a).normalShed = true ↔ p.2 = .shedAtOnce) ∧
          ((w.st.claimList a).target = (s.claimList a).target → w.st.drive a = s.drive a)) ∧
      OnlyList a s w.st

/-- NORMAL-RELEASE by its three cases (R33): a held NORMAL claim is withdrawn with re-offer and the target derived anew; with the
NORMAL-SHED mark alone the mark is cleared; otherwise NO-CHANGE. The mark reads clear in every case. -/
def Obligations.NormalReleaseWithdraws : Prop :=
  ∀ (b : Byte) (a : Fin 64) (s : State), s.takes .building → s.configuredActuator b = some a →
    (∀ c, claimOf (s.claimList a).claims .normal = some c →
      ∃ w, exec (.normalRelease b) s =
          .next (deliver .building 0x31 { result := .done, body := .target ((settled w).claimList a).target } (settled w)) ∧
        (w.st.claimList a).claims =
          reoffer s a ((s.claimList a).claims.filter (fun c => c.src != .normal)) ∧
        (w.st.claimList a).target = deriveTarget (restCommand (s.record a)) (w.st.claimList a).claims ∧
        (w.st.claimList a).normalShed = false ∧ OnlyList a s w.st) ∧
    (claimOf (s.claimList a).claims .normal = none → (s.claimList a).normalShed = true →
      exec (.normalRelease b) s =
        .next (deliver .building 0x31 { result := .done, body := .target (s.claimList a).target }
          (s.setList a { s.claimList a with normalShed := false }))) ∧
    (claimOf (s.claimList a).claims .normal = none → (s.claimList a).normalShed = false →
      exec (.normalRelease b) s =
        .next (deliver .building 0x31 { result := .noChange, body := .target (s.claimList a).target } s))

/-- A NORMAL-GROUP that passes its checks leaves the state that a NORMAL-SET of each pair in turn leaves, with one placement and
one target per pair, DONE exactly if one of those is; the first failing check refuses the whole group and changes nothing (R34,
R35). That check 5 reports the lowest index whose actuator an earlier pair names, where more than one actuator is repeated, is the
model's choice (log 37); its other choices: log 25. -/
def Obligations.AGroupIsItsNormalSets : Prop :=
  ∀ (body : List Byte) (s : State), s.takes .building → s.configFault = false →
    (groupOf body = none →
      exec (.normalGroup body) s = .next (deliver .building 0x32 { result := .refusedForm, body := .plain } s)) ∧
    ∀ pairs, groupOf body = some pairs →
      (∀ i p, pairs[i]? = some p → s.configuredActuator p.actuator = none →
        (∀ j q, j < i → pairs[j]? = some q → (s.configuredActuator q.actuator).isSome = true) →
        exec (.normalGroup body) s =
          .next (deliver .building 0x32 { result := .refusedRange, body := .failingPair i } s)) ∧
      ((∀ q ∈ pairs, (s.configuredActuator q.actuator).isSome = true) →
        (∀ i p, pairs[i]? = some p → s.pairCommand p = none →
          (∀ j q, j < i → pairs[j]? = some q → (s.pairCommand q).isSome = true) →
          exec (.normalGroup body) s =
            .next (deliver .building 0x32 { result := .refusedForm, body := .failingPair i } s)) ∧
        ((∀ q ∈ pairs, (s.pairCommand q).isSome = true) →
          (∀ i, ¬ ((pairs.take (i + 1)).map (·.actuator)).Nodup →
            ((pairs.take i).map (·.actuator)).Nodup →
            exec (.normalGroup body) s =
              .next (deliver .building 0x32 { result := .refusedForm, body := .failingPair i } s)) ∧
          ((pairs.map (·.actuator)).Nodup →
            ∃ items, (let run := groupRun pairs s
              exec (.normalGroup body) s =
                  .next (deliver .building 0x32
                    { result := if run.2.any (fun x => x.result == .done) then .done else .noChange
                      body := .normalGroup items } run.1) ∧
                items.length = pairs.length ∧
                ∀ (i : Nat) (p : GroupPair) (x : Placement × Option Command), pairs[i]? = some p → items[i]? = some x →
                  (∃ (y : Reply) (target : Option Command), run.2[i]? = some y ∧ y.body = .normalSet x.1 target) ∧
                    ∀ a, actuatorOf p.actuator = some a → x.2 = (run.1.claimList a).target))))

/-! ## The Configuration Store -/

/-- CONFIG-READ of a well-formed body while no sector is WRITING shows the mark, the activation state and the bytes asked for, and
changes nothing; while a sector is WRITING it is BUSY; STAGING without a staging image is refused (R182). The model's own choices
in it: log 15. -/
def Obligations.ConfigReadShowsTheBytes : Prop :=
  ∀ (code source hi lo len : Byte) (s : State), s.takes .building →
    (s.store.writing ≠ none →
      exec (.configRead [code, source, hi, lo, len]) s =
        .next (deliver .building 0x40 { result := .busy, body := .plain } s)) ∧
    (∀ sec, s.store.writing = none → sectorOf code = some sec → (hi ++ lo : BitVec 16).toNat + len.toNat ≤ sectorSize sec →
      1 ≤ len.toNat → len.toNat ≤ 96 →
      (source = 0x02 → (s.store.sector sec).staging = none →
        exec (.configRead [code, source, hi, lo, len]) s =
          .next (deliver .building 0x40 { result := .refusedState, body := .plain } s)) ∧
      ∀ img, (source = 0x01 ∧ img = (s.store.sector sec).stored) ∨
          (source = 0x02 ∧ (s.store.sector sec).staging = some img) →
        ∃ bytes, exec (.configRead [code, source, hi, lo, len]) s =
            .next (deliver .building 0x40
              { result := .done
                body := .configRead (s.store.sector sec).valid (s.store.sector sec).activation bytes } s) ∧
          bytes.length = len.toNat ∧
          ∀ i, i < len.toNat → bytes[i]? = some (readByte sec img ((hi ++ lo : BitVec 16).toNat + i)))

/-- A CONFIG-WRITE with the key ON replaces the staging image's bytes from its offset on, made first from the stored image under a VALID
mark and from the blank image under an INVALID one, and touches nothing but that staging image; the image stays in canonical form;
with the key not ON it is refused REFUSED-KEY and changes nothing (R183). -/
def Obligations.ConfigWriteTouchesStagingAlone : Prop :=
  ∀ (code hi lo : Byte) (chunk : List Byte) (sec : Sector) (s : State), s.takes .building → StoreSound s →
    s.store.writing = none → sectorOf code = some sec → 1 ≤ chunk.length → chunk.length ≤ 96 →
    (hi ++ lo : BitVec 16).toNat + chunk.length ≤ sectorSize sec →
    (s.keyOn = false →
      exec (.configWrite (code :: hi :: lo :: chunk)) s =
        .next (deliver .building 0x41 { result := .refusedKey, body := .plain } s)) ∧
    (s.keyOn = true →
      ∃ img, exec (.configWrite (code :: hi :: lo :: chunk)) s =
          .next (deliver .building 0x41
            { result := .done, body := .configWrite sec (hi ++ lo : BitVec 16).toNat chunk.length }
            { s with store := s.store.setSector sec { s.store.sector sec with staging := some img } }) ∧
        Memory.wf sec img = true ∧
        ∀ o, readByte sec img o =
          if (hi ++ lo : BitVec 16).toNat ≤ o ∧ o < (hi ++ lo : BitVec 16).toNat + chunk.length then
            chunk.getD (o - (hi ++ lo : BitVec 16).toNat) 0
          else
            readByte sec
              ((s.store.sector sec).staging.getD (if (s.store.sector sec).valid then (s.store.sector sec).stored else [])) o)

/-- CONFIG-ACTIVATE (R185): an APPLY of a staging image that passes validation, with every zone NORMAL and no override standing or
for IDENTITY, makes the mark INVALID and begins the write of the staging image, whose bytes of no record are cleared; a failed
validation is refused with its item and reason; a zone or an override refuses PLANT and SEQUENCES; DISCARD drops the staging image; a
write in progress is BUSY. A pass establishes every range and cross-check of the image, with the limits of each fan ordered, no
terminal named twice, each scaling's and each stage's fields in range, and each stage's commands of their actuators' kinds (R10, R40,
R60, R61, R140, R184), and the image that is written lays out the same definitions. In CONFIG-FAULT the definitions follow the mark that
the write makes INVALID (R13, R58). The model's own choices in it: log 15, log 16, log 36, log 39. -/
def Obligations.ActivationBeginsTheWrite : Prop :=
  ∀ (code : Byte) (sec : Sector) (s : State), s.takes .building → sectorOf code = some sec →
    (s.store.writing ≠ none →
      exec (.configActivateApply code) s = .next (deliver .building 0x42 { result := .busy, body := .plain } s) ∧
      exec (.configActivateDiscard code) s = .next (deliver .building 0x42 { result := .busy, body := .plain } s)) ∧
    (s.store.writing = none → (s.store.sector sec).staging = none →
      exec (.configActivateApply code) s =
        .next (deliver .building 0x42 { result := .refusedState, body := .plain } s) ∧
      exec (.configActivateDiscard code) s =
        .next (deliver .building 0x42 { result := .noChange, body := .plain } s)) ∧
    ∀ img, s.store.writing = none → (s.store.sector sec).staging = some img →
      exec (.configActivateDiscard code) s =
        .next (deliver .building 0x42 { result := .done, body := .plain }
          { s with store := s.store.setSector sec { s.store.sector sec with staging := none } }) ∧
      (∀ item why, validate sec img (s.store.reference sec.crossed) = some (item, why) →
        exec (.configActivateApply code) s =
          .next (deliver .building 0x42 { result := .refusedConfig, body := .invalid item why } s)) ∧
      (validate sec img (s.store.reference sec.crossed) = none →
        ImagePassed sec img (s.store.reference sec.crossed) ∧
        ∃ x, (∀ o, readByte sec x o = if byteBelongs sec img o then readByte sec img o else blankByte sec o) ∧
          SameDefinitions sec x img ∧
          (sec ≠ .identity → ((∃ z, (s.zone z).mode ≠ .none) ∨ s.overrides ≠ 0) →
            exec (.configActivateApply code) s =
              .next (deliver .building 0x42 { result := .refusedState, body := .plain }
                { s with store := s.store.setSector sec { s.store.sector sec with staging := some x } })) ∧
          (sec = .identity ∨ ((∀ z, (s.zone z).mode = .none) ∧ s.overrides = 0) →
            ∃ t, exec (.configActivateApply code) s =
                .next (deliver .building 0x42 { result := .done, body := .writing sec } t) ∧
              t.store = s.store.setSector sec
                { valid := false, activation := .writing, stored := (s.store.sector sec).stored, staging := some x } ∧
              (sec = .identity ∨ s.configFault = false → t = { s with store := t.store }) ∧
              (sec ≠ .identity → s.configFault = true → FollowsMarks s t)))

/-- The completion of a write leaves the staging image stored under a VALID mark (R186): IDENTITY is applied at once; PLANT and
SEQUENCES are applied at once with no zone active and no override, and are PENDING otherwise. A PLANT application empties the lists to
their REST targets, creates the drive of a changed record with off-since and restart bar at this event, hands an unchanged drive its
changed target, and judges a rescaled channel anew (R11, R39, R107, R130, R134, R144). In CONFIG-FAULT the completion that leaves both
marks VALID ends the condition with every drive created, and any other leaves it, with the definitions by the marks (R13, R189). A
PENDING image is applied only where no zone is left active and no override standing, or goes with the working memory (R42, R155,
R187). That an application leaves every applied duty code until its output's next frame boundary is the model's choice (log 23), and so
is that a channel keeps its last valid value at the end of CONFIG-FAULT (log 19: R145's column followed, R144 read apart); its other
choices: log 15, log 18, log 35. -/
def Obligations.WriteCompletes : Prop :=
  (∀ (s : State), s.power = .running →
    (s.store.writing = none → exec .writeCompletion s = .next s) ∧
    ∀ sec img, s.store.writing = some sec → (s.store.sector sec).staging = some img →
      (let x : SectorState := { valid := true, activation := .none, stored := img, staging := none };
        (sec = .identity →
          ∃ t, exec .writeCompletion s = .next t ∧ t.store = s.store.setSector sec x ∧ t.siteCode = some (siteCodeOf img) ∧
            (∀ l, l.supervised = true → (t.port l).supervisionTime = supervisionTimeOf img l ∧
              ((s.port l).line = .live →
                (t.port l).supervisionTimer = some (s.now + tenthsToMs (supervisionTimeOf img l)))) ∧
            (∃ ps, t = { s with store := s.store.setSector sec x, siteCode := some (siteCodeOf img), ports := ps })) ∧
        (sec ≠ .identity → s.configFault = false → (s.activation ≠ [] ∨ s.overrides ≠ 0) →
          exec .writeCompletion s =
            .next { s with store := s.store.setSector sec { x with activation := .pending } }) ∧
        (sec = .plant → s.configFault = false → s.activation = [] → s.overrides = 0 →
          ∃ t, exec .writeCompletion s = .next t ∧ t.store = s.store.setSector sec x ∧ PlantInForce (plantOf img) t ∧
            (∀ a, s.record a ≠ t.record a → DriveCreated t (some t.now) a (t.drive a)) ∧
            (∀ a, s.record a = t.record a → (∀ c, provesOn c (s.record a) = true → t.channel c = s.channel c) →
              ((s.claimList a).target = (t.claimList a).target ∨ (t.claimList a).target = none → t.drive a = s.drive a) ∧
              ∀ c, (t.claimList a).target = some c → (s.claimList a).target ≠ some c →
                TargetTaken t a c (s.drive a) (t.drive a)) ∧
            t.sequences = s.sequences ∧ t.zones = s.zones ∧ t.applied = s.applied ∧ t.inputs = s.inputs ∧
            (∀ c, (s.plant.scalings[c] = t.plant.scalings[c] → t.channel c = s.channel c) ∧
              (s.plant.scalings[c] ≠ t.plant.scalings[c] →
                ChannelJudged t.plant.scalings[c] { s.channel c with lastValid := none } (t.channel c))) ∧
            FlagsSet t) ∧
        (sec = .sequences → s.configFault = false → s.activation = [] → s.overrides = 0 →
          exec .writeCompletion s =
            .next { s with store := s.store.setSector sec x, sequences := sequencesOf img }.raiseFlags) ∧
        (sec ≠ .identity → s.configFault = true →
          ∃ t, exec .writeCompletion s = .next t ∧ t.applied = s.applied ∧ t.ports = s.ports ∧
            (t.store.sector sec).stored = img ∧ (t.store.sector sec).valid = true ∧
            (t.store.sector sec).activation = .none ∧ (t.store.sector sec).staging = none ∧
            (t.configFault = false ↔ (s.store.sector sec.crossed).valid = true) ∧
            (t.configFault = true → FollowsMarks s t) ∧
            (t.configFault = false → PlantInForce (plantOf t.store.plant.stored) t ∧
              t.sequences = sequencesOf t.store.sequences.stored ∧
              (∀ c, ChannelJudged t.plant.scalings[c] (s.channel c) (t.channel c)) ∧
              ∀ a, DriveCreated t none a (t.drive a))))) ∧
  ∀ (c : Instr) (sec : Sector) (s t : State), ZonesSound s → s.configFault = false → sec ≠ .identity →
    (s.store.sector sec).activation = .pending → s.activation ≠ [] ∨ s.overrides ≠ 0 → exec c s = .next t →
    c ≠ .coldStart → c ≠ .powerLoss → c ≠ .supervisor → (∀ cause, c ≠ .warmRestartStart cause) →
    ((t.store.sector sec).activation = .pending ∧ (t.store.sector sec).stored = (s.store.sector sec).stored ∧
        SameInForce sec s t) ∨
      ((t.store.sector sec).activation = .none ∧ t.activation = [] ∧ t.overrides = 0)

/-! ## The lines -/

/-- A request command has exactly the effect and the answer of its good frame's request: the checks of R167 pass, and the block of
R167's table takes the body's bytes as R168 and R190 lay them out; on a port that is TAKING or ANSWERING another request it has none
(R165, R170). A request that fails a check of R167 is refused with its result alone and reaches no block, in this order: a kind
outside the table REFUSED-FORM, a kind its line may not send REFUSED-ROLE, a wrong fixed body length REFUSED-FORM. The model's own
choices in it: log 10. -/
def Obligations.ARequestIsItsFramesRequest : Prop :=
  (∀ (c : Instr) (l : Line) (kind : Byte) (s : State), c.wellFormed = true → c.request = some (l, kind) →
    (s.takes l →
      exec c s = .next (deliver l kind (dispatch l kind (requestBody c) s).2 (dispatch l kind (requestBody c) s).1)) ∧
    ((s.port l).reception = .taking ∨ (s.port l).reception = .answering → exec c s = .next s)) ∧
  ∀ (l : Line) (kind : Byte) (body : List Byte) (s : State),
    (kindKnown kind = false → dispatch l kind body s = (s, Reply.bare .refusedForm)) ∧
    (kindKnown kind = true → lineMaySend l kind = false → dispatch l kind body s = (s, Reply.bare .refusedRole)) ∧
    (kindKnown kind = true → lineMaySend l kind = true →
      ∀ n, fixedBodyLength kind = some n → body.length ≠ n → dispatch l kind body s = (s, Reply.bare .refusedForm))

/-- A complete frame received by a HUNTING port is judged at its last byte: with its CRC over bytes 1 to 3 + n and the line's role
code right, the line is LIVE, a supervised line's timer is restarted, and the request is dispatched and answered; otherwise it is
discarded with no effect but a port in HUNTING (R164, R165, R166, R173, R174). The model's own choices in it: log 10. -/
def Obligations.AFrameIsJudgedAtItsLastByte : Prop :=
  ∀ (l : Line) (role len kind crcHi crcLo : Byte) (body : List Byte) (s : State), s.power = .running →
    (s.port l).reception = .hunting → len.toNat ≤ 120 → body.length = len.toNat →
    (let frame := 0xA5 :: role :: len :: kind :: (body ++ [crcHi, crcLo])
      let good := role = l.roleCode ∧ crc (role :: len :: kind :: body) = crcHi ++ crcLo;
      (good →
        ∃ u, exec (.frameReceived l frame) s =
            .next (deliver l kind (dispatch l kind body u).2 (dispatch l kind body u).1) ∧
          (∃ ps, u = { s with ports := ps }) ∧ (u.port l).line = .live ∧ (u.port l).reception = .hunting ∧
          (u.port l).supervisionTimer =
            (if l.supervised then some (s.now + tenthsToMs (s.port l).supervisionTime)
             else (s.port l).supervisionTimer) ∧
          (∀ k, k ≠ l → (u.port k).raise = (s.port k).raise) ∧
          ((s.port l).line ≠ .live → FlagsSet u) ∧
          ((s.port l).line = .live → ∀ k, (u.port k).changeFlag = (s.port k).changeFlag)) ∧
      (¬ good →
        exec (.frameReceived l frame) s =
          .next (s.setPort l { s.port l with reception := .hunting, buffer := [], gapTimer := none })))

/-- A port takes each byte, byte error, break and gap-timer expiry by its reception state (R165). The model's own choices in it:
log 1. -/
def Obligations.APortActsByItsReceptionState : Prop :=
  ∀ (l : Line) (s : State), s.power = .running →
    (let p := s.port l
      let put (q : Port) : Host.Outcome State Fault Refusal := .next (s.setPort l q)
      let dropped : Port := { p with reception := .discarding, buffer := [], gapTimer := some (s.now + 2) };
      (p.reception = .hunting →
        exec (.byteReceived l (.byte 0xA5)) s =
            put { p with reception := .receiving, buffer := [0xA5], gapTimer := some (s.now + 2) } ∧
          (∀ b, b ≠ 0xA5 → exec (.byteReceived l (.byte b)) s = .next s) ∧
          exec (.byteReceived l .byteError) s = .next s ∧ exec (.byteReceived l .lineBreak) s = .next s) ∧
      (p.reception = .receiving →
        (∀ b, p.buffer.length = 2 → 120 < b.toNat → exec (.byteReceived l (.byte b)) s = put dropped) ∧
        (∀ b, p.buffer.length < 2 ∨ (p.buffer.length = 2 ∧ b.toNat ≤ 120) ∨
            (3 ≤ p.buffer.length ∧ p.buffer.length + 1 ≠ 6 + (p.buffer.getD 2 0).toNat) →
          exec (.byteReceived l (.byte b)) s =
            put { p with buffer := p.buffer ++ [b], gapTimer := some (s.now + 2) }) ∧
        (∀ b, 3 ≤ p.buffer.length → p.buffer.length + 1 = 6 + (p.buffer.getD 2 0).toNat →
          exec (.byteReceived l (.byte b)) s = .next (judgeFrame l (p.buffer ++ [b]) s)) ∧
        exec (.byteReceived l .byteError) s = put dropped ∧ exec (.byteReceived l .lineBreak) s = put dropped) ∧
      (p.reception = .discarding → ∀ r, exec (.byteReceived l r) s = put dropped) ∧
      (p.reception = .taking ∨ p.reception = .answering → ∀ r, exec (.byteReceived l r) s = .next s) ∧
      (p.gapTimer = none → exec (.gapTimerExpiry l) s = .next s) ∧
      ∀ t, p.gapTimer = some t →
        exec (.gapTimerExpiry l) s =
          .next ({ s with now := max s.now t }.setPort l
            { p with reception := .hunting, buffer := [], gapTimer := none }))

/-- RESTART is answered DONE while the key line reads ON and REFUSED-KEY otherwise, and changes nothing (R136, R172). A port in
TAKING begins its answer no sooner than 1 ms after the request, sending the answer's frame, its result code first in the body and its
CRC last (R164, R165, R169, R190), and is DISCARDING for 2.0 ms after the answer's last byte; after the DONE answer to a RESTART the
warm restart is due (R14, R172). In any other reception state neither event does anything. The model's own choices in it: log 1,
log 4, log 11. -/
def Obligations.TheRestartFollowsItsAnswer : Prop :=
  (∀ (s : State), s.takes .building →
    exec .restart s =
      .next (deliver .building 0x43
        { result := if s.key.debounced = .on then .done else .refusedKey, body := .plain } s)) ∧
  ∀ (l : Line) (s : State), s.power = .running →
    (let p := s.port l;
      (p.reception = .taking →
        ∃ bytes, exec (.answerBegin l) s =
            .next ({ s with now := max s.now (p.takenAt + 1) }.setPort l
              { p with reception := .answering, sending := bytes }) ∧
          ∀ a, p.answer = some a → FrameCarries l a bytes) ∧
      (p.reception ≠ .taking → exec (.answerBegin l) s = .next s) ∧
      (p.reception ≠ .answering → exec (.answerSent l) s = .next s) ∧
      (p.reception = .answering →
        ∃ t, exec (.answerSent l) s = .next t ∧
          t = { s.setPort l
              { p with
                reception := .discarding, buffer := [], gapTimer := some (s.now + 2), answer := none, sending := [] } with
            power := t.power } ∧
          (t.power = .restartDue ↔ ∃ body, p.answer = some { kind := 0x43, result := .done, body := body }) ∧
          (t.power ≠ .restartDue → t.power = .running)))

/-- The expiry of a line's supervision timer makes the line LOST and stops its timer, and a change of the line's state sets every
change flag; nothing else differs, but for the Override Line with stand-down SET, which is released with its zones brought forward
(R77, R78, R159, R161, R173, R174); where the timer is stopped nothing happens. The model's own choices in it: log 1. -/
def Obligations.SupervisionExpiryLosesTheLine : Prop :=
  ∀ (l : Line) (s : State), s.power = .running →
    ((s.port l).supervisionTimer = none → exec (.supervisionTimerExpiry l) s = .next s) ∧
    ∀ e, (s.port l).supervisionTimer = some e →
      (let u := { s with now := max s.now e }.setPort l { s.port l with line := .lost, supervisionTimer := none };
        (l ≠ .override ∨ s.standDown = false →
          exec (.supervisionTimerExpiry l) s = .next (if (s.port l).line = .lost then u else u.raiseFlags)) ∧
        (l = .override → s.standDown = true →
          ∃ w, (let t := settled w
            exec (.supervisionTimerExpiry l) s = .next t ∧ StandDownReleased u w.st ∧ SamePorts u w.st ∧
            t.now = max s.now e ∧ (t.port l).line = .lost ∧ (t.port l).supervisionTimer = none ∧
            t.standDown = false ∧ t.standDownOption = none ∧ (∀ z, (t.zone z).held = false) ∧
            t.overrides = s.overrides ∧ t.activation = s.activation ∧ FlagsSet t)))

/-! ## Power and restart -/

/-- A cold start on power leaves the part as its stored images give: a PLANT or SEQUENCES mark that is INVALID gives CONFIG-FAULT,
and otherwise both images are in force and every configured actuator has a drive (R12, R16, R37, R58, R137, R145, R149, R162,
R175). A loss of power de-energizes every output, drops every answer and every staging image, and keeps the validity marks, and
the stored images of the sectors that are not WRITING (R12, R170, R181, R188). The model's own choices in it: log 8. -/
def Obligations.PowerLossAndColdStart : Prop :=
  (∀ (s : State), ∃ t, exec .coldStart s = .next t ∧ StartedCold .power s t ∧
    (s.store.writing = none → ∀ sec, (t.store.sector sec).stored = (s.store.sector sec).stored) ∧
    (t.store.plant.valid = true → t.plant = plantOf t.store.plant.stored) ∧
    (t.store.sequences.valid = true → t.sequences = sequencesOf t.store.sequences.stored) ∧
    (t.store.identity.valid = true → t.siteCode = some (siteCodeOf t.store.identity.stored) ∧
      ∀ l, (t.port l).supervisionTime = supervisionTimeOf t.store.identity.stored l) ∧
    (t.store.identity.valid = false → t.siteCode = none ∧
      ∀ l, l.supervised = true → (t.port l).supervisionTime = 100) ∧
    (t.configFault = false → ∀ a, (t.drive a = .none ↔ t.record a = .unused))) ∧
  ∀ (s : State), ∃ t, exec .powerLoss s = .next t ∧ t.power = .unpowered ∧ t.pending = s.pending ∧
    (∀ r, t.relayOn r = false) ∧ (∀ o : Fin 16, t.applied[o] = 0) ∧ (∀ l, (t.port l).answer = none) ∧
    (∀ z, t.zone z = zoneAtRest) ∧ (∀ a, (t.claimList a).claims = []) ∧
    ∀ sec, (t.store.sector sec).valid = (s.store.sector sec).valid ∧ (t.store.sector sec).activation = .none ∧
      (t.store.sector sec).staging = none ∧
      ((s.store.sector sec).activation ≠ .writing → (t.store.sector sec).stored = (s.store.sector sec).stored)

/-- A warm restart begins when it is due after a RESTART, and at the supervisor's event on a powered part, also within a restart. The
kept state passes its check exactly where it meets every condition of R38, R59, R84, R108, R131 and R162; then nothing but the ports
and the start record differs, every answer is ended and every frame dropped; where it fails the part starts cold with cause
RETAINED-CHECK (R14, R16, R170). A restart command that finds nothing to restart does nothing: a WARM-RESTART-START on a request that
is not due, the supervisor without power, WARM-RESTART-END with none in progress. The model's own choices in it: log 7, log 14. -/
def Obligations.WarmRestartKeepsOrStartsCold : Prop :=
  (∀ s : State, retainedOk s = true ↔ Retained s) ∧
  (∀ (c : Instr) (cause : StartCause) (s : State),
    (c = .warmRestartStart .request ∧ cause = .request ∧ s.power = .restartDue) ∨
      ((c = .supervisor ∨ c = .warmRestartStart .supervisor) ∧ cause = .supervisor ∧ s.power ≠ .unpowered) →
    (Retained s →
      ∃ t, exec c s = .next t ∧
        (∃ ps, t = { s with power := .restarting, start := { kind := .warm, cause := cause }, ports := ps }) ∧
        ∀ l, t.port l =
          { s.port l with reception := .hunting, buffer := [], gapTimer := none, answer := none, sending := [] }) ∧
    (¬ Retained s → ∃ t, exec c s = .next t ∧ StartedCold .retainedCheck s t)) ∧
  ∀ (s : State),
    (s.power ≠ .restartDue → exec (.warmRestartStart .request) s = .next s) ∧
    (s.power = .unpowered → exec .supervisor s = .next s ∧ exec (.warmRestartStart .supervisor) s = .next s) ∧
    (s.power ≠ .restarting → exec .warmRestartEnd s = .next s)

/-- The end of a warm restart: the part runs, inputs and key read UNKNOWN, windows are empty and last valid values gone, the scan
begins at channel 0 (R138), the supply keeps its state with count 0, and the lines are SILENT with flags set and timers stopped (R15,
R137, R145, R149, R175). Definitions, store, stand-down, overrides and applied codes are kept, and of each zone its mode, sources and
held and suspended flags; the stage of a RUNNING zone re-enters by R83 and no other does; each drive keeps what R108 and R131 keep,
with its running timers at full length and an empty reversal history; PRESSURE-PROOF-UNAVAILABLE is set exactly for a fan with a pressure
channel (R112, R131), and a STOPPING fan that its channel's notice leaves without a source is STOPPED (R111, R119). Then the engine goes
on. The model's own choices in it: log 12 (the engine's part in the event), log 20 and log 21 (what the drives keep that R108 and R131
do not name), log 34 (the supply reading). -/
def Obligations.WarmRestartEndsKept : Prop :=
  ∀ (s : State), s.power = .restarting → DrivesSound s →
    ∃ w, (let t := settled w
      exec .warmRestartEnd s = .next t ∧ t.power = .running ∧ t.start = s.start ∧ t.pending = s.pending ∧
      t.now = s.now ∧ (∀ i : Fin 128, t.inputs[i] = inputAtReset) ∧ t.key = inputAtReset ∧
      (∀ c, (t.channel c).window = [] ∧ (t.channel c).lastValid = none ∧ (t.channel c).value = none ∧
        (t.channel c).status = if s.plant.scalings[c] = none then .unused else .unknown) ∧
      t.supply = { s.supply with count := 0 } ∧ t.scan = 0 ∧ t.filters = s.filters ∧
      (∀ l, (t.port l).line = .silent ∧ (t.port l).reception = .hunting ∧ (t.port l).answer = none ∧
        (t.port l).supervisionTimer = none ∧ (t.port l).changeFlag = true) ∧
      (∀ a d, t.drive a = .damper d → d.history = []) ∧
      (∀ z, (t.zone z).mode = (s.zone z).mode ∧ (t.zone z).sourceA = (s.zone z).sourceA ∧
        (t.zone z).sourceB = (s.zone z).sourceB ∧ (t.zone z).suspended = (s.zone z).suspended ∧
        (t.zone z).lastTest = (s.zone z).lastTest ∧ (t.zone z).lastFire = (s.zone z).lastFire) ∧
      t.plant = s.plant ∧ t.sequences = s.sequences ∧ t.store = s.store ∧ t.activation = s.activation ∧
      t.overrides = s.overrides ∧ t.standDown = s.standDown ∧ t.standDownOption = s.standDownOption ∧
      t.applied = s.applied ∧ t.configFault = s.configFault ∧
      (∀ a, w.st.claimList a = s.claimList a) ∧
      (∀ a d ctx, s.drive a = .damper d → s.damperCtx a = some ctx →
        ∃ d', w.st.drive a = .damper d' ∧ DamperRestarted ctx d d') ∧
      (∀ a f ctx, s.drive a = .fan f → s.fanCtx a = some ctx →
        ∃ f', w.st.drive a = .fan f' ∧
          FanRestarted ctx
            (∃ p, ctx.definition.pressure = some p ∧
              ((s.channel p.channel).status ≠ (t.channel p.channel).status ∨ (s.channel p.channel).value ≠ none)) f f') ∧
      ∀ z, ∃ st, w.st.zone z = { s.zone z with stage := st } ∧
        ((s.zone z).phase ≠ .running → st = (s.zone z).stage) ∧
        ((s.zone z).phase = .running → (st = none ↔ (s.zone z).stage = none) ∧
          ∀ cs x, (s.zone z).stage = some cs → st = some x → StageReentered s (s.zone z) cs x))

/-! ## Samples and conversions -/

/-- A sample of an input makes its band the candidate with its run counted up to 15, and the debounced state follows once the run
reaches F (R132, R133, R134); no other input differs, and where the debounced state stays nothing else of the part does (R135). A new
debounced state reaches the drive of the record that names the input: a switch ends travel on arrival, is judged for the proven
position and the switch faults (R89, R96, R100, R101), a run-proof input is judged for proof (R111, R114, R115, R119, R120). The key
line is judged with F = 5, and nothing else follows (R136). The bands in microamperes are the model's own reading of R132 (log 9); its
other choices: log 12, log 20. -/
def Obligations.InputsAreDebounced : Prop :=
  ∀ (i : Fin 128) (current : Nat) (s : State), s.power = .running →
    (let sampled (filterCount : Nat) (old new : InputState) : Prop :=
        ∃ band, new.candidate = some band ∧
          (band = .openCircuit ↔ current < 1500) ∧ (band = .off ↔ 1500 ≤ current ∧ current < 5000) ∧
          (band = .on ↔ 5000 ≤ current ∧ current < 16000) ∧ (band = .short ↔ 16000 ≤ current) ∧
          new.run = (if old.candidate = some band then min (old.run + 1) 15 else 1) ∧
          (new.run < filterCount → new.debounced = old.debounced) ∧
          (filterCount ≤ new.run →
            (band = .openCircuit → new.debounced = .openFault) ∧ (band = .off → new.debounced = .off) ∧
              (band = .on → new.debounced = .on) ∧ (band = .short → new.debounced = .shortFault));
      (∃ t, (let u := { s with inputs := t.inputs }
        let reading := t.inputs[i].debounced
        exec (.inputSample i current) s = .next t ∧ sampled (s.filterCount i) s.inputs[i] t.inputs[i] ∧
        (∀ j : Fin 128, j ≠ i → t.inputs[j] = s.inputs[j]) ∧
        (reading = s.inputs[i].debounced → t = u) ∧
        (reading ≠ s.inputs[i].debounced →
          (∀ a d ctx, s.namingRecord i = some a → s.drive a = .damper d → u.damperCtx a = some ctx →
            ∃ side d', NamesSwitch (s.record a) side i ∧ SwitchTaken ctx side reading d d' ∧
              t = settled (driveEnded a (.damper d) (.damper d') u)) ∧
          (∀ a f ctx, s.namingRecord i = some a → s.drive a = .fan f → u.fanCtx a = some ctx →
            ∃ f', FanInputTaken ctx reading f f' ∧ t = settled (driveEnded a (.fan f) (.fan f') u)) ∧
          ((∀ a, s.namingRecord i = some a → s.drive a = .none) → t = settled (Work.start u))) ∧
        t.key = s.key ∧ t.channels = s.channels ∧ t.supply = s.supply ∧ t.activation = s.activation)) ∧
      ∃ k, exec (.keyLineSample current) s = .next { s with key := k } ∧ sampled 5 s.key k)

/-- A conversion counts at its place in the scan of channels 0 to 15 alone, which then goes on to the next place (R138). It appends its code
to the channel's window and drops the oldest of 5; the channel is judged by the first case of R142 that holds, a held value staying; no
other channel differs, and where neither status nor value changes nothing else of the part does (R139, R142, R143). Otherwise each fan
that proves on the channel judges its proof by it (R111, R112, R114, R115, R119), each GATED stage whose gate it makes true is issued
(R64), no other stage differs, and the engine goes on. That a conversion out of its place is none is the model's form of the scan
(log 27); its other choices: log 12. -/
def Obligations.ConversionsAreJudged : Prop :=
  ∀ (c : Fin 16) (code : BitVec 10) (s : State), s.power = .running →
    (s.scan ≠ c.castSucc → exec (.channelConversion c code) s = .next s) ∧
    (s.scan = c.castSucc → (s.channel c).window.length ≤ 4 →
      ∃ t, (let old := s.channel c
        let new := t.channel c
        let u := { s with channels := t.channels, scan := t.scan }
        exec (.channelConversion c code) s = .next t ∧ t.scan.val = c.val + 1 ∧
        (∀ k, k ≠ c → t.channel k = s.channel k) ∧ t.supply = s.supply ∧ t.inputs = s.inputs ∧ t.key = s.key ∧
        ChannelJudged s.plant.scalings[c]
          { old with
            window := if old.window.length < 4 then old.window ++ [code.toNat] else old.window.tail ++ [code.toNat] } new ∧
        (new.status = old.status → new.value = old.value → t = u) ∧
        (new.status ≠ old.status ∨ new.value ≠ old.value →
          ∃ v w, (let issues (z : Fin 24) (cs : CurrentStage) : Prop :=
              z ∈ s.activation ∧ (s.zone z).stage = some cs ∧ cs.phase = .gated ∧ (s.zone z).held = false ∧
                (s.zone z).suspended = false ∧ ∃ g, (s.stageOf cs).gate = some g ∧ g.channel = c ∧ GateHolds g new;
            t = settled w ∧ (∃ ds ps, v = { u with drives := ds, ports := ps }) ∧
            (∃ ls ds zs ps, w.st = { u with lists := ls, drives := ds, zones := zs, ports := ps }) ∧
            (∀ a f ctx, s.drive a = .fan f → u.fanCtx a = some ctx → ctx.definition.pressure.map (·.channel) = some c →
              ∃ f', v.drive a = .fan f' ∧ FanJudged ctx { f with proofUnavailable := new.status != .valid } f') ∧
            (∀ a, provesOn c (s.record a) = false → v.drive a = s.drive a) ∧
            (∀ a, (∀ z cs, issues z cs → ∀ x ∈ (s.stageOf cs).commands, x.actuator ≠ a) →
              w.st.drive a = v.drive a ∧ w.st.claimList a = s.claimList a) ∧
            ∀ z,
              (∀ cs, issues z cs → ∃ x, (w.st.zone z).stage = some x ∧ IssuedStage s.now (s.stageOf cs) cs false x ∧
                CommandsPlaced (s.stageOf cs) (w.st.zone z)) ∧
              ((∀ cs, ¬ issues z cs) → (w.st.zone z).stage = (s.zone z).stage)))))

/-- The supply's conversion counts at the end of the scan alone, after which the scan begins again (R138). Its reading is code × 400 /
1023 tenths of a volt rounded half up; below 19.0 V it confirms SUPPLY-LOW, from 21.0 V on SUPPLY-OK; the third confirming reading in a
row changes the state and any other ends the run (R146, R147). At SUPPLY-LOW every damper drive is SUSPENDED by R103 or R105 and every
zone with a run is suspended with its stage timers frozen (R77, R79); at SUPPLY-OK every SUSPENDED drive resumes by R104 or R105, and
every suspended zone that is not held is brought forward (R78, R79, R148); otherwise nothing else of the part differs. The model's own
choices in it: log 12, log 20, log 27. -/
def Obligations.SupplyReadingsAreConfirmed : Prop :=
  ∀ (code : BitVec 10) (s : State), s.power = .running →
    (s.scan ≠ 16 → exec (.supplyConversion code) s = .next s) ∧
    (s.scan = 16 → s.supply.count < 3 →
      ∃ t, (let reading := t.supply.reading
        let u := { s with supply := t.supply, scan := 0 }
        let confirms := (s.supply.state = .ok ∧ reading < 190) ∨ (s.supply.state = .low ∧ 210 ≤ reading);
        exec (.supplyConversion code) s = .next t ∧ t.scan = 0 ∧
        2 * reading * 1023 ≤ 2 * (code.toNat * 400) + 1023 ∧ 2 * (code.toNat * 400) + 1023 < 2 * (reading + 1) * 1023 ∧
        reading ≤ 400 ∧
        (¬ confirms → t.supply.state = s.supply.state ∧ t.supply.count = 0) ∧
        (confirms → s.supply.count < 2 → t.supply.state = s.supply.state ∧ t.supply.count = s.supply.count + 1) ∧
        (confirms → s.supply.count = 2 → t.supply.state ≠ s.supply.state ∧ t.supply.count = 0) ∧
        (t.supply.state = s.supply.state → t = u) ∧
        (s.supply.state = .ok → t.supply.state = .low →
          ∃ w, t = settled w ∧ (∃ ds zs ps, w.st = { u with drives := ds, zones := zs, ports := ps }) ∧
            (∀ a d ctx, s.drive a = .damper d → s.damperCtx a = some ctx →
              ∃ d', w.st.drive a = .damper d' ∧ SupplyFalls ctx d d') ∧
            (∀ a, (∀ d, s.drive a ≠ .damper d) → w.st.drive a = s.drive a) ∧
            ∀ z, w.st.zone z =
              if (s.zone z).mode = .none ∨ (s.zone z).suspended = true then s.zone z
              else
                { s.zone z with
                  suspended := true
                  stage := if (s.zone z).held then (s.zone z).stage else (s.zone z).stage.map (freezeStage s.now) }) ∧
        (s.supply.state = .low → t.supply.state = .ok →
          ∃ v w, t = settled w ∧ (∃ ds ps, v = { u with drives := ds, ports := ps }) ∧
            (∀ a d ctx, s.drive a = .damper d → s.damperCtx a = some ctx →
              ∃ d', v.drive a = .damper d' ∧ SupplyReturns ctx d d') ∧
            (∀ a, (∀ d, s.drive a ≠ .damper d) → v.drive a = s.drive a) ∧
            (∃ ls ds zs ps, w.st = { v with lists := ls, drives := ds, zones := zs, ports := ps }) ∧
            (∀ a, (∀ z cs, (s.zone z).suspended = true → (s.zone z).held = false → (s.zone z).stage = some cs →
                cs.phase = .gated → ∀ x ∈ (s.stageOf cs).commands, x.actuator ≠ a) →
              w.st.drive a = v.drive a ∧ w.st.claimList a = s.claimList a) ∧
            ∀ z, (w.st.zone z).suspended = false ∧ (w.st.zone z).held = (s.zone z).held ∧
              (w.st.zone z).mode = (s.zone z).mode ∧
              (∀ cs, (s.zone z).suspended = true → (s.zone z).held = false → (s.zone z).stage = some cs →
                BroughtForward v z cs (w.st.zone z)) ∧
              ((s.zone z).suspended = false ∨ (s.zone z).held = true →
                (w.st.zone z).stage = (s.zone z).stage ∧ (w.st.zone z).phase = (s.zone z).phase)) ∧
        t.inputs = s.inputs ∧ t.channels = s.channels ∧ t.activation = s.activation))

/-! ## Drives -/

/-- The travel timer of a travelling damper expires (R89, R94, R95, R97): the drive is IDLE with a reversing drive's outputs off;
a TIMED damper stands BY-TIME on the driven side; toward a faulted switch it stands BY-TIME with INPUT-FAULT latched if none is;
toward a switch that is not faulted TRAVEL-TIMEOUT is latched if no fault is; toward the side without a switch the arrival mark is
set and the side is the position when the other switch reads OFF, TRAVEL-TIMEOUT is latched if no fault is and the other side is the
position when it reads ON, the judgement waits with the position UNKNOWN when it reads UNKNOWN, and the position is UNKNOWN with no
mark and no new fault when it is faulted (R96). The model's own choices in it: log 1, log 20. -/
def Obligations.TravelEndsByItsTimer : Prop :=
  ∀ (a : Fin 64) (d : DamperDrive) (side : Side) (e : Nat) (ctx : DamperCtx) (s : State), s.power = .running →
    s.drive a = .damper d → drivingSide d.state = some side → d.travel = .running e →
    (s.reach e).damperCtx a = some ctx →
    ∃ d', exec (.travelTimerExpiry a) s =
        .next (settled (driveEnded a (.damper d) (.damper d') { s with now := max s.now e })) ∧
      d'.state = .idle ∧ d'.travel = .stopped ∧ OutputsFor ctx d d' ∧ d'.target = d.target ∧ d'.history = d.history ∧
      d'.lastDirection = d.lastDirection ∧
      (ctx.mode = .timed → d'.position = side.byTime ∧ d'.fault = d.fault) ∧
      (∀ r, ctx.mode ≠ .timed → ctx.switch side = some r → r.faulted = true →
        d'.position = side.byTime ∧ d'.fault = d.fault.or (some .inputFault)) ∧
      (∀ r, ctx.mode ≠ .timed → ctx.switch side = some r → r.faulted = false →
        d'.fault = d.fault.or (some .travelTimeout)) ∧
      (ctx.mode ≠ .timed → ctx.switch side = none → ctx.switch side.other = some .off →
        d'.unswitchedArrival = true ∧ d'.fault = d.fault) ∧
      (∀ r, ctx.mode ≠ .timed → ctx.switch side = none → ctx.switch side.other = some r → r ≠ .off →
        d'.unswitchedArrival = d.unswitchedArrival ∧ (d'.endWaits = true ↔ d.endWaits = true ∨ r = .unknown) ∧
        d'.fault = if r = .on then d.fault.or (some .travelTimeout) else d.fault) ∧
      (∀ r, (ctx.mode = .openSwitch ∧ side = .closedSide) ∨ (ctx.mode = .closedSwitch ∧ side = .openSide) →
        ctx.switch side = none → ctx.switch side.other = some r → d.position = .moving → d.keptPosition = false →
        d'.position = match r with | .on => side.other.position | .off => side.position | _ => .unknown)

/-- The dead-time timer of a reversing damper expires, and its cooldown timer, by the cases of R90, R91 and R92. The model's own
choices in it: log 1. -/
def Obligations.PausesEndByTheirTimers : Prop :=
  ∀ (a : Fin 64) (d : DamperDrive) (e : Nat) (r : ReversingDef) (ctx : DamperCtx) (s : State), s.power = .running →
    s.record a = .reversing r → s.drive a = .damper d → ReversingSound d → (s.reach e).damperCtx a = some ctx →
    (d.deadTimer = some e →
      ∃ d', exec (.deadTimeExpiry a) s =
          .next (settled (driveEnded a (.damper d) (.damper d') { s with now := max s.now e })) ∧
        PauseEnds ctx r.reversalLimit d.interrupted (d.pending.getD d.target) d d') ∧
    (d.coolTimer = some e →
      ∃ d', exec (.cooldownExpiry a) s =
          .next (settled (driveEnded a (.damper d) (.damper d') { s with now := max s.now e })) ∧
        PauseEnds ctx r.reversalLimit true (d.pending.getD d.target) d d')

/-- The SWITCH-DISAGREE and LEFT-POSITION timers latch their fault and stop the drive where no fault is latched, and otherwise
change no more than the timer (R99, R100). The model's own choices in it: log 1. -/
def Obligations.SwitchFaultTimersStopTheDrive : Prop :=
  ∀ (a : Fin 64) (d : DamperDrive) (e : Nat) (ctx : DamperCtx) (s : State), s.power = .running →
    s.drive a = .damper d → (s.reach e).damperCtx a = some ctx →
    (let stops (kind : DamperFault) (d' : DamperDrive) : Prop :=
        d'.target = d.target ∧ d'.history = d.history ∧
        (d.fault = none → d'.fault = some kind ∧ d'.state = .idle ∧ d'.travel = .stopped ∧ d'.pending = none ∧
          OutputsFor ctx d d') ∧
        (d.fault.isSome = true → d'.fault = d.fault ∧ d'.state = d.state ∧ d'.travel = d.travel ∧
          d'.openOut = d.openOut ∧ d'.closeOut = d.closeOut ∧ d'.driveOut = d.driveOut);
      (d.disagreeTimer = some e →
        ∃ d', exec (.switchDisagreeExpiry a) s =
            .next (settled (driveEnded a (.damper d) (.damper d') { s with now := max s.now e })) ∧
          d'.disagreeTimer = none ∧ stops .switchDisagree d') ∧
      (d.leftTimer = some e →
        ∃ d', exec (.leftPositionExpiry a) s =
            .next (settled (driveEnded a (.damper d) (.damper d') { s with now := max s.now e })) ∧
          d'.leftTimer = none ∧ stops .leftPosition d'))

/-- The start proof timer and the stop proof timer of a fan expire by the evidence at that event (R114, R116, R119, R120); the
run-loss timer gives FAIL-RUN by R116; the restart delay gives one attempt more and a start with the run output on and the start
proof timer at its full length, RUNNING at once where the evidence shows it (R115, R116, R117). The model's own choices in it: log
1, log 17, log 21. -/
def Obligations.FanTimersJudgeTheFan : Prop :=
  ∀ (a : Fin 64) (f : FanDrive) (e : Nat) (ctx : FanCtx) (s : State), s.power = .running →
    s.drive a = .fan f → (s.reach e).fanCtx a = some ctx →
    (f.startTimer = some e →
      ∃ f', exec (.startProofExpiry a) s =
          .next (settled (driveEnded a (.fan f) (.fan f') { s with now := max s.now e })) ∧
        f'.startTimer = none ∧ f'.target = f.target ∧ f'.attempts = f.attempts ∧
        (ctx.evidence = .noSource ∨ ctx.evidence = .runningShown →
          f' = { f with state := .running, startTimer := none, waiting := false }) ∧
        (ctx.evidence = .stoppedShown → FailedOrWaiting ctx .failStart f f') ∧
        (ctx.evidence = .undecided → ctx.inputFaulted = true →
          f'.state = .failed ∧ f'.fault = some .inputFault ∧ f'.runOut = f.target.isRun) ∧
        (ctx.evidence = .undecided → ctx.inputFaulted = false → f' = { f with startTimer := none, waiting := true })) ∧
    (f.stopTimer = some e →
      ∃ f', exec (.stopProofExpiry a) s =
          .next (settled (driveEnded a (.fan f) (.fan f') { s with now := max s.now e })) ∧
        f'.stopTimer = none ∧ f'.target = f.target ∧ f'.attempts = f.attempts ∧
        (ctx.evidence = .stoppedShown ∨ ctx.evidence = .noSource →
          f' = { f with state := .stopped, stopTimer := none, waiting := false }) ∧
        (ctx.evidence = .runningShown → f'.state = .failed ∧ f'.fault = some .failStop ∧ f'.runOut = false) ∧
        (ctx.evidence = .undecided → ctx.inputFaulted = true →
          f'.state = .failed ∧ f'.fault = some .inputFault ∧ f'.runOut = f.target.isRun) ∧
        (ctx.evidence = .undecided → ctx.inputFaulted = false → f' = { f with stopTimer := none, waiting := true })) ∧
    (f.lossTimer = some e →
      ∃ f', exec (.runLossExpiry a) s =
          .next (settled (driveEnded a (.fan f) (.fan f') { s with now := max s.now e })) ∧
        FailedOrWaiting ctx .failRun f f') ∧
    (f.restartTimer = some e →
      ∃ f', exec (.restartDelayExpiry a) s =
          .next (settled (driveEnded a (.fan f) (.fan f') { s with now := max s.now e })) ∧
        f'.restartTimer = none ∧ f'.attempts = f.attempts + 1 ∧ f'.lastFailure = none ∧ f'.runOut = true ∧
        f'.target = f.target ∧ f'.fault = f.fault ∧
        (f.runOut = false → f'.ramped = 0 ∧ f'.preload = 0) ∧
        (ctx.evidence = .runningShown → f'.state = .running ∧ f'.startTimer = none) ∧
        (ctx.evidence ≠ .runningShown → f'.state = .starting ∧
          f'.startTimer = some (ctx.now + tenthsToMs ctx.definition.startProofTime)))

/-- A ramp step restarts the ramp timer at 0.25 s; for a target of RUN it moves R toward C by at most k and writes the new duty
code to the preload where R changed, and it changes nothing else of the part but what the engine finds to do (R124, R125). The
model's own choices in it: log 1. -/
def Obligations.RampStepsMoveTheSpeed : Prop :=
  ∀ (a : Fin 64) (f : FanDrive) (e : Nat) (ctx : FanCtx) (s : State), s.power = .running →
    s.drive a = .fan f → (s.reach e).fanCtx a = some ctx → f.rampTimer = some e →
    (∀ sd v, ctx.definition.speed = some sd → f.target = .run v →
      exec (.rampStep a) s =
        .next (settled (driveEnded a (.fan f)
          (.fan
            { f with
              rampTimer := some (ctx.now + 250)
              ramped :=
                if f.ramped < f.clamped then min f.clamped (f.ramped + sd.rate)
                else if f.clamped < f.ramped then max f.clamped (f.ramped - sd.rate)
                else f.ramped
              preload :=
                if f.ramped = f.clamped ∨ sd.rate = 0 then f.preload
                else dutyCode
                  (if f.ramped < f.clamped then min f.clamped (f.ramped + sd.rate)
                   else max f.clamped (f.ramped - sd.rate)) })
          { s with now := max s.now e }))) ∧
    (ctx.definition.speed = none ∨ (∀ v, f.target ≠ .run v) →
      exec (.rampStep a) s =
        .next (settled (driveEnded a (.fan f) (.fan { f with rampTimer := some (ctx.now + 250) })
          { s with now := max s.now e })))

/-! ## Stages -/

/-- The settle timer of a SETTLING stage takes it to PROVING (R69), and the proof-window timer of a PROVING stage turns every PENDING
outcome into FAILED, adds them to the failed count and finishes the stage (R71): STOPPED after a FAILED outcome under STOP, COMPLETE at
the last position, otherwise on to the next stage, DUE (R73), with the entry of a running TEST's log written (R55). In a SETTLING
stage the window does not expire. Nothing else differs before the engine goes on. The model's own choices in it: log 1. -/
def Obligations.StageTimersMoveTheStage : Prop :=
  ∀ (z : Fin 24) (cs : CurrentStage) (e : Nat) (s : State), s.power = .running → (s.zone z).stage = some cs →
    (let u : State := { s with now := max s.now e };
      (cs.phase = .settling → cs.settle = .running e →
        exec (.settleExpiry z) s =
          .next (settled (Work.start
            (u.setZone z { s.zone z with stage := some { cs with phase := .proving, settle := .stopped } })))) ∧
      (cs.phase = .proving → cs.window = .running e →
        ∃ v, exec (.proofWindowExpiry z) s = .next (settled (Work.start v)) ∧
          StageEnded u v z cs (cs.outcomes.map (fun o => if o = .pending then .failed else o))
            ((s.zone z).failed.map (fun n => n + cs.outcomes.count .pending))) ∧
      (cs.phase ≠ .settling → exec (.settleExpiry z) s = .next s) ∧
      (cs.phase ≠ .proving → exec (.proofWindowExpiry z) s = .next s))

/-- The expiry of a GATED stage's gate wait issues the stage with its GATE-EXPIRED mark set (R64, R65): its commands are in the zone's
map, its proof window runs from this event, and it is SETTLING, or PROVING with a settle time of 0. The Activation List, the
definitions and every other zone's run are not touched. A stage in another phase has no gate wait that expires. The model's own
choices in it: log 1. -/
def Obligations.GateWaitIssuesTheStage : Prop :=
  ∀ (z : Fin 24) (cs : CurrentStage) (e : Nat) (s : State), s.power = .running → (s.zone z).stage = some cs →
    (cs.phase = .gated → cs.gateWait = .running e →
      ∃ w, exec (.gateWaitExpiry z) s = .next (settled w) ∧ StageIssued { s with now := max s.now e } w.st z cs true) ∧
    (cs.phase ≠ .gated → exec (.gateWaitExpiry z) s = .next s)

/-- What the Sequence Engine makes of a zone that can go on, and of a STOPPED zone. A gate is true by R61's comparison on a VALID channel
alone. A DUE stage is issued without a gate, under a true WAIT-UNTIL and under a SKIP-IF that is not true; a true SKIP-IF finishes it
with every outcome SKIPPED; a WAIT-UNTIL that is not true makes it GATED with its wait running (R62, R63, R64, R65). A PROVING stage
without a PENDING outcome is finished and the zone proceeds (R70, R72, R73). A STOPPED zone returns to RUNNING at the next position, or is
COMPLETE at the last, exactly where a drive has handed a change on one of its failed actuators and every failed command is proven
(R75); a FIRE zone that returns while stand-down is SET is held at once (R157). The model's own choices in it: log 12, log 38. -/
def Obligations.StagesAreTakenAndFinished : Prop :=
  (∀ (g : Gate) (c : Channel), gateTrue g c = true ↔ GateHolds g c) ∧
  (∀ (z : Fin 24) (cs : CurrentStage) (w : Work), (w.st.zone z).stage = some cs →
    (let s := w.st
      let t := (advanceZone z w).st
      let stage := s.stageOf cs;
      (cs.phase = .due →
        (stage.gate = none → StageIssued s t z cs false) ∧
        ∀ g, stage.gate = some g →
          (g.mode = .skipIf → GateHolds g (s.channel g.channel) →
            StageEnded s t z cs (List.replicate stage.commands.length .skipped) (s.zone z).failed) ∧
          (g.mode = .skipIf → ¬ GateHolds g (s.channel g.channel) → StageIssued s t z cs false) ∧
          (g.mode = .waitUntil → GateHolds g (s.channel g.channel) → StageIssued s t z cs false) ∧
          (g.mode = .waitUntil → ¬ GateHolds g (s.channel g.channel) →
            t = s.setZone z
              { s.zone z with
                stage := some { cs with phase := .gated, gateWait := .running (s.now + tenthsToMs g.wait) } })) ∧
      (cs.phase = .proving → StageEnded s t z cs cs.outcomes (s.zone z).failed))) ∧
  ∀ (touched : List (Fin 64)) (s : State) (z : Fin 24) (cs : CurrentStage), (s.zone z).stage = some cs →
    (let t := resumeZone touched s z
      let failed (c : StageCommand) : Prop :=
        ∃ i : Nat, (s.stageOf cs).commands[i]? = some c ∧ cs.outcomes[i]? = some .failed
      let resumes := (∃ c, failed c ∧ c.actuator ∈ touched) ∧ ∀ c, failed c → s.provenAt c.actuator c.cmd = true
      let last := (s.sequenceOf z).length ≤ cs.position + 1;
      ((s.zone z).phase ≠ .stopped ∨ ¬ resumes → t = s) ∧
      ((s.zone z).phase = .stopped → resumes → last →
        t = (s.setZone z { s.zone z with phase := .complete }).raiseFlags) ∧
      ((s.zone z).phase = .stopped → resumes → ¬ last →
        ∃ next, t = (s.setZone z
            { s.zone z with
              phase := .running
              stage := some next
              held := (s.zone z).held || (s.standDown && (s.zone z).mode == .fire) }).raiseFlags ∧
          next.position = cs.position + 1 ∧ next.phase = .due ∧ next.outcomes = [] ∧ next.gateExpired = false ∧
          (s.sequenceOf z)[cs.position + 1]? = some next.stage))
end

