-- ==== Sys2Proof/Laws/AnswerFrames.lean ====
section
/-!
SUPPORT. What the bytes of an answer's items are: the coded bytes in their order among free ones, within a body of 120 bytes.
-/

set_option Elab.async false

namespace Sys2Proof.Machine

/-- The bytes of a list of items that the manual codes. -/
def codedOf (items : List Item) : List Byte :=
  items.flatMap (fun
    | .coded bytes => bytes
    | .uncoded => [])

@[simp] theorem codedOf_nil : codedOf [] = [] := rfl

@[simp] theorem codedOf_coded (bytes : List Byte) (rest : List Item) :
    codedOf (.coded bytes :: rest) = bytes ++ codedOf rest := rfl

@[simp] theorem codedOf_uncoded (rest : List Item) : codedOf (.uncoded :: rest) = codedOf rest := rfl

theorem codedBytes_eq (body : AnswerBody) : codedBytes body = codedOf (answerItems body) := rfl

/-- The free bytes take no more than the room that is left to them. -/
theorem layOut_length (body : AnswerBody) (items : List Item) (place room : Nat) :
    (layOut body place room items).length ≤ room + (codedOf items).length := by
  induction items generalizing place room with
  | nil => simp [layOut]
  | cons item rest ih =>
    cases item with
    | coded bytes =>
      have := ih place room
      simp only [layOut, codedOf_coded, List.length_append]
      omega
    | uncoded =>
      have := ih (place + 1) (room - min (Config.answerItemCount body place) room)
      simp only [layOut, codedOf_uncoded, List.length_append, List.length_map, List.length_range]
      omega

/-- The coded bytes stand in their order among the free ones. -/
theorem codedOf_sublist (body : AnswerBody) (items : List Item) (place room : Nat) :
    (codedOf items).Sublist (layOut body place room items) := by
  induction items generalizing place room with
  | nil => simp [layOut]
  | cons item rest ih =>
    cases item with
    | coded bytes => exact List.Sublist.append (List.Sublist.refl bytes) (ih place room)
    | uncoded =>
      exact (ih (place + 1) (room - min (Config.answerItemCount body place) room)).trans (List.sublist_append_right _ _)

/-- The items of an answer fit in a body of 120 bytes (R169). -/
theorem itemBytes_length (body : AnswerBody) : (itemBytes body).length ≤ itemRoom := by
  simp only [itemBytes, List.length_take]
  exact Nat.min_le_left _ _

/-- Where the coded bytes leave room, nothing of the items is cut off. -/
theorem itemBytes_eq (body : AnswerBody) (h : (codedBytes body).length ≤ itemRoom) :
    itemBytes body = layOut body 0 (itemRoom - (codedBytes body).length) (answerItems body) := by
  apply List.take_of_length_le
  have := layOut_length body (answerItems body) 0 (itemRoom - (codedBytes body).length)
  rw [← codedBytes_eq] at this
  omega

end Sys2Proof.Machine
end

