-- ==== Sys2Proof/Laws/State.lean ====
section
/-!
SUPPORT. One lemma per field per update of the state, and reading after writing for the tables, so that no later proof unfolds a
record update.
-/

namespace Sys2Proof.Machine

-- One theorem at a time, so that the threads of many stay within the sandbox's memory.
set_option Elab.async false

/-! ## Fields an update does not write -/

@[simp] theorem State.setPort_pending (s : State) (l : Line) (p : Port) : (s.setPort l p).pending = s.pending := rfl
@[simp] theorem State.setPort_now (s : State) (l : Line) (p : Port) : (s.setPort l p).now = s.now := rfl
@[simp] theorem State.setPort_cutWrites (s : State) (l : Line) (p : Port) : (s.setPort l p).cutWrites = s.cutWrites := rfl
@[simp] theorem State.setPort_power (s : State) (l : Line) (p : Port) : (s.setPort l p).power = s.power := rfl
@[simp] theorem State.setPort_configFault (s : State) (l : Line) (p : Port) : (s.setPort l p).configFault = s.configFault := rfl
@[simp] theorem State.setPort_start (s : State) (l : Line) (p : Port) : (s.setPort l p).start = s.start := rfl
@[simp] theorem State.setPort_store (s : State) (l : Line) (p : Port) : (s.setPort l p).store = s.store := rfl
@[simp] theorem State.setPort_siteCode (s : State) (l : Line) (p : Port) : (s.setPort l p).siteCode = s.siteCode := rfl
@[simp] theorem State.setPort_plant (s : State) (l : Line) (p : Port) : (s.setPort l p).plant = s.plant := rfl
@[simp] theorem State.setPort_sequences (s : State) (l : Line) (p : Port) : (s.setPort l p).sequences = s.sequences := rfl
@[simp] theorem State.setPort_lists (s : State) (l : Line) (p : Port) : (s.setPort l p).lists = s.lists := rfl
@[simp] theorem State.setPort_drives (s : State) (l : Line) (p : Port) : (s.setPort l p).drives = s.drives := rfl
@[simp] theorem State.setPort_zones (s : State) (l : Line) (p : Port) : (s.setPort l p).zones = s.zones := rfl
@[simp] theorem State.setPort_activation (s : State) (l : Line) (p : Port) : (s.setPort l p).activation = s.activation := rfl
@[simp] theorem State.setPort_overrides (s : State) (l : Line) (p : Port) : (s.setPort l p).overrides = s.overrides := rfl
@[simp] theorem State.setPort_standDown (s : State) (l : Line) (p : Port) : (s.setPort l p).standDown = s.standDown := rfl
@[simp] theorem State.setPort_standDownOption (s : State) (l : Line) (p : Port) : (s.setPort l p).standDownOption = s.standDownOption := rfl
@[simp] theorem State.setPort_inputs (s : State) (l : Line) (p : Port) : (s.setPort l p).inputs = s.inputs := rfl
@[simp] theorem State.setPort_filters (s : State) (l : Line) (p : Port) : (s.setPort l p).filters = s.filters := rfl
@[simp] theorem State.setPort_key (s : State) (l : Line) (p : Port) : (s.setPort l p).key = s.key := rfl
@[simp] theorem State.setPort_channels (s : State) (l : Line) (p : Port) : (s.setPort l p).channels = s.channels := rfl
@[simp] theorem State.setPort_scan (s : State) (l : Line) (p : Port) : (s.setPort l p).scan = s.scan := rfl
@[simp] theorem State.setPort_supply (s : State) (l : Line) (p : Port) : (s.setPort l p).supply = s.supply := rfl
@[simp] theorem State.setPort_applied (s : State) (l : Line) (p : Port) : (s.setPort l p).applied = s.applied := rfl

@[simp] theorem State.setList_pending (s : State) (a : Fin 64) (x : ClaimList) : (s.setList a x).pending = s.pending := rfl
@[simp] theorem State.setList_now (s : State) (a : Fin 64) (x : ClaimList) : (s.setList a x).now = s.now := rfl
@[simp] theorem State.setList_cutWrites (s : State) (a : Fin 64) (x : ClaimList) : (s.setList a x).cutWrites = s.cutWrites := rfl
@[simp] theorem State.setList_power (s : State) (a : Fin 64) (x : ClaimList) : (s.setList a x).power = s.power := rfl
@[simp] theorem State.setList_configFault (s : State) (a : Fin 64) (x : ClaimList) : (s.setList a x).configFault = s.configFault := rfl
@[simp] theorem State.setList_start (s : State) (a : Fin 64) (x : ClaimList) : (s.setList a x).start = s.start := rfl
@[simp] theorem State.setList_store (s : State) (a : Fin 64) (x : ClaimList) : (s.setList a x).store = s.store := rfl
@[simp] theorem State.setList_siteCode (s : State) (a : Fin 64) (x : ClaimList) : (s.setList a x).siteCode = s.siteCode := rfl
@[simp] theorem State.setList_plant (s : State) (a : Fin 64) (x : ClaimList) : (s.setList a x).plant = s.plant := rfl
@[simp] theorem State.setList_sequences (s : State) (a : Fin 64) (x : ClaimList) : (s.setList a x).sequences = s.sequences := rfl
@[simp] theorem State.setList_drives (s : State) (a : Fin 64) (x : ClaimList) : (s.setList a x).drives = s.drives := rfl
@[simp] theorem State.setList_zones (s : State) (a : Fin 64) (x : ClaimList) : (s.setList a x).zones = s.zones := rfl
@[simp] theorem State.setList_activation (s : State) (a : Fin 64) (x : ClaimList) : (s.setList a x).activation = s.activation := rfl
@[simp] theorem State.setList_overrides (s : State) (a : Fin 64) (x : ClaimList) : (s.setList a x).overrides = s.overrides := rfl
@[simp] theorem State.setList_standDown (s : State) (a : Fin 64) (x : ClaimList) : (s.setList a x).standDown = s.standDown := rfl
@[simp] theorem State.setList_standDownOption (s : State) (a : Fin 64) (x : ClaimList) : (s.setList a x).standDownOption = s.standDownOption := rfl
@[simp] theorem State.setList_inputs (s : State) (a : Fin 64) (x : ClaimList) : (s.setList a x).inputs = s.inputs := rfl
@[simp] theorem State.setList_filters (s : State) (a : Fin 64) (x : ClaimList) : (s.setList a x).filters = s.filters := rfl
@[simp] theorem State.setList_key (s : State) (a : Fin 64) (x : ClaimList) : (s.setList a x).key = s.key := rfl
@[simp] theorem State.setList_channels (s : State) (a : Fin 64) (x : ClaimList) : (s.setList a x).channels = s.channels := rfl
@[simp] theorem State.setList_scan (s : State) (a : Fin 64) (x : ClaimList) : (s.setList a x).scan = s.scan := rfl
@[simp] theorem State.setList_supply (s : State) (a : Fin 64) (x : ClaimList) : (s.setList a x).supply = s.supply := rfl
@[simp] theorem State.setList_applied (s : State) (a : Fin 64) (x : ClaimList) : (s.setList a x).applied = s.applied := rfl
@[simp] theorem State.setList_ports (s : State) (a : Fin 64) (x : ClaimList) : (s.setList a x).ports = s.ports := rfl

@[simp] theorem State.setDrive_pending (s : State) (a : Fin 64) (d : Drive) : (s.setDrive a d).pending = s.pending := rfl
@[simp] theorem State.setDrive_now (s : State) (a : Fin 64) (d : Drive) : (s.setDrive a d).now = s.now := rfl
@[simp] theorem State.setDrive_cutWrites (s : State) (a : Fin 64) (d : Drive) : (s.setDrive a d).cutWrites = s.cutWrites := rfl
@[simp] theorem State.setDrive_power (s : State) (a : Fin 64) (d : Drive) : (s.setDrive a d).power = s.power := rfl
@[simp] theorem State.setDrive_configFault (s : State) (a : Fin 64) (d : Drive) : (s.setDrive a d).configFault = s.configFault := rfl
@[simp] theorem State.setDrive_start (s : State) (a : Fin 64) (d : Drive) : (s.setDrive a d).start = s.start := rfl
@[simp] theorem State.setDrive_store (s : State) (a : Fin 64) (d : Drive) : (s.setDrive a d).store = s.store := rfl
@[simp] theorem State.setDrive_siteCode (s : State) (a : Fin 64) (d : Drive) : (s.setDrive a d).siteCode = s.siteCode := rfl
@[simp] theorem State.setDrive_plant (s : State) (a : Fin 64) (d : Drive) : (s.setDrive a d).plant = s.plant := rfl
@[simp] theorem State.setDrive_sequences (s : State) (a : Fin 64) (d : Drive) : (s.setDrive a d).sequences = s.sequences := rfl
@[simp] theorem State.setDrive_lists (s : State) (a : Fin 64) (d : Drive) : (s.setDrive a d).lists = s.lists := rfl
@[simp] theorem State.setDrive_zones (s : State) (a : Fin 64) (d : Drive) : (s.setDrive a d).zones = s.zones := rfl
@[simp] theorem State.setDrive_activation (s : State) (a : Fin 64) (d : Drive) : (s.setDrive a d).activation = s.activation := rfl
@[simp] theorem State.setDrive_overrides (s : State) (a : Fin 64) (d : Drive) : (s.setDrive a d).overrides = s.overrides := rfl
@[simp] theorem State.setDrive_standDown (s : State) (a : Fin 64) (d : Drive) : (s.setDrive a d).standDown = s.standDown := rfl
@[simp] theorem State.setDrive_standDownOption (s : State) (a : Fin 64) (d : Drive) : (s.setDrive a d).standDownOption = s.standDownOption := rfl
@[simp] theorem State.setDrive_inputs (s : State) (a : Fin 64) (d : Drive) : (s.setDrive a d).inputs = s.inputs := rfl
@[simp] theorem State.setDrive_filters (s : State) (a : Fin 64) (d : Drive) : (s.setDrive a d).filters = s.filters := rfl
@[simp] theorem State.setDrive_key (s : State) (a : Fin 64) (d : Drive) : (s.setDrive a d).key = s.key := rfl
@[simp] theorem State.setDrive_channels (s : State) (a : Fin 64) (d : Drive) : (s.setDrive a d).channels = s.channels := rfl
@[simp] theorem State.setDrive_scan (s : State) (a : Fin 64) (d : Drive) : (s.setDrive a d).scan = s.scan := rfl
@[simp] theorem State.setDrive_supply (s : State) (a : Fin 64) (d : Drive) : (s.setDrive a d).supply = s.supply := rfl
@[simp] theorem State.setDrive_applied (s : State) (a : Fin 64) (d : Drive) : (s.setDrive a d).applied = s.applied := rfl
@[simp] theorem State.setDrive_ports (s : State) (a : Fin 64) (d : Drive) : (s.setDrive a d).ports = s.ports := rfl

@[simp] theorem State.setZone_pending (s : State) (z : Fin 24) (r : ZoneRecord) : (s.setZone z r).pending = s.pending := rfl
@[simp] theorem State.setZone_now (s : State) (z : Fin 24) (r : ZoneRecord) : (s.setZone z r).now = s.now := rfl
@[simp] theorem State.setZone_cutWrites (s : State) (z : Fin 24) (r : ZoneRecord) : (s.setZone z r).cutWrites = s.cutWrites := rfl
@[simp] theorem State.setZone_power (s : State) (z : Fin 24) (r : ZoneRecord) : (s.setZone z r).power = s.power := rfl
@[simp] theorem State.setZone_configFault (s : State) (z : Fin 24) (r : ZoneRecord) : (s.setZone z r).configFault = s.configFault := rfl
@[simp] theorem State.setZone_start (s : State) (z : Fin 24) (r : ZoneRecord) : (s.setZone z r).start = s.start := rfl
@[simp] theorem State.setZone_store (s : State) (z : Fin 24) (r : ZoneRecord) : (s.setZone z r).store = s.store := rfl
@[simp] theorem State.setZone_siteCode (s : State) (z : Fin 24) (r : ZoneRecord) : (s.setZone z r).siteCode = s.siteCode := rfl
@[simp] theorem State.setZone_plant (s : State) (z : Fin 24) (r : ZoneRecord) : (s.setZone z r).plant = s.plant := rfl
@[simp] theorem State.setZone_sequences (s : State) (z : Fin 24) (r : ZoneRecord) : (s.setZone z r).sequences = s.sequences := rfl
@[simp] theorem State.setZone_lists (s : State) (z : Fin 24) (r : ZoneRecord) : (s.setZone z r).lists = s.lists := rfl
@[simp] theorem State.setZone_drives (s : State) (z : Fin 24) (r : ZoneRecord) : (s.setZone z r).drives = s.drives := rfl
@[simp] theorem State.setZone_activation (s : State) (z : Fin 24) (r : ZoneRecord) : (s.setZone z r).activation = s.activation := rfl
@[simp] theorem State.setZone_overrides (s : State) (z : Fin 24) (r : ZoneRecord) : (s.setZone z r).overrides = s.overrides := rfl
@[simp] theorem State.setZone_standDown (s : State) (z : Fin 24) (r : ZoneRecord) : (s.setZone z r).standDown = s.standDown := rfl
@[simp] theorem State.setZone_standDownOption (s : State) (z : Fin 24) (r : ZoneRecord) : (s.setZone z r).standDownOption = s.standDownOption := rfl
@[simp] theorem State.setZone_inputs (s : State) (z : Fin 24) (r : ZoneRecord) : (s.setZone z r).inputs = s.inputs := rfl
@[simp] theorem State.setZone_filters (s : State) (z : Fin 24) (r : ZoneRecord) : (s.setZone z r).filters = s.filters := rfl
@[simp] theorem State.setZone_key (s : State) (z : Fin 24) (r : ZoneRecord) : (s.setZone z r).key = s.key := rfl
@[simp] theorem State.setZone_channels (s : State) (z : Fin 24) (r : ZoneRecord) : (s.setZone z r).channels = s.channels := rfl
@[simp] theorem State.setZone_scan (s : State) (z : Fin 24) (r : ZoneRecord) : (s.setZone z r).scan = s.scan := rfl
@[simp] theorem State.setZone_supply (s : State) (z : Fin 24) (r : ZoneRecord) : (s.setZone z r).supply = s.supply := rfl
@[simp] theorem State.setZone_applied (s : State) (z : Fin 24) (r : ZoneRecord) : (s.setZone z r).applied = s.applied := rfl
@[simp] theorem State.setZone_ports (s : State) (z : Fin 24) (r : ZoneRecord) : (s.setZone z r).ports = s.ports := rfl

@[simp] theorem State.raiseFlags_pending (s : State) : (s.raiseFlags).pending = s.pending := rfl
@[simp] theorem State.raiseFlags_now (s : State) : (s.raiseFlags).now = s.now := rfl
@[simp] theorem State.raiseFlags_cutWrites (s : State) : (s.raiseFlags).cutWrites = s.cutWrites := rfl
@[simp] theorem State.raiseFlags_power (s : State) : (s.raiseFlags).power = s.power := rfl
@[simp] theorem State.raiseFlags_configFault (s : State) : (s.raiseFlags).configFault = s.configFault := rfl
@[simp] theorem State.raiseFlags_start (s : State) : (s.raiseFlags).start = s.start := rfl
@[simp] theorem State.raiseFlags_store (s : State) : (s.raiseFlags).store = s.store := rfl
@[simp] theorem State.raiseFlags_siteCode (s : State) : (s.raiseFlags).siteCode = s.siteCode := rfl
@[simp] theorem State.raiseFlags_plant (s : State) : (s.raiseFlags).plant = s.plant := rfl
@[simp] theorem State.raiseFlags_sequences (s : State) : (s.raiseFlags).sequences = s.sequences := rfl
@[simp] theorem State.raiseFlags_lists (s : State) : (s.raiseFlags).lists = s.lists := rfl
@[simp] theorem State.raiseFlags_drives (s : State) : (s.raiseFlags).drives = s.drives := rfl
@[simp] theorem State.raiseFlags_zones (s : State) : (s.raiseFlags).zones = s.zones := rfl
@[simp] theorem State.raiseFlags_activation (s : State) : (s.raiseFlags).activation = s.activation := rfl
@[simp] theorem State.raiseFlags_overrides (s : State) : (s.raiseFlags).overrides = s.overrides := rfl
@[simp] theorem State.raiseFlags_standDown (s : State) : (s.raiseFlags).standDown = s.standDown := rfl
@[simp] theorem State.raiseFlags_standDownOption (s : State) : (s.raiseFlags).standDownOption = s.standDownOption := rfl
@[simp] theorem State.raiseFlags_inputs (s : State) : (s.raiseFlags).inputs = s.inputs := rfl
@[simp] theorem State.raiseFlags_filters (s : State) : (s.raiseFlags).filters = s.filters := rfl
@[simp] theorem State.raiseFlags_key (s : State) : (s.raiseFlags).key = s.key := rfl
@[simp] theorem State.raiseFlags_channels (s : State) : (s.raiseFlags).channels = s.channels := rfl
@[simp] theorem State.raiseFlags_scan (s : State) : (s.raiseFlags).scan = s.scan := rfl
@[simp] theorem State.raiseFlags_supply (s : State) : (s.raiseFlags).supply = s.supply := rfl
@[simp] theorem State.raiseFlags_applied (s : State) : (s.raiseFlags).applied = s.applied := rfl

@[simp] theorem State.reach_pending (s : State) (t : Nat) : (s.reach t).pending = s.pending := rfl
@[simp] theorem State.reach_cutWrites (s : State) (t : Nat) : (s.reach t).cutWrites = s.cutWrites := rfl
@[simp] theorem State.reach_power (s : State) (t : Nat) : (s.reach t).power = s.power := rfl
@[simp] theorem State.reach_configFault (s : State) (t : Nat) : (s.reach t).configFault = s.configFault := rfl
@[simp] theorem State.reach_start (s : State) (t : Nat) : (s.reach t).start = s.start := rfl
@[simp] theorem State.reach_store (s : State) (t : Nat) : (s.reach t).store = s.store := rfl
@[simp] theorem State.reach_siteCode (s : State) (t : Nat) : (s.reach t).siteCode = s.siteCode := rfl
@[simp] theorem State.reach_plant (s : State) (t : Nat) : (s.reach t).plant = s.plant := rfl
@[simp] theorem State.reach_sequences (s : State) (t : Nat) : (s.reach t).sequences = s.sequences := rfl
@[simp] theorem State.reach_lists (s : State) (t : Nat) : (s.reach t).lists = s.lists := rfl
@[simp] theorem State.reach_drives (s : State) (t : Nat) : (s.reach t).drives = s.drives := rfl
@[simp] theorem State.reach_zones (s : State) (t : Nat) : (s.reach t).zones = s.zones := rfl
@[simp] theorem State.reach_activation (s : State) (t : Nat) : (s.reach t).activation = s.activation := rfl
@[simp] theorem State.reach_overrides (s : State) (t : Nat) : (s.reach t).overrides = s.overrides := rfl
@[simp] theorem State.reach_standDown (s : State) (t : Nat) : (s.reach t).standDown = s.standDown := rfl
@[simp] theorem State.reach_standDownOption (s : State) (t : Nat) : (s.reach t).standDownOption = s.standDownOption := rfl
@[simp] theorem State.reach_inputs (s : State) (t : Nat) : (s.reach t).inputs = s.inputs := rfl
@[simp] theorem State.reach_filters (s : State) (t : Nat) : (s.reach t).filters = s.filters := rfl
@[simp] theorem State.reach_key (s : State) (t : Nat) : (s.reach t).key = s.key := rfl
@[simp] theorem State.reach_channels (s : State) (t : Nat) : (s.reach t).channels = s.channels := rfl
@[simp] theorem State.reach_scan (s : State) (t : Nat) : (s.reach t).scan = s.scan := rfl
@[simp] theorem State.reach_supply (s : State) (t : Nat) : (s.reach t).supply = s.supply := rfl
@[simp] theorem State.reach_applied (s : State) (t : Nat) : (s.reach t).applied = s.applied := rfl
@[simp] theorem State.reach_ports (s : State) (t : Nat) : (s.reach t).ports = s.ports := rfl

@[simp] theorem State.clearFlag_pending (s : State) (l : Line) : (s.clearFlag l).pending = s.pending := rfl
@[simp] theorem State.clearFlag_now (s : State) (l : Line) : (s.clearFlag l).now = s.now := rfl
@[simp] theorem State.clearFlag_cutWrites (s : State) (l : Line) : (s.clearFlag l).cutWrites = s.cutWrites := rfl
@[simp] theorem State.clearFlag_power (s : State) (l : Line) : (s.clearFlag l).power = s.power := rfl
@[simp] theorem State.clearFlag_configFault (s : State) (l : Line) : (s.clearFlag l).configFault = s.configFault := rfl
@[simp] theorem State.clearFlag_start (s : State) (l : Line) : (s.clearFlag l).start = s.start := rfl
@[simp] theorem State.clearFlag_store (s : State) (l : Line) : (s.clearFlag l).store = s.store := rfl
@[simp] theorem State.clearFlag_siteCode (s : State) (l : Line) : (s.clearFlag l).siteCode = s.siteCode := rfl
@[simp] theorem State.clearFlag_plant (s : State) (l : Line) : (s.clearFlag l).plant = s.plant := rfl
@[simp] theorem State.clearFlag_sequences (s : State) (l : Line) : (s.clearFlag l).sequences = s.sequences := rfl
@[simp] theorem State.clearFlag_lists (s : State) (l : Line) : (s.clearFlag l).lists = s.lists := rfl
@[simp] theorem State.clearFlag_drives (s : State) (l : Line) : (s.clearFlag l).drives = s.drives := rfl
@[simp] theorem State.clearFlag_zones (s : State) (l : Line) : (s.clearFlag l).zones = s.zones := rfl
@[simp] theorem State.clearFlag_activation (s : State) (l : Line) : (s.clearFlag l).activation = s.activation := rfl
@[simp] theorem State.clearFlag_overrides (s : State) (l : Line) : (s.clearFlag l).overrides = s.overrides := rfl
@[simp] theorem State.clearFlag_standDown (s : State) (l : Line) : (s.clearFlag l).standDown = s.standDown := rfl
@[simp] theorem State.clearFlag_standDownOption (s : State) (l : Line) : (s.clearFlag l).standDownOption = s.standDownOption := rfl
@[simp] theorem State.clearFlag_inputs (s : State) (l : Line) : (s.clearFlag l).inputs = s.inputs := rfl
@[simp] theorem State.clearFlag_filters (s : State) (l : Line) : (s.clearFlag l).filters = s.filters := rfl
@[simp] theorem State.clearFlag_key (s : State) (l : Line) : (s.clearFlag l).key = s.key := rfl
@[simp] theorem State.clearFlag_channels (s : State) (l : Line) : (s.clearFlag l).channels = s.channels := rfl
@[simp] theorem State.clearFlag_scan (s : State) (l : Line) : (s.clearFlag l).scan = s.scan := rfl
@[simp] theorem State.clearFlag_supply (s : State) (l : Line) : (s.clearFlag l).supply = s.supply := rfl
@[simp] theorem State.clearFlag_applied (s : State) (l : Line) : (s.clearFlag l).applied = s.applied := rfl

/-! ## What the updates write -/

@[simp] theorem State.reach_now (s : State) (t : Nat) : (s.reach t).now = max s.now t := rfl

/-! ## The readers of a table after an update of another -/

@[simp] theorem State.setPort_claimList (s : State) (l : Line) (p : Port) (b : Fin 64) : (s.setPort l p).claimList b = s.claimList b := rfl
@[simp] theorem State.setPort_drive (s : State) (l : Line) (p : Port) (b : Fin 64) : (s.setPort l p).drive b = s.drive b := rfl
@[simp] theorem State.setPort_zone (s : State) (l : Line) (p : Port) (y : Fin 24) : (s.setPort l p).zone y = s.zone y := rfl
@[simp] theorem State.setPort_record (s : State) (l : Line) (p : Port) (b : Fin 64) : (s.setPort l p).record b = s.record b := rfl
@[simp] theorem State.setPort_zoneDef (s : State) (l : Line) (p : Port) (y : Fin 24) : (s.setPort l p).zoneDef y = s.zoneDef y := rfl
@[simp] theorem State.setPort_stageDef (s : State) (l : Line) (p : Port) (n : Fin 256) : (s.setPort l p).stageDef n = s.stageDef n := rfl
@[simp] theorem State.setPort_reading (s : State) (l : Line) (p : Port) (i : Fin 128) : (s.setPort l p).reading i = s.reading i := rfl
@[simp] theorem State.setPort_filterCount (s : State) (l : Line) (p : Port) (i : Fin 128) : (s.setPort l p).filterCount i = s.filterCount i := rfl
@[simp] theorem State.setPort_channel (s : State) (l : Line) (p : Port) (c : Fin 16) : (s.setPort l p).channel c = s.channel c := rfl
@[simp] theorem State.setPort_sequenceOf (s : State) (l : Line) (p : Port) (y : Fin 24) : (s.setPort l p).sequenceOf y = s.sequenceOf y := rfl

@[simp] theorem State.setList_port (s : State) (a : Fin 64) (x : ClaimList) (l' : Line) : (s.setList a x).port l' = s.port l' := rfl
@[simp] theorem State.setList_drive (s : State) (a : Fin 64) (x : ClaimList) (b : Fin 64) : (s.setList a x).drive b = s.drive b := rfl
@[simp] theorem State.setList_zone (s : State) (a : Fin 64) (x : ClaimList) (y : Fin 24) : (s.setList a x).zone y = s.zone y := rfl
@[simp] theorem State.setList_record (s : State) (a : Fin 64) (x : ClaimList) (b : Fin 64) : (s.setList a x).record b = s.record b := rfl
@[simp] theorem State.setList_zoneDef (s : State) (a : Fin 64) (x : ClaimList) (y : Fin 24) : (s.setList a x).zoneDef y = s.zoneDef y := rfl
@[simp] theorem State.setList_stageDef (s : State) (a : Fin 64) (x : ClaimList) (n : Fin 256) : (s.setList a x).stageDef n = s.stageDef n := rfl
@[simp] theorem State.setList_reading (s : State) (a : Fin 64) (x : ClaimList) (i : Fin 128) : (s.setList a x).reading i = s.reading i := rfl
@[simp] theorem State.setList_filterCount (s : State) (a : Fin 64) (x : ClaimList) (i : Fin 128) : (s.setList a x).filterCount i = s.filterCount i := rfl
@[simp] theorem State.setList_channel (s : State) (a : Fin 64) (x : ClaimList) (c : Fin 16) : (s.setList a x).channel c = s.channel c := rfl
@[simp] theorem State.setList_sequenceOf (s : State) (a : Fin 64) (x : ClaimList) (y : Fin 24) : (s.setList a x).sequenceOf y = s.sequenceOf y := rfl

@[simp] theorem State.setDrive_port (s : State) (a : Fin 64) (d : Drive) (l' : Line) : (s.setDrive a d).port l' = s.port l' := rfl
@[simp] theorem State.setDrive_claimList (s : State) (a : Fin 64) (d : Drive) (b : Fin 64) : (s.setDrive a d).claimList b = s.claimList b := rfl
@[simp] theorem State.setDrive_zone (s : State) (a : Fin 64) (d : Drive) (y : Fin 24) : (s.setDrive a d).zone y = s.zone y := rfl
@[simp] theorem State.setDrive_record (s : State) (a : Fin 64) (d : Drive) (b : Fin 64) : (s.setDrive a d).record b = s.record b := rfl
@[simp] theorem State.setDrive_zoneDef (s : State) (a : Fin 64) (d : Drive) (y : Fin 24) : (s.setDrive a d).zoneDef y = s.zoneDef y := rfl
@[simp] theorem State.setDrive_stageDef (s : State) (a : Fin 64) (d : Drive) (n : Fin 256) : (s.setDrive a d).stageDef n = s.stageDef n := rfl
@[simp] theorem State.setDrive_reading (s : State) (a : Fin 64) (d : Drive) (i : Fin 128) : (s.setDrive a d).reading i = s.reading i := rfl
@[simp] theorem State.setDrive_filterCount (s : State) (a : Fin 64) (d : Drive) (i : Fin 128) : (s.setDrive a d).filterCount i = s.filterCount i := rfl
@[simp] theorem State.setDrive_channel (s : State) (a : Fin 64) (d : Drive) (c : Fin 16) : (s.setDrive a d).channel c = s.channel c := rfl
@[simp] theorem State.setDrive_sequenceOf (s : State) (a : Fin 64) (d : Drive) (y : Fin 24) : (s.setDrive a d).sequenceOf y = s.sequenceOf y := rfl

@[simp] theorem State.setZone_port (s : State) (z : Fin 24) (r : ZoneRecord) (l' : Line) : (s.setZone z r).port l' = s.port l' := rfl
@[simp] theorem State.setZone_claimList (s : State) (z : Fin 24) (r : ZoneRecord) (b : Fin 64) : (s.setZone z r).claimList b = s.claimList b := rfl
@[simp] theorem State.setZone_drive (s : State) (z : Fin 24) (r : ZoneRecord) (b : Fin 64) : (s.setZone z r).drive b = s.drive b := rfl
@[simp] theorem State.setZone_record (s : State) (z : Fin 24) (r : ZoneRecord) (b : Fin 64) : (s.setZone z r).record b = s.record b := rfl
@[simp] theorem State.setZone_zoneDef (s : State) (z : Fin 24) (r : ZoneRecord) (y : Fin 24) : (s.setZone z r).zoneDef y = s.zoneDef y := rfl
@[simp] theorem State.setZone_stageDef (s : State) (z : Fin 24) (r : ZoneRecord) (n : Fin 256) : (s.setZone z r).stageDef n = s.stageDef n := rfl
@[simp] theorem State.setZone_reading (s : State) (z : Fin 24) (r : ZoneRecord) (i : Fin 128) : (s.setZone z r).reading i = s.reading i := rfl
@[simp] theorem State.setZone_filterCount (s : State) (z : Fin 24) (r : ZoneRecord) (i : Fin 128) : (s.setZone z r).filterCount i = s.filterCount i := rfl
@[simp] theorem State.setZone_channel (s : State) (z : Fin 24) (r : ZoneRecord) (c : Fin 16) : (s.setZone z r).channel c = s.channel c := rfl
@[simp] theorem State.setZone_sequenceOf (s : State) (z : Fin 24) (r : ZoneRecord) (y : Fin 24) : (s.setZone z r).sequenceOf y = s.sequenceOf y := rfl

@[simp] theorem State.raiseFlags_claimList (s : State) (b : Fin 64) : (s.raiseFlags).claimList b = s.claimList b := rfl
@[simp] theorem State.raiseFlags_drive (s : State) (b : Fin 64) : (s.raiseFlags).drive b = s.drive b := rfl
@[simp] theorem State.raiseFlags_zone (s : State) (y : Fin 24) : (s.raiseFlags).zone y = s.zone y := rfl
@[simp] theorem State.raiseFlags_record (s : State) (b : Fin 64) : (s.raiseFlags).record b = s.record b := rfl
@[simp] theorem State.raiseFlags_zoneDef (s : State) (y : Fin 24) : (s.raiseFlags).zoneDef y = s.zoneDef y := rfl
@[simp] theorem State.raiseFlags_stageDef (s : State) (n : Fin 256) : (s.raiseFlags).stageDef n = s.stageDef n := rfl
@[simp] theorem State.raiseFlags_reading (s : State) (i : Fin 128) : (s.raiseFlags).reading i = s.reading i := rfl
@[simp] theorem State.raiseFlags_filterCount (s : State) (i : Fin 128) : (s.raiseFlags).filterCount i = s.filterCount i := rfl
@[simp] theorem State.raiseFlags_channel (s : State) (c : Fin 16) : (s.raiseFlags).channel c = s.channel c := rfl
@[simp] theorem State.raiseFlags_sequenceOf (s : State) (y : Fin 24) : (s.raiseFlags).sequenceOf y = s.sequenceOf y := rfl

@[simp] theorem State.reach_port (s : State) (t : Nat) (l' : Line) : (s.reach t).port l' = s.port l' := rfl
@[simp] theorem State.reach_claimList (s : State) (t : Nat) (b : Fin 64) : (s.reach t).claimList b = s.claimList b := rfl
@[simp] theorem State.reach_drive (s : State) (t : Nat) (b : Fin 64) : (s.reach t).drive b = s.drive b := rfl
@[simp] theorem State.reach_zone (s : State) (t : Nat) (y : Fin 24) : (s.reach t).zone y = s.zone y := rfl
@[simp] theorem State.reach_record (s : State) (t : Nat) (b : Fin 64) : (s.reach t).record b = s.record b := rfl
@[simp] theorem State.reach_zoneDef (s : State) (t : Nat) (y : Fin 24) : (s.reach t).zoneDef y = s.zoneDef y := rfl
@[simp] theorem State.reach_stageDef (s : State) (t : Nat) (n : Fin 256) : (s.reach t).stageDef n = s.stageDef n := rfl
@[simp] theorem State.reach_reading (s : State) (t : Nat) (i : Fin 128) : (s.reach t).reading i = s.reading i := rfl
@[simp] theorem State.reach_filterCount (s : State) (t : Nat) (i : Fin 128) : (s.reach t).filterCount i = s.filterCount i := rfl
@[simp] theorem State.reach_channel (s : State) (t : Nat) (c : Fin 16) : (s.reach t).channel c = s.channel c := rfl
@[simp] theorem State.reach_sequenceOf (s : State) (t : Nat) (y : Fin 24) : (s.reach t).sequenceOf y = s.sequenceOf y := rfl

@[simp] theorem State.clearFlag_claimList (s : State) (l : Line) (b : Fin 64) : (s.clearFlag l).claimList b = s.claimList b := rfl
@[simp] theorem State.clearFlag_drive (s : State) (l : Line) (b : Fin 64) : (s.clearFlag l).drive b = s.drive b := rfl
@[simp] theorem State.clearFlag_zone (s : State) (l : Line) (y : Fin 24) : (s.clearFlag l).zone y = s.zone y := rfl
@[simp] theorem State.clearFlag_record (s : State) (l : Line) (b : Fin 64) : (s.clearFlag l).record b = s.record b := rfl
@[simp] theorem State.clearFlag_zoneDef (s : State) (l : Line) (y : Fin 24) : (s.clearFlag l).zoneDef y = s.zoneDef y := rfl
@[simp] theorem State.clearFlag_stageDef (s : State) (l : Line) (n : Fin 256) : (s.clearFlag l).stageDef n = s.stageDef n := rfl
@[simp] theorem State.clearFlag_reading (s : State) (l : Line) (i : Fin 128) : (s.clearFlag l).reading i = s.reading i := rfl
@[simp] theorem State.clearFlag_filterCount (s : State) (l : Line) (i : Fin 128) : (s.clearFlag l).filterCount i = s.filterCount i := rfl
@[simp] theorem State.clearFlag_channel (s : State) (l : Line) (c : Fin 16) : (s.clearFlag l).channel c = s.channel c := rfl
@[simp] theorem State.clearFlag_sequenceOf (s : State) (l : Line) (y : Fin 24) : (s.clearFlag l).sequenceOf y = s.sequenceOf y := rfl

/-! ## Reading after writing -/

@[simp] theorem State.setZone_zone_same (s : State) (z : Fin 24) (r : ZoneRecord) : (s.setZone z r).zone z = r := by
  simp [State.setZone, State.zone]

theorem State.setZone_zone_other (s : State) {z y : Fin 24} (r : ZoneRecord) (h : y ≠ z) :
    (s.setZone z r).zone y = s.zone y := by
  have h' : z.val ≠ y.val := fun e => h (Fin.ext e.symm)
  simp [State.setZone, State.zone, h']

@[simp] theorem State.setList_claimList_same (s : State) (a : Fin 64) (x : ClaimList) :
    (s.setList a x).claimList a = x := by
  simp [State.setList, State.claimList]

theorem State.setList_claimList_other (s : State) {a b : Fin 64} (x : ClaimList) (h : b ≠ a) :
    (s.setList a x).claimList b = s.claimList b := by
  have h' : a.val ≠ b.val := fun e => h (Fin.ext e.symm)
  simp [State.setList, State.claimList, h']

@[simp] theorem State.setDrive_drive_same (s : State) (a : Fin 64) (d : Drive) : (s.setDrive a d).drive a = d := by
  simp [State.setDrive, State.drive]

theorem State.setDrive_drive_other (s : State) {a b : Fin 64} (d : Drive) (h : b ≠ a) :
    (s.setDrive a d).drive b = s.drive b := by
  have h' : a.val ≠ b.val := fun e => h (Fin.ext e.symm)
  simp [State.setDrive, State.drive, h']

@[simp] theorem State.setPort_port_same (s : State) (l : Line) (p : Port) : (s.setPort l p).port l = p := by
  simp [State.setPort, State.port]

theorem State.setPort_port_other (s : State) {l k : Line} (p : Port) (h : k ≠ l) : (s.setPort l p).port k = s.port k := by
  cases l <;> cases k <;> first | exact absurd rfl h | (simp [State.setPort, State.port, Line.idx])

@[simp] theorem State.raiseFlags_port (s : State) (l : Line) : s.raiseFlags.port l = (s.port l).raise := by
  simp [State.raiseFlags, State.port]

/-! ## The sectors -/

@[simp] theorem Store.setSector_same (st : Store) (sec : Sector) (x : SectorState) :
    (st.setSector sec x).sector sec = x := by cases sec <;> rfl

theorem Store.setSector_other (st : Store) {sec other : Sector} (x : SectorState) (h : other ≠ sec) :
    (st.setSector sec x).sector other = st.sector other := by
  cases sec <;> cases other <;> first | exact absurd rfl h | rfl

/-! ## The work of one event -/

@[simp] theorem Work.start_st (s : State) : (Work.start s).st = s := rfl

@[simp] theorem Work.map_st (w : Work) (f : State → State) : (w.map f).st = f w.st := rfl

@[simp] theorem Work.map_touched (w : Work) (f : State → State) : (w.map f).touched = w.touched := rfl

/-! ## A command's outcome -/

theorem whileRunning_running {s : State} (h : s.power = .running) (f : State → State) : whileRunning s f = f s := by
  simp [whileRunning, h]

theorem whileRunning_stopped {s : State} (h : s.power ≠ .running) (f : State → State) : whileRunning s f = s := by
  simp [whileRunning, h]

theorem event_running {s : State} (h : s.power = .running) (f : State → State) : event f s = .next (f s) := by
  simp [event, whileRunning, h]

theorem request_taken {s : State} {l : Line} (h : s.takes l) (k : Byte) (take : State → State × Reply) :
    request l k take s = .next (answered l k take s) := by
  simp only [request, if_pos h]

theorem request_not_taken {s : State} {l : Line} (h : ¬ s.takes l) (k : Byte) (take : State → State × Reply) :
    request l k take s = .next s := by
  simp only [request, if_neg h]

theorem atScan_here {s : State} {place : Fin 17} (h : s.scan = place) (f : State → State) :
    atScan place f s = f { s with scan := s.scan + 1 } := by
  simp only [atScan, if_pos h]

theorem atScan_elsewhere {s : State} {place : Fin 17} (h : s.scan ≠ place) (f : State → State) : atScan place f s = s := by
  simp only [atScan, if_neg h]

end Sys2Proof.Machine
end

