-- ==== Sys2Proof/Laws/Claims.lean ====
section
/-!
SUPPORT. One claim list: what placing, withdrawal and re-offer can do to it (R18, R22 to R28).
-/

namespace Sys2Proof.Machine

-- One theorem at a time, so that the threads of many stay within the sandbox's memory.
set_option Elab.async false

/-- Inserting a claim makes the list one longer. -/
theorem insertClaim_length (act : List (Fin 24)) (c : Claim) (cs : List Claim) :
    (insertClaim act c cs).length = cs.length + 1 := by
  induction cs with
  | nil => rfl
  | cons x xs ih => simp only [insertClaim]; split <;> simp [ih]

/-- Inserting a claim adds that claim and no other. -/
theorem mem_insertClaim {act : List (Fin 24)} {c x : Claim} {cs : List Claim} :
    x ∈ insertClaim act c cs ↔ x = c ∨ x ∈ cs := by
  induction cs with
  | nil => simp [insertClaim]
  | cons y ys ih =>
    simp only [insertClaim]
    split
    · simp
    · simp [ih]; tauto

/-- Replacing a command keeps the list's length. -/
theorem replaceClaim_length (cs : List Claim) (src : Source) (cmd : Command) :
    (replaceClaim cs src cmd).length = cs.length := by simp [replaceClaim]

/-- Withdrawing never lengthens a list. -/
theorem removeClaim_length_le (cs : List Claim) (src : Source) : (removeClaim cs src).length ≤ cs.length :=
  List.length_filter_le _ _

/-- A source that has withdrawn holds no claim. -/
theorem claimOf_removeClaim (cs : List Claim) (src : Source) : claimOf (removeClaim cs src) src = none := by
  simp [claimOf, removeClaim, List.find?_eq_none]

/-- A list of at most 6 claims holds at most 6 after a placing (R18, R24). -/
theorem placeClaim_length {act : List (Fin 24)} {cs : List Claim} {src : Source} {cmd : Command}
    (h : cs.length ≤ maxClaims) : (placeClaim act cs src cmd).1.length ≤ maxClaims := by
  have six : maxClaims = 6 := rfl
  unfold placeClaim
  split
  · split
    · exact h
    · rw [replaceClaim_length]; exact h
  · split
    · rw [insertClaim_length]; omega
    · split
      · split
        · rw [insertClaim_length, List.length_dropLast]; omega
        · exact h
      · rename_i e
        rw [List.getLast?_eq_none_iff] at e
        rw [insertClaim_length, e]; simp [six]

/-- Re-offer stops at 6 claims (R27). -/
theorem reoffer_length {s : State} {a : Fin 64} {cs : List Claim} (h : cs.length ≤ maxClaims) :
    (reoffer s a cs).length ≤ maxClaims := by
  have key : ∀ (act zs : List (Fin 24)) (cs : List Claim), cs.length ≤ maxClaims →
      (zs.foldl
        (fun cs z =>
          if cs.length < maxClaims then
            match (s.zone z).map[a] with
            | some e => if e.status = .shed then insertClaim act ⟨zoneSource (s.zone z) z, e.cmd⟩ cs else cs
            | none => cs
          else cs)
        cs).length ≤ maxClaims := by
    intro act zs
    induction zs with
    | nil => intro cs h; exact h
    | cons z zs ih =>
      intro cs h
      apply ih
      beta_reduce
      repeat' split
      · rw [insertClaim_length]; omega
      · exact h
      · exact h
      · exact h
  exact key s.activation s.activation cs h

/-- An OVERRIDE claim outranks every claim of another source (R19). -/
theorem override_outranks {act : List (Fin 24)} {cmd : Command} {c : Claim} (h : c.src ≠ .override) :
    outranks act ⟨.override, cmd⟩ c = true := by
  cases hs : c.src <;> simp_all [outranks, Source.level]

/-- No claim outranks an OVERRIDE claim. -/
theorem not_outranks_override {act : List (Fin 24)} {c x : Claim} (h : x.src = .override) (hc : c.src ≠ .override) :
    outranks act c x = false := by
  cases hs : c.src <;> simp_all [outranks, Source.level]

/-- A new OVERRIDE claim enters at the head (R24). -/
theorem insertClaim_override {act : List (Fin 24)} {cmd : Command} {cs : List Claim} (h : ∀ c ∈ cs, c.src ≠ .override) :
    insertClaim act ⟨.override, cmd⟩ cs = ⟨.override, cmd⟩ :: cs := by
  cases cs with
  | nil => rfl
  | cons x xs => simp [insertClaim, override_outranks (h x (by simp))]

/-- The target under an OVERRIDE claim at the head of a list that holds no other is that claim's command (R28). -/
theorem deriveTarget_override {rest : Option Command} {cmd : Command} {cs : List Claim}
    (h : ∀ c ∈ cs, c.src ≠ .override) : deriveTarget rest (⟨.override, cmd⟩ :: cs) = some cmd := by
  have zero : ∀ (l : List Claim) (m : Nat), (∀ c ∈ l, c.src ≠ .override) →
      (l.map (speedAtLevel 3)).foldl max m = m := by
    intro l
    induction l with
    | nil => intro m _; rfl
    | cons c l ih =>
      intro m hl
      have hc : c.src.level ≠ 3 := by
        have := hl c (by simp)
        cases hs : c.src <;> simp_all [Source.level]
      have e : speedAtLevel 3 c = 0 := by
        unfold speedAtLevel
        split
        · simp [hc]
        · rfl
      simp only [List.map_cons, List.foldl_cons, e, Nat.max_zero]
      exact ih m (fun x hx => hl x (by simp [hx]))
  cases cmd with
  | run speed =>
    simp only [deriveTarget, List.map_cons, List.foldl_cons]
    have e : speedAtLevel (Source.override).level ⟨.override, .run speed⟩ = speed := by simp [speedAtLevel]
    rw [e, Nat.zero_max]
    exact congrArg (fun n => some (Command.run n)) (zero cs speed h)
  | openPos => rfl
  | closedPos => rfl
  | off => rfl

end Sys2Proof.Machine
end

