-- ==== Sys2Proof/Laws/Drives.lean ====
section
/-!
SUPPORT. The drives by themselves: every operation of a reversing drive, a spring drive and a fan drive keeps it sound (R86, R93,
R110, R120).
-/

namespace Sys2Proof.Machine

-- One theorem at a time, so that the threads of many stay within the sandbox's memory.
set_option Elab.async false

/-! ## Reversing drives -/

section reversing

variable {ctx : DamperCtx} {d : DamperDrive} {deadTime limit : Nat}

/-- The parts of a reversing drive that R86 constrains are all that its soundness reads. -/
theorem ReversingSound.congr {x y : DamperDrive} (h : ReversingSound x) (h1 : y.openOut = x.openOut)
    (h2 : y.closeOut = x.closeOut) (h3 : y.driveOut = x.driveOut) (h4 : y.state = x.state) (h5 : y.deadTimer = x.deadTimer)
    (h6 : y.coolTimer = x.coolTimer) : ReversingSound y := by
  unfold ReversingSound at *
  rw [h1, h2, h3, h4, h5, h6]
  exact h

theorem toIdle_reversing (h : ReversingSound d) : ReversingSound (toIdle ctx d) := by
  simp [ReversingSound, toIdle, outputsOff, h.2.2.1]

theorem toDeadTime_reversing (n : Nat) (side : Side) (m : Bool) (h : ReversingSound d) :
    ReversingSound (toDeadTime ctx n side m d) := by
  simp [ReversingSound, toDeadTime, outputsOff, h.2.2.1]

theorem toSuspended_reversing (side : Side) (n : Nat) (m : Bool) (h : ReversingSound d) :
    ReversingSound (toSuspended ctx side n m d) := by
  simp [ReversingSound, toSuspended, outputsOff, h.2.2.1]

theorem driveFor_reversing (side : Side) (n : Nat) (k : ctx.kind = .reversing deadTime limit) (h : ReversingSound d) :
    ReversingSound (driveFor ctx side n d) := by
  cases side <;> simp [ReversingSound, driveFor, k, Side.driving, h.2.2.1]

theorem loseTimed_reversing (h : ReversingSound d) : ReversingSound (loseTimed ctx d) := by
  unfold loseTimed
  split
  · exact h.congr rfl rfl rfl rfl rfl rfl
  · exact h

theorem latchIfNone_reversing (f : DamperFault) (h : ReversingSound d) : ReversingSound (latchIfNone f d) :=
  h.congr rfl rfl rfl rfl rfl rfl

theorem latchStopping_reversing (f : DamperFault) (h : ReversingSound d) : ReversingSound (latchStopping ctx f d) := by
  unfold latchStopping
  split
  · exact h
  · exact (toIdle_reversing (ctx := ctx) h).congr (x := toIdle ctx d) rfl rfl rfl rfl rfl rfl

theorem reversingToTarget_sound (k : ctx.kind = .reversing deadTime limit) (h : ReversingSound d) (n : Nat) :
    ReversingSound (reversingToTarget ctx n d) := by
  unfold reversingToTarget
  split
  · unfold reversingFromIdle driveToward
    repeat' split
    · exact h
    · exact toSuspended_reversing _ _ _ h
    · exact toDeadTime_reversing _ _ _ h
    · exact driveFor_reversing _ _ k h
  · split
    · exact h
    · exact loseTimed_reversing (toDeadTime_reversing _ _ _ h)
  · split
    · exact h
    · exact loseTimed_reversing (toDeadTime_reversing _ _ _ h)
  · exact h.congr rfl rfl rfl rfl rfl rfl
  · split
    · exact toIdle_reversing h
    · exact driveFor_reversing _ _ k h
  · exact h

theorem toTarget_reversing (k : ctx.kind = .reversing deadTime limit) (h : ReversingSound d) :
    ReversingSound (toTarget ctx d) := by
  simp only [toTarget, k]
  exact reversingToTarget_sound k h _

theorem damperTarget_reversing (target : Side) (k : ctx.kind = .reversing deadTime limit) (h : ReversingSound d) :
    ReversingSound (damperTarget target ctx d) :=
  toTarget_reversing k (h.congr rfl rfl rfl rfl rfl rfl)

theorem judgeReversal_sound (k : ctx.kind = .reversing deadTime limit) (n : Nat) (side : Side) (h : ReversingSound d)
    (off : d.openOut = false ∧ d.closeOut = false) : ReversingSound (judgeReversal ctx n side d) := by
  have base : ReversingSound { d with
      history := d.history.filter (youngerThanWindow ctx.now)
      restartBar := d.restartBar.filter (youngerThanWindow ctx.now) } := h.congr rfl rfl rfl rfl rfl rfl
  unfold judgeReversal
  simp only []
  split
  · simp [ReversingSound, off, h.2.2.1]
  · split
    · exact (driveFor_reversing (ctx := ctx) side ctx.travelLimit k base).congr rfl rfl rfl rfl rfl rfl
    · simp [ReversingSound, off, h.2.2.1]

theorem pauseEnd_reversing (k : ctx.kind = .reversing deadTime limit) (n : Nat) (h : ReversingSound d)
    (off : d.openOut = false ∧ d.closeOut = false) : ReversingSound (pauseEnd n ctx d) := by
  unfold pauseEnd driveToward
  simp only []
  split
  · exact toIdle_reversing h
  · split
    · exact driveFor_reversing _ _ k h
    · split
      · exact judgeReversal_sound k n _ h off
      · exact driveFor_reversing _ _ k h

/-- A sound reversing drive in neither driving state has both outputs off. -/
theorem ReversingSound.outputs_off (h : ReversingSound d) (ho : d.state ≠ .drivingOpen) (hc : d.state ≠ .drivingClose) :
    d.openOut = false ∧ d.closeOut = false := by
  refine ⟨?_, ?_⟩
  · rw [h.1]; simpa using ho
  · rw [h.2.1]; simpa using hc

theorem deadTimeEnd_reversing (k : ctx.kind = .reversing deadTime limit) (h : ReversingSound d)
    (run : d.deadTimer.isSome = true) : ReversingSound (deadTimeEnd ctx d) := by
  have st : d.state = .deadTime := h.2.2.2.1 run
  have off := h.outputs_off (by simp [st]) (by simp [st])
  simp only [deadTimeEnd, k]
  exact pauseEnd_reversing k limit ⟨h.1, h.2.1, h.2.2.1, by simp, h.2.2.2.2⟩ off

theorem cooldownEnd_reversing (k : ctx.kind = .reversing deadTime limit) (h : ReversingSound d)
    (run : d.coolTimer.isSome = true) : ReversingSound (cooldownEnd ctx d) := by
  have st : d.state = .cooldown := h.2.2.2.2 run
  have off := h.outputs_off (by simp [st]) (by simp [st])
  simp only [cooldownEnd, k]
  exact pauseEnd_reversing k limit ⟨h.1, h.2.1, h.2.2.1, h.2.2.2.1, by simp⟩ off

theorem travelExpiry_reversing (h : ReversingSound d) : ReversingSound (travelExpiry ctx d) := by
  unfold travelExpiry
  split
  · unfold travelEnd
    have i : ReversingSound (toIdle ctx d) := toIdle_reversing h
    simp only []
    repeat' split
    · exact i.congr rfl rfl rfl rfl rfl rfl
    · exact i.congr rfl rfl rfl rfl rfl rfl
    · exact i.congr rfl rfl rfl rfl rfl rfl
    · exact i.congr rfl rfl rfl rfl rfl rfl
    · exact i.congr rfl rfl rfl rfl rfl rfl
    · exact i.congr rfl rfl rfl rfl rfl rfl
    · exact i
  · exact h

theorem disagreeEnd_reversing (h : ReversingSound d) : ReversingSound (disagreeEnd ctx d) :=
  latchStopping_reversing _ (h.congr rfl rfl rfl rfl rfl rfl)

theorem leftEnd_reversing (h : ReversingSound d) : ReversingSound (leftEnd ctx d) :=
  latchStopping_reversing _ (h.congr rfl rfl rfl rfl rfl rfl)

/-- The waiting judgement of a travel end keeps a drive sound (R96, R99). -/
theorem settleEndWait_reversing (r : Debounced) (h : ReversingSound d) : ReversingSound (settleEndWait r ctx d) := by
  unfold settleEndWait
  have w : ReversingSound { d with endWaits := false } := h.congr rfl rfl rfl rfl rfl rfl
  simp only []
  repeat' split
  · exact w.congr rfl rfl rfl rfl rfl rfl
  · exact latchStopping_reversing _ w
  · exact w
  · exact h

theorem switchChanged_reversing (side : Side) (r : Debounced) (h : ReversingSound d) :
    ReversingSound (switchChanged side r ctx d) := by
  unfold switchChanged
  simp only []
  have a : ReversingSound (if r.faulted = true then latchIfNone DamperFault.inputFault d else d) := by
    split
    · exact latchIfNone_reversing _ h
    · exact h
  generalize (if r.faulted = true then latchIfNone DamperFault.inputFault d else d) = d1 at a
  have b : ReversingSound (if drivingSide d1.state = some side ∧ r = Debounced.on then toIdle ctx d1 else d1) := by
    split
    · exact toIdle_reversing a
    · exact a
  generalize (if drivingSide d1.state = some side ∧ r = Debounced.on then toIdle ctx d1 else d1) = d2 at b
  have c := settleEndWait_reversing (ctx := ctx) r b
  split
  all_goals exact c.congr rfl rfl rfl rfl rfl rfl

theorem damperFaultClear_reversing (k : ctx.kind = .reversing deadTime limit) (h : ReversingSound d) :
    ReversingSound (damperFaultClear ctx d) := by
  unfold damperFaultClear
  generalize (if ctx.anyFaulted = true then some DamperFault.inputFault else none) = fl
  simp only []
  split
  · exact toTarget_reversing k (h.congr rfl rfl rfl rfl rfl rfl)
  · exact h.congr rfl rfl rfl rfl rfl rfl

theorem damperSupplyLow_reversing (k : ctx.kind = .reversing deadTime limit) (h : ReversingSound d) :
    ReversingSound (damperSupplyLow ctx d) := by
  have b : ReversingSound { d with supply := .low } := h.congr rfl rfl rfl rfl rfl rfl
  simp only [damperSupplyLow, k, reversingSupplyLow]
  split
  · exact loseTimed_reversing (toSuspended_reversing _ _ _ b)
  · exact loseTimed_reversing (toSuspended_reversing _ _ _ b)
  · exact toSuspended_reversing _ _ _ b
  · exact toSuspended_reversing _ _ _ b
  · exact b
  · exact b

theorem damperSupplyOk_reversing (k : ctx.kind = .reversing deadTime limit) (h : ReversingSound d) :
    ReversingSound (damperSupplyOk ctx d) := by
  have b : ReversingSound { d with supply := .ok } := h.congr rfl rfl rfl rfl rfl rfl
  simp only [damperSupplyOk, k, reversingSupplyOk]
  repeat' split
  · exact toIdle_reversing b
  · exact driveFor_reversing _ _ k b
  · exact toDeadTime_reversing _ _ _ b
  · exact b

theorem damperFinish_reversing (before : DamperDrive) (h : ReversingSound d) :
    ReversingSound (damperFinish ctx before d) := by
  unfold damperFinish judgeLeft
  repeat' split
  all_goals exact h.congr rfl rfl rfl rfl rfl rfl

theorem createDamper_reversing (k : ctx.kind = .reversing deadTime limit) (rest : Side) (sup : SupplyState)
    (since : Option Nat) : ReversingSound (createDamper ctx rest sup since) := by
  unfold createDamper
  refine damperFinish_reversing _ (toTarget_reversing k ?_)
  simp [ReversingSound, newDamper]

theorem damperRestarted_reversing (k : ctx.kind = .reversing deadTime limit) (h : ReversingSound d) :
    ReversingSound (damperRestarted ctx d) := by
  unfold damperRestarted
  refine ⟨h.1, h.2.1, h.2.2.1, ?_, ?_⟩
  · simp only [k, Option.isSome_map]; exact h.2.2.2.1
  · simp only [Option.isSome_map]; exact h.2.2.2.2

end reversing

/-! ## Spring drives -/

section spring

variable {ctx : DamperCtx} {d : DamperDrive} {fail : Side}

/-- The parts of a spring drive that R93 constrains are all that its soundness reads. -/
theorem SpringSound.congr {x y : DamperDrive} (h : SpringSound fail x) (h1 : y.openOut = x.openOut)
    (h2 : y.closeOut = x.closeOut) (h3 : y.driveOut = x.driveOut) (h4 : y.state = x.state) (h5 : y.target = x.target) :
    SpringSound fail y := by
  unfold SpringSound at *
  rw [h1, h2, h3, h4, h5]
  exact h

theorem toIdle_spring (h : SpringSound fail d) : SpringSound fail (toIdle ctx d) := by
  simp [SpringSound, toIdle, outputsOff, h.1]

theorem driveFor_spring (side : Side) (n : Nat) (k : ctx.kind = .spring fail) (h : SpringSound fail d) :
    SpringSound fail (driveFor ctx side n d) := by
  cases side <;> simp [SpringSound, driveFor, k, Side.driving, h.1, h.2.1, h.2.2.1]

theorem suspended_spring (h : SpringSound fail d) : SpringSound fail { d with state := .suspended, travel := .stopped } := by
  simp [SpringSound, h.1, h.2.1, h.2.2.1]

theorem loseTimed_spring (h : SpringSound fail d) : SpringSound fail (loseTimed ctx d) := by
  unfold loseTimed
  split
  · exact h.congr rfl rfl rfl rfl rfl
  · exact h

theorem latchStopping_spring (f : DamperFault) (h : SpringSound fail d) : SpringSound fail (latchStopping ctx f d) := by
  unfold latchStopping
  split
  · exact h
  · exact (toIdle_spring (ctx := ctx) h).congr (x := toIdle ctx d) rfl rfl rfl rfl rfl

/-- The output follows the target at once, whatever it was (R93). -/
theorem springToTarget_sound (k : ctx.kind = .spring fail) (h2 : d.openOut = false) (h3 : d.closeOut = false)
    (h4 : d.state ≠ .deadTime) (h5 : d.state ≠ .cooldown) : SpringSound fail (springToTarget ctx fail d) := by
  have b : SpringSound fail { d with driveOut := d.target != fail } := ⟨rfl, h2, h3, h4, h5⟩
  unfold springToTarget driveToward
  simp only []
  repeat' split
  · exact b
  · exact suspended_spring b
  · exact driveFor_spring _ _ k b

theorem toTarget_spring (k : ctx.kind = .spring fail) (h2 : d.openOut = false) (h3 : d.closeOut = false)
    (h4 : d.state ≠ .deadTime) (h5 : d.state ≠ .cooldown) : SpringSound fail (toTarget ctx d) := by
  simp only [toTarget, k]
  exact springToTarget_sound k h2 h3 h4 h5

theorem damperTarget_spring (target : Side) (k : ctx.kind = .spring fail) (h : SpringSound fail d) :
    SpringSound fail (damperTarget target ctx d) := toTarget_spring k h.2.1 h.2.2.1 h.2.2.2.1 h.2.2.2.2

theorem travelExpiry_spring (h : SpringSound fail d) : SpringSound fail (travelExpiry ctx d) := by
  unfold travelExpiry
  split
  · unfold travelEnd
    have i : SpringSound fail (toIdle ctx d) := toIdle_spring h
    simp only []
    repeat' split
    · exact i.congr rfl rfl rfl rfl rfl
    · exact i.congr rfl rfl rfl rfl rfl
    · exact i.congr rfl rfl rfl rfl rfl
    · exact i.congr rfl rfl rfl rfl rfl
    · exact i.congr rfl rfl rfl rfl rfl
    · exact i.congr rfl rfl rfl rfl rfl
    · exact i
  · exact h

theorem pausesEnd_spring (k : ctx.kind = .spring fail) (h : SpringSound fail d) :
    SpringSound fail (deadTimeEnd ctx d) ∧ SpringSound fail (cooldownEnd ctx d) := by
  simp only [deadTimeEnd, cooldownEnd, k]
  exact ⟨h, h⟩

theorem disagreeEnd_spring (h : SpringSound fail d) : SpringSound fail (disagreeEnd ctx d) :=
  latchStopping_spring _ (h.congr rfl rfl rfl rfl rfl)

theorem leftEnd_spring (h : SpringSound fail d) : SpringSound fail (leftEnd ctx d) :=
  latchStopping_spring _ (h.congr rfl rfl rfl rfl rfl)

/-- The waiting judgement of a travel end keeps a drive sound (R96, R99). -/
theorem settleEndWait_spring (r : Debounced) (h : SpringSound fail d) : SpringSound fail (settleEndWait r ctx d) := by
  unfold settleEndWait
  have w : SpringSound fail { d with endWaits := false } := h.congr rfl rfl rfl rfl rfl
  simp only []
  repeat' split
  · exact w.congr rfl rfl rfl rfl rfl
  · exact latchStopping_spring _ w
  · exact w
  · exact h

theorem switchChanged_spring (side : Side) (r : Debounced) (h : SpringSound fail d) :
    SpringSound fail (switchChanged side r ctx d) := by
  unfold switchChanged
  simp only []
  have a : SpringSound fail (if r.faulted = true then latchIfNone DamperFault.inputFault d else d) := by
    split
    · exact h.congr rfl rfl rfl rfl rfl
    · exact h
  generalize (if r.faulted = true then latchIfNone DamperFault.inputFault d else d) = d1 at a
  have b : SpringSound fail (if drivingSide d1.state = some side ∧ r = Debounced.on then toIdle ctx d1 else d1) := by
    split
    · exact toIdle_spring a
    · exact a
  generalize (if drivingSide d1.state = some side ∧ r = Debounced.on then toIdle ctx d1 else d1) = d2 at b
  have c := settleEndWait_spring (ctx := ctx) r b
  split
  all_goals exact c.congr rfl rfl rfl rfl rfl

theorem damperFaultClear_spring (k : ctx.kind = .spring fail) (h : SpringSound fail d) :
    SpringSound fail (damperFaultClear ctx d) := by
  unfold damperFaultClear
  generalize (if ctx.anyFaulted = true then some DamperFault.inputFault else none) = fl
  simp only []
  split
  · exact toTarget_spring k h.2.1 h.2.2.1 h.2.2.2.1 h.2.2.2.2
  · exact h.congr rfl rfl rfl rfl rfl

theorem damperSupplyLow_spring (k : ctx.kind = .spring fail) (h : SpringSound fail d) :
    SpringSound fail (damperSupplyLow ctx d) := by
  have b : SpringSound fail { d with supply := .low } := h.congr rfl rfl rfl rfl rfl
  simp only [damperSupplyLow, k, springSupplyLow]
  split
  · exact loseTimed_spring (suspended_spring b)
  · exact b

theorem damperSupplyOk_spring (k : ctx.kind = .spring fail) (h : SpringSound fail d) :
    SpringSound fail (damperSupplyOk ctx d) := by
  have b : SpringSound fail { d with supply := .ok } := h.congr rfl rfl rfl rfl rfl
  simp only [damperSupplyOk, k, springSupplyOk]
  repeat' split
  · exact toIdle_spring b
  · exact driveFor_spring _ _ k b
  · exact b

theorem damperFinish_spring (before : DamperDrive) (h : SpringSound fail d) :
    SpringSound fail (damperFinish ctx before d) := by
  unfold damperFinish judgeLeft
  repeat' split
  all_goals exact h.congr rfl rfl rfl rfl rfl

theorem createDamper_spring (k : ctx.kind = .spring fail) (rest : Side) (sup : SupplyState) (since : Option Nat) :
    SpringSound fail (createDamper ctx rest sup since) := by
  unfold createDamper
  refine damperFinish_spring _ (toTarget_spring k ?_ ?_ ?_ ?_) <;> simp [newDamper]

theorem damperRestarted_spring (h : SpringSound fail d) : SpringSound fail (damperRestarted ctx d) :=
  h.congr rfl rfl rfl rfl rfl

end spring

/-! ## Fan drives -/

section fan

variable {ctx : FanCtx} {f : FanDrive}

/-- The parts of a fan drive that its soundness reads. -/
theorem FanSound.congr {d : FanDef} {x y : FanDrive} (h : FanSound d x) (h1 : y.state = x.state) (h2 : y.fault = x.fault)
    (h3 : y.target = x.target) (h4 : y.attempts = x.attempts) (h5 : y.runOut = x.runOut) (h6 : y.startTimer = x.startTimer)
    (h7 : y.stopTimer = x.stopTimer) (h8 : y.lossTimer = x.lossTimer) (h9 : y.restartTimer = x.restartTimer)
    (h10 : y.rampTimer = x.rampTimer) : FanSound d y := by
  unfold FanSound runOutputKept at *
  rw [h1, h2, h3, h4, h5, h6, h7, h8, h9, h10]
  exact h

theorem switchOn_runOut (f : FanDrive) : (switchOn ctx f).runOut = true := by
  unfold switchOn; split <;> simp_all

/-- In a sound fan the ramp timer runs exactly while the run output is on (R110). -/
theorem FanSound.ramp {d : FanDef} (h : FanSound d f) : f.rampTimer.isSome = f.runOut := h.2.2.2.2.2.2.2.2

/-- The fan enters FAILED soundly whatever it was, its attempts being within the record's (R120). -/
theorem latchFan_sound (fault : FanFault) (h : f.attempts ≤ ctx.definition.restartAttempts)
    (ramp : f.rampTimer.isSome = f.runOut) :
    FanSound ctx.definition (latchFan ctx fault f) := by
  obtain ⟨state, fault', target, attempts, last, runOut, t1, t2, t3, t4, t5, w, p, dm, cl, r, q⟩ := f
  cases fault <;> cases target <;> cases runOut <;>
    simp_all [FanSound, latchFan, failedFan, stopTimers, switchOn, switchOff, runOutputKept, Command.isRun]

/-- A failure leaves the fan sound (R116). -/
theorem fanFailure_sound (kind : FanFault) (h : f.attempts ≤ ctx.definition.restartAttempts)
    (nf : f.fault = none) (ramp : f.rampTimer.isSome = f.runOut) : FanSound ctx.definition (fanFailure ctx kind f) := by
  unfold fanFailure
  split
  · rename_i lt
    simp [FanSound, switchOff, stopTimers, runOutputKept, nf, h, lt]
  · exact latchFan_sound kind h ramp

/-- The judgement of proof keeps a fan sound (R114, R115, R119). -/
theorem judgeFan_sound (h : FanSound ctx.definition f) : FanSound ctx.definition (judgeFan ctx f) := by
  obtain ⟨state, fault', target, attempts, last, runOut, t1, t2, t3, t4, t5, w, p, dm, cl, r, q⟩ := f
  unfold judgeFan toRunning toStopped
  cases state <;> simp only [] <;> (try split) <;>
    first
    | exact h
    | (simp_all [FanSound, runOutputKept]; try tauto)

theorem setDemand_fields (f : FanDrive) :
    (setDemand ctx f).state = f.state ∧ (setDemand ctx f).fault = f.fault ∧ (setDemand ctx f).target = f.target ∧
      (setDemand ctx f).attempts = f.attempts ∧ (setDemand ctx f).runOut = f.runOut ∧
      (setDemand ctx f).startTimer = f.startTimer ∧ (setDemand ctx f).stopTimer = f.stopTimer ∧
      (setDemand ctx f).lossTimer = f.lossTimer ∧ (setDemand ctx f).restartTimer = f.restartTimer ∧
      (setDemand ctx f).rampTimer = f.rampTimer := by
  unfold setDemand
  split
  · simp
  · split <;> simp

/-- A start leaves the fan sound, whatever it was but for its ramp timer (R113). -/
theorem startFan_sound (f : FanDrive) (ramp : f.rampTimer.isSome = f.runOut) : FanSound ctx.definition (startFan ctx f) := by
  unfold startFan
  apply judgeFan_sound
  obtain ⟨state, fault', target, attempts, last, runOut, t1, t2, t3, t4, t5, w, p, dm, cl, r, q⟩ := f
  cases runOut <;> simp_all [FanSound, switchOn, stopTimers, runOutputKept]

/-- A stop leaves the fan sound, whatever it was (R118). -/
theorem stopFan_sound (f : FanDrive) : FanSound ctx.definition (stopFan ctx f) := by
  unfold stopFan
  apply judgeFan_sound
  simp [FanSound, switchOff, stopTimers, runOutputKept]

/-- A target change keeps a fan sound (R113, R118, R123). -/
theorem fanTarget_sound (target : Command) (h : FanSound ctx.definition f) :
    FanSound ctx.definition (fanTarget target ctx f) := by
  unfold fanTarget
  simp only []
  split
  · obtain ⟨-, -, -, -, e5, -, -, -, -, e10⟩ := setDemand_fields (ctx := ctx) { f with target := target }
    split
    · exact startFan_sound _ (by rw [e10, e5]; exact h.ramp)
    · exact stopFan_sound _
  · rename_i same
    obtain ⟨e1, e2, e3, e4, e5, e6, e7, e8, e9, e10⟩ := setDemand_fields (ctx := ctx) { f with target := target }
    have kept : FanSound ctx.definition { f with target := target } := by
      refine ⟨?_, h.2⟩
      have out := h.1
      unfold runOutputKept at out ⊢
      have run : f.target.isRun = target.isRun := by simpa [runStopChange] using same
      cases hs : f.state <;> simp_all
    exact kept.congr e1 e2 e3 e4 e5 e6 e7 e8 e9 e10

theorem startProofEnd_sound (h : FanSound ctx.definition f) (run : f.startTimer.isSome = true) :
    FanSound ctx.definition (startProofEnd ctx f) := by
  have st := h.2.2.2.2.2.1 run
  have nf : f.fault = none := by
    have := h.2.1
    rw [st] at this
    simpa using this
  have cleared : FanSound ctx.definition { f with startTimer := none } :=
    ⟨h.1, h.2.1, h.2.2.1, h.2.2.2.1, h.2.2.2.2.1, by simp, h.2.2.2.2.2.2.1, h.2.2.2.2.2.2.2⟩
  have on : f.runOut = true := by have := h.1; simpa [runOutputKept, st] using this
  have running : FanSound ctx.definition (toRunning { f with startTimer := none }) := by
    have := h.2.2.2.2.1
    have := h.2.2.2.2.2.2.1
    have := h.2.2.2.2.2.2.2
    have := h.2.2.1
    simp_all [FanSound, toRunning, runOutputKept]
  unfold startProofEnd
  simp only []
  split
  · exact running
  · exact running
  · exact fanFailure_sound _ h.2.2.1 nf h.ramp
  · split
    · exact latchFan_sound _ h.2.2.1 h.ramp
    · exact cleared.congr rfl rfl rfl rfl rfl rfl rfl rfl rfl rfl

theorem stopProofEnd_sound (h : FanSound ctx.definition f) (run : f.stopTimer.isSome = true) :
    FanSound ctx.definition (stopProofEnd ctx f) := by
  have st := h.2.2.2.2.2.2.1 run
  have cleared : FanSound ctx.definition { f with stopTimer := none } :=
    ⟨h.1, h.2.1, h.2.2.1, h.2.2.2.1, h.2.2.2.2.1, h.2.2.2.2.2.1, by simp, h.2.2.2.2.2.2.2⟩
  have stopped : FanSound ctx.definition (toStopped { f with stopTimer := none }) := by
    have := h.1
    have := h.2.1
    have := h.2.2.2.2.1
    have := h.2.2.2.2.2.1
    have := h.2.2.2.2.2.2.2
    have := h.2.2.1
    simp_all [FanSound, toStopped, runOutputKept]
  unfold stopProofEnd
  simp only []
  split
  · exact stopped
  · exact stopped
  · exact latchFan_sound _ h.2.2.1 h.ramp
  · split
    · exact latchFan_sound _ h.2.2.1 h.ramp
    · exact cleared.congr rfl rfl rfl rfl rfl rfl rfl rfl rfl rfl

theorem runLossEnd_sound (h : FanSound ctx.definition f) (run : f.lossTimer.isSome = true) :
    FanSound ctx.definition (runLossEnd ctx f) := by
  have st := h.2.2.2.2.2.2.2.1 run
  have nf : f.fault = none := by
    have := h.2.1
    rw [st] at this
    simpa using this
  exact fanFailure_sound _ h.2.2.1 nf h.ramp

theorem restartDelayEnd_sound (h : FanSound ctx.definition f) (run : f.restartTimer.isSome = true) :
    FanSound ctx.definition (restartDelayEnd ctx f) := by
  have st := h.2.2.2.2.1 run
  have lt := h.2.2.2.1 st
  have nf : f.fault = none := by
    have := h.2.1
    rw [st] at this
    simpa using this
  have s3 : f.stopTimer = none := by
    have := h.2.2.2.2.2.2.1
    rw [st] at this
    simpa using this
  have s4 : f.lossTimer = none := by
    have := h.2.2.2.2.2.2.2.1
    rw [st] at this
    simpa using this
  unfold restartDelayEnd
  apply judgeFan_sound
  obtain ⟨state, fault', target, attempts, last, runOut, t1, t2, t3, t4, t5, w, p, dm, cl, r, q⟩ := f
  have ramp := h.ramp
  simp only at lt nf s3 s4 ramp
  subst nf s3 s4
  cases runOut <;> simp_all [FanSound, switchOn, runOutputKept]

theorem fanRamp_sound (h : FanSound ctx.definition f) (run : f.rampTimer.isSome = true) :
    FanSound ctx.definition (fanRamp ctx f) := by
  have stepped : FanSound ctx.definition { f with rampTimer := some (ctx.now + rampTime) } := by
    refine ⟨h.1, h.2.1, h.2.2.1, h.2.2.2.1, h.2.2.2.2.1, h.2.2.2.2.2.1, h.2.2.2.2.2.2.1, h.2.2.2.2.2.2.2.1, ?_⟩
    rw [← h.ramp, run]
    rfl
  unfold fanRamp
  simp only []
  split
  · split
    · exact stepped
    · exact stepped.congr rfl rfl rfl rfl rfl rfl rfl rfl rfl rfl
  · exact stepped

theorem settleWaiting_sound (h : FanSound ctx.definition f) : FanSound ctx.definition (settleWaiting ctx f) := by
  have judged := judgeFan_sound h
  unfold settleWaiting
  split
  · rename_i st ev
    simpa [judgeFan, st, ev] using judged
  · rename_i st ev
    refine fanFailure_sound _ h.2.2.1 ?_ h.ramp
    have := h.2.1
    rw [st] at this
    simpa using this
  · rename_i st ev
    simpa [judgeFan, st, ev] using judged
  · exact latchFan_sound _ h.2.2.1 h.ramp
  · exact judged

theorem fanInput_sound (r : Debounced) (h : FanSound ctx.definition f) : FanSound ctx.definition (fanInput r ctx f) := by
  unfold fanInput
  split
  · split
    · exact h
    · exact latchFan_sound _ h.2.2.1 h.ramp
  · split
    · exact settleWaiting_sound h
    · exact judgeFan_sound h

theorem fanChannel_sound (h : FanSound ctx.definition f) : FanSound ctx.definition (fanChannel ctx f) :=
  judgeFan_sound (h.congr rfl rfl rfl rfl rfl rfl rfl rfl rfl rfl)

theorem fanFaultClear_sound (h : FanSound ctx.definition f) : FanSound ctx.definition (fanFaultClear ctx f) := by
  unfold fanFaultClear
  simp only []
  split
  · split
    · exact latchFan_sound _ (Nat.zero_le _) h.ramp
    · split
      · exact startFan_sound _ h.ramp
      · exact stopFan_sound _
  · rename_i st
    have nf : f.fault = none := by
      have := h.2.1
      simpa [st] using this
    have lt := h.2.2.2.1
    refine ⟨?_, ?_, Nat.zero_le _, ?_, h.2.2.2.2⟩
    · have out := h.1
      unfold runOutputKept at out ⊢
      cases hs : f.state <;> simp_all
    · simp [st]
    · intro e
      exact Nat.lt_of_le_of_lt (Nat.zero_le _) (lt e)

theorem createFan_sound : FanSound ctx.definition (createFan ctx) := by
  unfold createFan
  apply judgeFan_sound
  simp [FanSound, runOutputKept]

theorem fanRestarted_sound (h : FanSound ctx.definition f) : FanSound ctx.definition (fanRestarted ctx f) := by
  unfold fanRestarted
  refine ⟨h.1, h.2.1, h.2.2.1, h.2.2.2.1, ?_, ?_, ?_, by simp, ?_⟩
  · simpa using h.2.2.2.2.1
  · simpa using h.2.2.2.2.2.1
  · simpa using h.2.2.2.2.2.2.1
  · simp only []
    split <;> simp_all

end fan

end Sys2Proof.Machine
end

