-- ==== Sys2Proof/Laws/Engine.lean ====
section
/-!
SUPPORT. What an event's operations on lists and drives, and the Sequence Engine after them, leave as it was: one relation, `Keeps`,
shown once for each shared operation.
-/

namespace Sys2Proof.Machine

-- One theorem at a time, so that the threads of many stay within the sandbox's memory.
set_option Elab.async false

/-- What the list operations, the drives and the Sequence Engine never touch: definitions, the store, the samples, the clock,
the Activation List, stand-down, a zone's mode, sources and past records, and a port but for its change flag, which is never
cleared. -/
structure Keeps (s t : State) : Prop where
  pending : t.pending = s.pending
  now : t.now = s.now
  cutWrites : t.cutWrites = s.cutWrites
  power : t.power = s.power
  configFault : t.configFault = s.configFault
  start : t.start = s.start
  store : t.store = s.store
  siteCode : t.siteCode = s.siteCode
  plant : t.plant = s.plant
  sequences : t.sequences = s.sequences
  activation : t.activation = s.activation
  overrides : t.overrides = s.overrides
  standDown : t.standDown = s.standDown
  standDownOption : t.standDownOption = s.standDownOption
  inputs : t.inputs = s.inputs
  filters : t.filters = s.filters
  key : t.key = s.key
  channels : t.channels = s.channels
  scan : t.scan = s.scan
  supply : t.supply = s.supply
  applied : t.applied = s.applied
  mode : ∀ z, (t.zone z).mode = (s.zone z).mode
  sourceA : ∀ z, (t.zone z).sourceA = (s.zone z).sourceA
  sourceB : ∀ z, (t.zone z).sourceB = (s.zone z).sourceB
  suspended : ∀ z, (t.zone z).suspended = (s.zone z).suspended
  lastTest : ∀ z, (t.zone z).lastTest = (s.zone z).lastTest
  lastFire : ∀ z, (t.zone z).lastFire = (s.zone z).lastFire
  ports : ∀ l, (t.port l).raise = (s.port l).raise
  flags : ∀ l, (s.port l).changeFlag = true → (t.port l).changeFlag = true

theorem Keeps.refl (s : State) : Keeps s s := by constructor <;> simp

theorem Keeps.trans {s t u : State} (x : Keeps s t) (y : Keeps t u) : Keeps s u where
  pending := y.pending.trans x.pending
  now := y.now.trans x.now
  cutWrites := y.cutWrites.trans x.cutWrites
  power := y.power.trans x.power
  configFault := y.configFault.trans x.configFault
  start := y.start.trans x.start
  store := y.store.trans x.store
  siteCode := y.siteCode.trans x.siteCode
  plant := y.plant.trans x.plant
  sequences := y.sequences.trans x.sequences
  activation := y.activation.trans x.activation
  overrides := y.overrides.trans x.overrides
  standDown := y.standDown.trans x.standDown
  standDownOption := y.standDownOption.trans x.standDownOption
  inputs := y.inputs.trans x.inputs
  filters := y.filters.trans x.filters
  key := y.key.trans x.key
  channels := y.channels.trans x.channels
  scan := y.scan.trans x.scan
  supply := y.supply.trans x.supply
  applied := y.applied.trans x.applied
  mode z := (y.mode z).trans (x.mode z)
  sourceA z := (y.sourceA z).trans (x.sourceA z)
  sourceB z := (y.sourceB z).trans (x.sourceB z)
  suspended z := (y.suspended z).trans (x.suspended z)
  lastTest z := (y.lastTest z).trans (x.lastTest z)
  lastFire z := (y.lastFire z).trans (x.lastFire z)
  ports l := (y.ports l).trans (x.ports l)
  flags l h := y.flags l (x.flags l h)

/-! ## The updates -/

theorem keeps_setList (s : State) (a : Fin 64) (x : ClaimList) : Keeps s (s.setList a x) := by constructor <;> simp

theorem keeps_setDrive (s : State) (a : Fin 64) (d : Drive) : Keeps s (s.setDrive a d) := by constructor <;> simp

theorem keeps_raiseFlags (s : State) : Keeps s s.raiseFlags := by
  constructor <;> intros <;> simp_all [Port.raise]

/-- A zone record written with the fields that an engine event leaves. -/
theorem keeps_setZone (s : State) (z : Fin 24) (r : ZoneRecord) (h1 : r.mode = (s.zone z).mode)
    (h2 : r.sourceA = (s.zone z).sourceA) (h3 : r.sourceB = (s.zone z).sourceB) (h4 : r.suspended = (s.zone z).suspended)
    (h5 : r.lastTest = (s.zone z).lastTest) (h6 : r.lastFire = (s.zone z).lastFire) : Keeps s (s.setZone z r) := by
  constructor <;> try simp
  all_goals
    intro y
    by_cases e : y = z
    · subst e; simp [*]
    · rw [State.setZone_zone_other s r e]

/-- A fold of steps that each keep. -/
theorem keeps_foldl {α : Type} (f : State → α → State) (h : ∀ s a, Keeps s (f s a)) (l : List α) (s : State) :
    Keeps s (l.foldl f s) := by
  induction l generalizing s with
  | nil => exact Keeps.refl s
  | cons a l ih => exact (h s a).trans (ih (f s a))

/-- A fold of steps of an event that each keep. -/
theorem keeps_foldl_work {α : Type} (f : Work → α → Work) (h : ∀ w a, Keeps w.st (f w a).st) (l : List α) (w : Work) :
    Keeps w.st (l.foldl f w).st := by
  induction l generalizing w with
  | nil => exact Keeps.refl _
  | cons a l ih => exact (h w a).trans (ih (f w a))

/-! ## Drives -/

theorem keeps_handNotice (a : Fin 64) (x y : Drive) (w : Work) : Keeps w.st (handNotice a x y w).st := by
  simp only [handNotice]
  split <;> split <;> first | exact Keeps.refl _ | exact keeps_raiseFlags _

theorem keeps_damperEvent (a : Fin 64) (act : DamperCtx → DamperDrive → DamperDrive) (w : Work) :
    Keeps w.st (damperEvent a act w).st := by
  unfold damperEvent
  split
  · refine Keeps.trans ?_ (keeps_handNotice a _ _ _); exact keeps_setDrive _ _ _
  · exact Keeps.refl _

theorem keeps_fanEvent (a : Fin 64) (act : FanCtx → FanDrive → FanDrive) (w : Work) : Keeps w.st (fanEvent a act w).st := by
  unfold fanEvent
  split
  · refine Keeps.trans ?_ (keeps_handNotice a _ _ _); exact keeps_setDrive _ _ _
  · exact Keeps.refl _

theorem keeps_handTarget (a : Fin 64) (c : Command) (w : Work) : Keeps w.st (handTarget a c w).st := by
  unfold handTarget
  split
  · exact (keeps_damperEvent _ _ _).trans (keeps_fanEvent _ _ _)
  · exact keeps_fanEvent _ _ _

theorem keeps_handInput (i : Fin 128) (w : Work) : Keeps w.st (handInput i w).st := by
  unfold handInput
  split
  · exact Keeps.refl _
  · simp only []
    split
    · exact keeps_fanEvent _ _ _
    · exact keeps_damperEvent _ _ _
    · exact keeps_damperEvent _ _ _
    · exact Keeps.refl _

theorem keeps_handChannel (c : Fin 16) (w : Work) : Keeps w.st (handChannel c w).st := by
  unfold handChannel
  refine keeps_foldl_work _ (fun w a => ?_) _ _
  split
  · exact keeps_fanEvent _ _ _
  · exact Keeps.refl _

/-! ## Lists and maps -/

theorem keeps_refreshEntry (a : Fin 64) (s : State) (z : Fin 24) : Keeps s (refreshEntry a s z) := by
  unfold refreshEntry
  simp only []
  split
  · exact Keeps.refl _
  · exact keeps_setZone _ _ _ rfl rfl rfl rfl rfl rfl

theorem keeps_refreshEntries (a : Fin 64) (s : State) : Keeps s (refreshEntries a s) :=
  keeps_foldl _ (fun s z => keeps_refreshEntry a s z) _ _

theorem keeps_endListOp (a : Fin 64) (cs : List Claim) (m : Bool) (w : Work) : Keeps w.st (endListOp a cs m w).st := by
  unfold endListOp
  simp only [Work.map_st]
  refine Keeps.trans ?_ (keeps_refreshEntries a _)
  split
  · exact keeps_setList _ _ _
  · split
    · refine Keeps.trans ?_ (keeps_handTarget _ _ _); exact keeps_setList _ _ _
    · exact keeps_setList _ _ _

theorem keeps_placeOp (a : Fin 64) (src : Source) (cmd : Command) (w : Work) : Keeps w.st (placeOp a src cmd w).1.st := by
  unfold placeOp
  simp only []
  split
  · exact Keeps.refl _
  · exact (keeps_setList _ _ _).trans (keeps_refreshEntries a _)
  · exact keeps_endListOp _ _ _ _

theorem keeps_withdrawOp (a : Fin 64) (src : Source) (w : Work) : Keeps w.st (withdrawOp a src w).st := by
  unfold withdrawOp
  simp only []
  split
  · exact Keeps.refl _
  · exact keeps_endListOp _ _ _ _

/-! ## Stages -/

theorem keeps_judgeStage (s : State) (z : Fin 24) : Keeps s (judgeStage s z) := by
  unfold judgeStage
  simp only []
  split
  · exact Keeps.refl _
  · split
    · exact keeps_setZone _ _ _ rfl rfl rfl rfl rfl rfl
    · exact Keeps.refl _

theorem keeps_judgeSub (s : State) (z : Fin 24) : Keeps s (judgeSub s z) := by
  unfold judgeSub
  simp only []
  split
  · exact Keeps.refl _
  · refine Keeps.trans ?_ (keeps_raiseFlags _); exact keeps_setZone _ _ _ rfl rfl rfl rfl rfl rfl

theorem keeps_judgeZones (s : State) : Keeps s (judgeZones s) :=
  keeps_foldl _ (fun s z => (keeps_judgeStage s z).trans (keeps_judgeSub _ z)) _ _

theorem keeps_finishStage (s : State) (z : Fin 24) (cs : CurrentStage) : Keeps s (finishStage s z cs) := by
  unfold finishStage
  simp only []
  split
  · refine Keeps.trans ?_ (keeps_raiseFlags _); exact keeps_setZone _ _ _ rfl rfl rfl rfl rfl rfl
  · split
    · refine Keeps.trans ?_ (keeps_raiseFlags _); exact keeps_setZone _ _ _ rfl rfl rfl rfl rfl rfl
    · exact keeps_setZone _ _ _ rfl rfl rfl rfl rfl rfl

theorem keeps_expireWindow (s : State) (z : Fin 24) (cs : CurrentStage) : Keeps s (expireWindow s z cs) := by
  unfold expireWindow
  refine Keeps.trans ?_ (keeps_finishStage _ _ _); exact keeps_setZone _ _ _ rfl rfl rfl rfl rfl rfl

theorem keeps_resumeZone (touched : List (Fin 64)) (s : State) (z : Fin 24) : Keeps s (resumeZone touched s z) := by
  unfold resumeZone
  simp only []
  split
  · split
    · split
      · refine Keeps.trans ?_ (keeps_raiseFlags _); exact keeps_setZone _ _ _ rfl rfl rfl rfl rfl rfl
      · refine Keeps.trans ?_ (keeps_raiseFlags _); exact keeps_setZone _ _ _ rfl rfl rfl rfl rfl rfl
    · exact Keeps.refl _
  · exact Keeps.refl _

theorem keeps_resumeZones (w : Work) : Keeps w.st (resumeZones w).st :=
  keeps_foldl _ (fun s z => keeps_resumeZone w.touched s z) _ _

theorem keeps_placeCommand (z : Fin 24) (w : Work) (c : StageCommand) : Keeps w.st (placeCommand z w c).st := by
  unfold placeCommand
  simp only [Work.map_st]
  refine Keeps.trans ?_ (keeps_refreshEntries _ _)
  refine Keeps.trans ?_ (keeps_placeOp _ _ _ _)
  exact keeps_setZone _ _ _ rfl rfl rfl rfl rfl rfl

theorem keeps_issueStage (z : Fin 24) (cs : CurrentStage) (mark : Bool) (w : Work) :
    Keeps w.st (issueStage z cs mark w).st := by
  unfold issueStage
  simp only [Work.map_st]
  exact (keeps_foldl_work _ (fun w c => keeps_placeCommand z w c) _ w).trans
    (keeps_setZone _ _ _ rfl rfl rfl rfl rfl rfl)

theorem keeps_takeStage (z : Fin 24) (cs : CurrentStage) (w : Work) : Keeps w.st (takeStage z cs w).st := by
  unfold takeStage
  split
  · exact keeps_issueStage _ _ _ _
  · simp only []
    split
    · exact keeps_finishStage _ _ _
    · exact keeps_issueStage _ _ _ _
    · exact keeps_issueStage _ _ _ _
    · exact keeps_setZone _ _ _ rfl rfl rfl rfl rfl rfl

theorem keeps_advanceZone (z : Fin 24) (w : Work) : Keeps w.st (advanceZone z w).st := by
  unfold advanceZone
  split
  · exact Keeps.refl _
  · split
    · exact keeps_takeStage _ _ _
    · exact keeps_finishStage _ _ _

theorem keeps_engineLoop (n : Nat) (w : Work) : Keeps w.st (engineLoop n w).st := by
  induction n generalizing w with
  | zero => exact Keeps.refl _
  | succ n ih =>
    have judged : Keeps w.st ((resumeZones w).map judgeZones).st :=
      (keeps_resumeZones w).trans (keeps_judgeZones _)
    simp only [engineLoop]
    split
    · exact judged
    · exact judged.trans ((keeps_advanceZone _ _).trans (ih _))

/-- The engine after an event's own operations keeps all that `Keeps` names. -/
theorem keeps_runEvent (s : State) (f : Work → Work) : Keeps (f (Work.start s)).st (runEvent s f) :=
  keeps_engineLoop engineRounds (f (Work.start s))

/-- The engine after an event whose operations also give a value. -/
theorem keeps_runEventWith {α : Type} (s : State) (f : Work → Work × α) :
    Keeps (f (Work.start s)).1.st (runEventWith s f).1 :=
  keeps_engineLoop engineRounds (f (Work.start s)).1

/-! ## No zone active -/

/-- With no zone in the Activation List the engine leaves the state of the event's operations as it is. -/
theorem engineLoop_idle {n : Nat} {w : Work} (h : w.st.activation = []) : (engineLoop n w).st = w.st := by
  cases n with
  | zero => rfl
  | succ n => simp [engineLoop, resumeZones, judgeZones, h]

theorem runEvent_idle {s : State} {f : Work → Work} (h : (f (Work.start s)).st.activation = []) :
    runEvent s f = (f (Work.start s)).st := engineLoop_idle h

/-! ## Hands of supply and channels -/

theorem keeps_judgeGate (c : Fin 16) (w : Work) (z : Fin 24) : Keeps w.st (judgeGate c w z).st := by
  unfold judgeGate
  simp only []
  split
  · exact Keeps.refl _
  · split
    · split
      · exact Keeps.refl _
      · split
        · exact keeps_issueStage _ _ _ _
        · exact Keeps.refl _
    · exact Keeps.refl _

theorem keeps_channelNotice (c : Fin 16) (w : Work) : Keeps w.st (channelNotice c w).st := by
  unfold channelNotice
  exact (keeps_handChannel c w).trans (keeps_foldl_work _ (fun w z => keeps_judgeGate c w z) _ _)

end Sys2Proof.Machine
end

