-- ==== Sys2Proof/Laws/PerInstr.lean ====
section
/-!
SUPPORT. The per-command family RequestRole: a well-formed request command has a kind that R167's table knows and that its line may
send, and a fixed body length exactly where the command has no varying body.
-/

namespace Sys2Proof.Laws

-- One theorem at a time, so that the threads of many stay within the sandbox's memory.
set_option Elab.async false

/-- A well-formed request's kind is in R167's table and may be sent on the request's line. -/
def RequestRole.Statement (i : Instr) : Prop :=
  i.wellFormed = true →
    ∀ l k, i.request = some (l, k) → kindKnown k = true ∧ lineMaySend l k = true

/-- The shared part of every case: the check of well-formedness on the line, and the kind's place in the table. -/
theorem roleOf {i : Instr} (known : ∀ l k, i.request = some (l, k) → kindKnown k = true) : RequestRole.Statement i := by
  intro h l k e
  refine ⟨known l k e, ?_⟩
  simp only [Instr.wellFormed, e, Bool.and_eq_true] at h
  exact h.1

theorem RequestRole.poll : ∀ (line : Line), RequestRole.Statement (.poll line) :=
  fun _ => roleOf (by simp +contextual [Instr.request, kindKnown])

theorem RequestRole.readSummary : ∀ (line : Line) (page : Byte), RequestRole.Statement (.readSummary line page) :=
  fun _ _ => roleOf (by simp +contextual [Instr.request, kindKnown])

theorem RequestRole.readZone : ∀ (line : Line) (zone part : Byte), RequestRole.Statement (.readZone line zone part) :=
  fun _ _ _ => roleOf (by simp +contextual [Instr.request, kindKnown])

theorem RequestRole.readActuator : ∀ (line : Line) (actuator : Byte), RequestRole.Statement (.readActuator line actuator) :=
  fun _ _ => roleOf (by simp +contextual [Instr.request, kindKnown])

theorem RequestRole.zoneAlarm : ∀ (panel : Panel) (zone : Byte), RequestRole.Statement (.zoneAlarm panel zone) :=
  fun _ _ => roleOf (by simp +contextual [Instr.request, kindKnown])

theorem RequestRole.zoneReset : ∀ (panel : Panel) (zone : Byte), RequestRole.Statement (.zoneReset panel zone) :=
  fun _ _ => roleOf (by simp +contextual [Instr.request, kindKnown])

theorem RequestRole.overrideSet : ∀ (actuator command : Byte) (speed : Half), RequestRole.Statement (.overrideSet actuator command speed) :=
  fun _ _ _ => roleOf (by simp +contextual [Instr.request, kindKnown])

theorem RequestRole.overrideRelease : ∀ (actuator : Byte), RequestRole.Statement (.overrideRelease actuator) :=
  fun _ => roleOf (by simp +contextual [Instr.request, kindKnown])

theorem RequestRole.standDown : ∀ (option : Byte), RequestRole.Statement (.standDown option) :=
  fun _ => roleOf (by simp +contextual [Instr.request, kindKnown])

theorem RequestRole.resume : RequestRole.Statement (.resume) :=
  roleOf (by simp +contextual [Instr.request, kindKnown])

theorem RequestRole.faultClear : ∀ (line : Line) (actuator : Byte), RequestRole.Statement (.faultClear line actuator) :=
  fun _ _ => roleOf (by simp +contextual [Instr.request, kindKnown])

theorem RequestRole.normalSet : ∀ (actuator command : Byte) (speed : Half), RequestRole.Statement (.normalSet actuator command speed) :=
  fun _ _ _ => roleOf (by simp +contextual [Instr.request, kindKnown])

theorem RequestRole.normalRelease : ∀ (actuator : Byte), RequestRole.Statement (.normalRelease actuator) :=
  fun _ => roleOf (by simp +contextual [Instr.request, kindKnown])

theorem RequestRole.normalGroup : ∀ (body : List Byte), RequestRole.Statement (.normalGroup body) :=
  fun _ => roleOf (by simp +contextual [Instr.request, kindKnown])

theorem RequestRole.testStart : ∀ (zone reason : Byte), RequestRole.Statement (.testStart zone reason) :=
  fun _ _ => roleOf (by simp +contextual [Instr.request, kindKnown])

theorem RequestRole.testEnd : ∀ (zone : Byte), RequestRole.Statement (.testEnd zone) :=
  fun _ => roleOf (by simp +contextual [Instr.request, kindKnown])

theorem RequestRole.configRead : ∀ (body : List Byte), RequestRole.Statement (.configRead body) :=
  fun _ => roleOf (by simp +contextual [Instr.request, kindKnown])

theorem RequestRole.configWrite : ∀ (body : List Byte), RequestRole.Statement (.configWrite body) :=
  fun _ => roleOf (by simp +contextual [Instr.request, kindKnown])

theorem RequestRole.configActivateApply : ∀ (sector : Byte), RequestRole.Statement (.configActivateApply sector) :=
  fun _ => roleOf (by simp +contextual [Instr.request, kindKnown])

theorem RequestRole.configActivateDiscard : ∀ (sector : Byte), RequestRole.Statement (.configActivateDiscard sector) :=
  fun _ => roleOf (by simp +contextual [Instr.request, kindKnown])

theorem RequestRole.restart : RequestRole.Statement (.restart) :=
  roleOf (by simp +contextual [Instr.request, kindKnown])

theorem RequestRole.frameReceived : ∀ (line : Line) (frame : List Byte), RequestRole.Statement (.frameReceived line frame) :=
  fun _ _ => roleOf (by simp +contextual [Instr.request, kindKnown])

theorem RequestRole.gapTimerExpiry : ∀ (line : Line), RequestRole.Statement (.gapTimerExpiry line) :=
  fun _ => roleOf (by simp +contextual [Instr.request, kindKnown])

theorem RequestRole.answerSent : ∀ (line : Line), RequestRole.Statement (.answerSent line) :=
  fun _ => roleOf (by simp +contextual [Instr.request, kindKnown])

theorem RequestRole.supervisionTimerExpiry : ∀ (line : Line), RequestRole.Statement (.supervisionTimerExpiry line) :=
  fun _ => roleOf (by simp +contextual [Instr.request, kindKnown])

theorem RequestRole.coldStart : RequestRole.Statement (.coldStart) :=
  roleOf (by simp +contextual [Instr.request, kindKnown])

theorem RequestRole.powerLoss : RequestRole.Statement (.powerLoss) :=
  roleOf (by simp +contextual [Instr.request, kindKnown])

theorem RequestRole.warmRestartStart : ∀ (cause : WarmCause), RequestRole.Statement (.warmRestartStart cause) :=
  fun _ => roleOf (by simp +contextual [Instr.request, kindKnown])

theorem RequestRole.supervisor : RequestRole.Statement (.supervisor) :=
  roleOf (by simp +contextual [Instr.request, kindKnown])

theorem RequestRole.warmRestartEnd : RequestRole.Statement (.warmRestartEnd) :=
  roleOf (by simp +contextual [Instr.request, kindKnown])

theorem RequestRole.inputSample : ∀ (input : Fin 128) (current : Nat), RequestRole.Statement (.inputSample input current) :=
  fun _ _ => roleOf (by simp +contextual [Instr.request, kindKnown])

theorem RequestRole.keyLineSample : ∀ (current : Nat), RequestRole.Statement (.keyLineSample current) :=
  fun _ => roleOf (by simp +contextual [Instr.request, kindKnown])

theorem RequestRole.channelConversion : ∀ (channel : Fin 16) (code : BitVec 10), RequestRole.Statement (.channelConversion channel code) :=
  fun _ _ => roleOf (by simp +contextual [Instr.request, kindKnown])

theorem RequestRole.supplyConversion : ∀ (code : BitVec 10), RequestRole.Statement (.supplyConversion code) :=
  fun _ => roleOf (by simp +contextual [Instr.request, kindKnown])

theorem RequestRole.speedFrameBoundary : ∀ (output : Fin 16), RequestRole.Statement (.speedFrameBoundary output) :=
  fun _ => roleOf (by simp +contextual [Instr.request, kindKnown])

theorem RequestRole.writeCompletion : RequestRole.Statement (.writeCompletion) :=
  roleOf (by simp +contextual [Instr.request, kindKnown])

theorem RequestRole.travelTimerExpiry : ∀ (actuator : Fin 64), RequestRole.Statement (.travelTimerExpiry actuator) :=
  fun _ => roleOf (by simp +contextual [Instr.request, kindKnown])

theorem RequestRole.deadTimeExpiry : ∀ (actuator : Fin 64), RequestRole.Statement (.deadTimeExpiry actuator) :=
  fun _ => roleOf (by simp +contextual [Instr.request, kindKnown])

theorem RequestRole.cooldownExpiry : ∀ (actuator : Fin 64), RequestRole.Statement (.cooldownExpiry actuator) :=
  fun _ => roleOf (by simp +contextual [Instr.request, kindKnown])

theorem RequestRole.switchDisagreeExpiry : ∀ (actuator : Fin 64), RequestRole.Statement (.switchDisagreeExpiry actuator) :=
  fun _ => roleOf (by simp +contextual [Instr.request, kindKnown])

theorem RequestRole.leftPositionExpiry : ∀ (actuator : Fin 64), RequestRole.Statement (.leftPositionExpiry actuator) :=
  fun _ => roleOf (by simp +contextual [Instr.request, kindKnown])

theorem RequestRole.startProofExpiry : ∀ (actuator : Fin 64), RequestRole.Statement (.startProofExpiry actuator) :=
  fun _ => roleOf (by simp +contextual [Instr.request, kindKnown])

theorem RequestRole.stopProofExpiry : ∀ (actuator : Fin 64), RequestRole.Statement (.stopProofExpiry actuator) :=
  fun _ => roleOf (by simp +contextual [Instr.request, kindKnown])

theorem RequestRole.runLossExpiry : ∀ (actuator : Fin 64), RequestRole.Statement (.runLossExpiry actuator) :=
  fun _ => roleOf (by simp +contextual [Instr.request, kindKnown])

theorem RequestRole.restartDelayExpiry : ∀ (actuator : Fin 64), RequestRole.Statement (.restartDelayExpiry actuator) :=
  fun _ => roleOf (by simp +contextual [Instr.request, kindKnown])

theorem RequestRole.rampStep : ∀ (actuator : Fin 64), RequestRole.Statement (.rampStep actuator) :=
  fun _ => roleOf (by simp +contextual [Instr.request, kindKnown])

theorem RequestRole.settleExpiry : ∀ (zone : Fin 24), RequestRole.Statement (.settleExpiry zone) :=
  fun _ => roleOf (by simp +contextual [Instr.request, kindKnown])

theorem RequestRole.proofWindowExpiry : ∀ (zone : Fin 24), RequestRole.Statement (.proofWindowExpiry zone) :=
  fun _ => roleOf (by simp +contextual [Instr.request, kindKnown])

theorem RequestRole.gateWaitExpiry : ∀ (zone : Fin 24), RequestRole.Statement (.gateWaitExpiry zone) :=
  fun _ => roleOf (by simp +contextual [Instr.request, kindKnown])

theorem RequestRole.byteReceived : ∀ (line : Line) (received : Received), RequestRole.Statement (.byteReceived line received) :=
  fun _ _ => roleOf (by simp +contextual [Instr.request, kindKnown])

theorem RequestRole.answerBegin : ∀ (line : Line), RequestRole.Statement (.answerBegin line) :=
  fun _ => roleOf (by simp +contextual [Instr.request, kindKnown])


end Sys2Proof.Laws
end

