-- ==== Sys2Proof/Laws/Retained.lean ====
section
/-!
SUPPORT. What the checks of kept state say of a claim list and of a map entry, in the terms of Safety (R18, R19, R38, R59).
-/

namespace Sys2Proof.Machine

-- One theorem at a time, so that the threads of many stay within the sandbox's memory.
set_option Elab.async false

theorem claimOf_none_iff (l : List Claim) (s : Source) : claimOf l s = none ↔ ∀ c ∈ l, c.src ≠ s := by
  simp [claimOf, List.find?_eq_none]

theorem sourcesDistinct_iff (l : List Claim) : sourcesDistinct l = true ↔ (l.map (·.src)).Nodup := by
  induction l with
  | nil => simp [sourcesDistinct]
  | cons a l ih => simp [sourcesDistinct, ih, List.nodup_cons, claimOf_none_iff]

theorem outranks_trans {activation : List (Fin 24)} {a b c : Claim} (h1 : outranks activation a b = true)
    (h2 : outranks activation b c = true) : outranks activation a c = true := by
  simp [outranks] at *; omega

theorem rankOrdered_iff (activation : List (Fin 24)) (l : List Claim) :
    rankOrdered activation l = true ↔ l.Pairwise (fun c x => outranks activation c x = true) := by
  induction l with
  | nil => simp [rankOrdered]
  | cons a l ih =>
    cases l with
    | nil => simp [rankOrdered]
    | cons b l =>
      simp only [rankOrdered, Bool.and_eq_true, ih, List.pairwise_cons (a := a)]
      refine ⟨fun ⟨h, p⟩ => ⟨fun x hx => ?_, p⟩, fun ⟨h, p⟩ => ⟨h b (by simp), p⟩⟩
      rcases List.mem_cons.1 hx with rfl | hx
      · exact h
      · exact outranks_trans h ((List.pairwise_cons.1 p).1 x hx)

theorem sourceActive_iff (s : State) (c : Claim) : sourceActive s c.src = true ↔ ClaimActive s c := by
  unfold ClaimActive sourceActive
  cases c with | mk src cmd => cases src <;> simp

theorem entryKept_iff (s : State) (z : Fin 24) (a : Fin 64) : entryKept s z a = true ↔ EntryAgrees s z a := by
  unfold entryKept EntryAgrees
  simp only []
  cases (s.zone z).map[a] with
  | none => simp [claimOf_none_iff, Option.isNone_iff_eq_none]; grind
  | some e =>
    rcases e with ⟨cmd, status⟩
    cases status <;> simp
    exact claimOf_none_iff _ _

end Sys2Proof.Machine
end

