-- ==== Sys2Proof/Laws/Store.lean ====
section
/-!
SUPPORT. The images of the Configuration Store: a byte that is written reads back and no other byte changes; every operation keeps
the canonical form; equal reads are equal images.
-/

namespace Sys2Proof.Machine

-- One theorem at a time, so that the threads of many stay within the sandbox's memory.
set_option Elab.async false

/-! ## The canonical form -/

/-- The canonical form from an offset, for a cell in front. -/
theorem canonicalFrom_cons {sec : Sector} {low o : Nat} {b : Byte} {rest : Image} :
    canonicalFrom sec low ((o, b) :: rest) = true ↔
      low ≤ o ∧ o < sectorSize sec ∧ b ≠ blankByte sec o ∧ canonicalFrom sec (o + 1) rest = true := by
  simp [canonicalFrom, and_assoc]

/-- A canonical form from an offset is one from any lower offset. -/
theorem canonicalFrom_mono {sec : Sector} {low high : Nat} {img : Image} (h : low ≤ high)
    (w : canonicalFrom sec high img = true) : canonicalFrom sec low img = true := by
  cases img with
  | nil => rfl
  | cons c rest =>
    obtain ⟨o, b⟩ := c
    rw [canonicalFrom_cons] at w ⊢
    exact ⟨le_trans h w.1, w.2⟩

/-- Every offset that a canonical image lists lies at or above its bound. -/
theorem listedByte_below {sec : Sector} {img : Image} {low off : Nat} (w : canonicalFrom sec low img = true)
    (h : off < low) : listedByte img off = none := by
  induction img generalizing low with
  | nil => rfl
  | cons c rest ih =>
    obtain ⟨o, b⟩ := c
    rw [canonicalFrom_cons] at w
    have ne : o ≠ off := by omega
    simp only [listedByte, if_neg ne]
    exact ih w.2.2.2 (by omega)

/-- Removing a cell keeps the canonical form. -/
theorem eraseCell_canonical {sec : Sector} {img : Image} {low : Nat} (off : Nat) (w : canonicalFrom sec low img = true) :
    canonicalFrom sec low (eraseCell off img) = true := by
  induction img generalizing low with
  | nil => rfl
  | cons c rest ih =>
    obtain ⟨o, b⟩ := c
    rw [canonicalFrom_cons] at w
    unfold eraseCell
    split
    · exact canonicalFrom_mono (by omega) w.2.2.2
    · rw [canonicalFrom_cons]
      exact ⟨w.1, w.2.1, w.2.2.1, ih w.2.2.2⟩

/-- Putting in a cell that differs from the blank image keeps the canonical form. -/
theorem putCell_canonical {sec : Sector} {img : Image} {low off : Nat} {b : Byte} (w : canonicalFrom sec low img = true)
    (hl : low ≤ off) (hs : off < sectorSize sec) (hb : b ≠ blankByte sec off) :
    canonicalFrom sec low (putCell off b img) = true := by
  induction img generalizing low with
  | nil => simp [putCell, canonicalFrom, hl, hs, hb]
  | cons c rest ih =>
    obtain ⟨o, d⟩ := c
    rw [canonicalFrom_cons] at w
    unfold putCell
    split
    · rw [canonicalFrom_cons, canonicalFrom_cons]
      exact ⟨hl, hs, hb, by omega, w.2.1, w.2.2.1, w.2.2.2⟩
    · split
      · rename_i _ e
        rw [canonicalFrom_cons]
        exact ⟨hl, hs, hb, by subst e; exact w.2.2.2⟩
      · rw [canonicalFrom_cons]
        exact ⟨w.1, w.2.1, w.2.2.1, ih w.2.2.2 (by omega)⟩

/-- Writing a byte within the sector keeps the canonical form. -/
theorem writeByte_wf {sec : Sector} {img : Image} {off : Nat} {b : Byte} (w : Memory.wf sec img = true)
    (h : off < sectorSize sec) : Memory.wf sec (writeByte sec img off b) = true := by
  unfold writeByte
  split
  · exact eraseCell_canonical off w
  · rename_i hb
    exact putCell_canonical w (Nat.zero_le _) h hb

/-- Writing bytes within the sector keeps the canonical form. -/
theorem writeBytes_wf {sec : Sector} {img : Image} {off : Nat} {bs : List Byte} (w : Memory.wf sec img = true)
    (h : off + bs.length ≤ sectorSize sec) : Memory.wf sec (writeBytes sec img off bs) = true := by
  induction bs generalizing img off with
  | nil => exact w
  | cons b rest ih =>
    simp only [List.length_cons] at h
    exact ih (writeByte_wf w (by omega)) (by omega)

/-- Keeping some of its cells keeps an image's canonical form. -/
theorem filter_canonical {sec : Sector} {img : Image} {low : Nat} (p : Host.Cell → Bool)
    (w : canonicalFrom sec low img = true) : canonicalFrom sec low (img.filter p) = true := by
  induction img generalizing low with
  | nil => rfl
  | cons c rest ih =>
    obtain ⟨o, b⟩ := c
    rw [canonicalFrom_cons] at w
    rw [List.filter_cons]
    split
    · rw [canonicalFrom_cons]
      exact ⟨w.1, w.2.1, w.2.2.1, ih w.2.2.2⟩
    · exact canonicalFrom_mono (by omega) (ih w.2.2.2)

/-- What a passed validation clears keeps the canonical form. -/
theorem clearForeign_wf {sec : Sector} {img : Image} (w : Memory.wf sec img = true) :
    Memory.wf sec (clearForeign sec img) = true := filter_canonical _ w

/-- The blank image is in canonical form. -/
theorem blank_wf (sec : Sector) : Memory.wf sec [] = true := rfl

/-- The cells of consecutive offsets, those equal to the blank image left out, are in canonical form. -/
theorem cells_canonical (sec : Sector) (f : Nat → Byte) (n low : Nat) (h : low + n ≤ sectorSize sec) :
    canonicalFrom sec low
      (((List.range' low n).map (fun off => (off, f off))).filter (fun c => decide (c.2 ≠ blankByte sec c.1))) = true := by
  induction n generalizing low with
  | zero => rfl
  | succ n ih =>
    have tail := ih (low + 1) (by omega)
    rw [List.range'_succ, List.map_cons, List.filter_cons]
    split
    · rename_i hb
      rw [canonicalFrom_cons]
      exact ⟨le_refl _, by omega, by simpa using hb, tail⟩
    · exact canonicalFrom_mono (by omega) tail

/-- A part-written image is in canonical form. -/
theorem tornImage_wf (sec : Sector) (cut : Nat) : Memory.wf sec (tornImage sec cut) = true := by
  have h := cells_canonical sec (Config.partWrittenByte cut) (sectorSize sec) 0 (by omega)
  simpa [Memory.wf, tornImage, List.range_eq_range'] using h

/-! ## Reading after writing -/

theorem listedByte_eraseCell_other {img : Image} {off other : Nat} (h : other ≠ off) :
    listedByte (eraseCell off img) other = listedByte img other := by
  induction img with
  | nil => rfl
  | cons c rest ih =>
    obtain ⟨o, b⟩ := c
    unfold eraseCell
    split
    · rename_i e
      simp [listedByte, e, Ne.symm h]
    · simp only [listedByte, ih]

theorem listedByte_eraseCell_same {sec : Sector} {img : Image} {low off : Nat} (w : canonicalFrom sec low img = true) :
    listedByte (eraseCell off img) off = none := by
  induction img generalizing low with
  | nil => rfl
  | cons c rest ih =>
    obtain ⟨o, b⟩ := c
    rw [canonicalFrom_cons] at w
    unfold eraseCell
    split
    · exact listedByte_below w.2.2.2 (by omega)
    · rename_i ne
      simp only [listedByte, if_neg ne]
      exact ih w.2.2.2

theorem listedByte_putCell_same (img : Image) (off : Nat) (b : Byte) : listedByte (putCell off b img) off = some b := by
  induction img with
  | nil => simp [putCell, listedByte]
  | cons c rest ih =>
    obtain ⟨o, d⟩ := c
    unfold putCell
    split
    · simp [listedByte]
    · split
      · simp [listedByte]
      · rename_i ne
        simp [listedByte, Ne.symm ne, ih]

theorem listedByte_putCell_other {img : Image} {off other : Nat} (b : Byte) (h : other ≠ off) :
    listedByte (putCell off b img) other = listedByte img other := by
  induction img with
  | nil => simp [putCell, listedByte, Ne.symm h]
  | cons c rest ih =>
    obtain ⟨o, d⟩ := c
    unfold putCell
    split
    · simp [listedByte, Ne.symm h]
    · split
      · rename_i _ e
        simp [listedByte, ← e, Ne.symm h]
      · simp only [listedByte, ih]

/-- A byte that is written reads back. -/
theorem readByte_writeByte_same {sec : Sector} {img : Image} (off : Nat) (b : Byte) (w : Memory.wf sec img = true) :
    readByte sec (writeByte sec img off b) off = b := by
  unfold writeByte readByte
  split
  · rename_i e
    rw [listedByte_eraseCell_same w]
    exact e.symm
  · rw [listedByte_putCell_same]
    rfl

/-- Every other byte reads as before. -/
theorem readByte_writeByte_other {sec : Sector} {img : Image} {off other : Nat} (b : Byte) (h : other ≠ off) :
    readByte sec (writeByte sec img off b) other = readByte sec img other := by
  unfold writeByte readByte
  split
  · rw [listedByte_eraseCell_other h]
  · rw [listedByte_putCell_other b h]

/-- Bytes outside a written chunk read as before. -/
theorem readByte_writeBytes_outside {sec : Sector} {img : Image} {off other : Nat} {bs : List Byte}
    (h : other < off ∨ off + bs.length ≤ other) : readByte sec (writeBytes sec img off bs) other = readByte sec img other := by
  induction bs generalizing img off with
  | nil => rfl
  | cons b rest ih =>
    simp only [List.length_cons] at h
    unfold writeBytes
    rw [ih (by omega), readByte_writeByte_other b (by omega)]

/-- Each byte of a written chunk reads back at its place. -/
theorem readByte_writeBytes_inside {sec : Sector} {img : Image} {off i : Nat} {bs : List Byte} (w : Memory.wf sec img = true)
    (hs : off + bs.length ≤ sectorSize sec) (h : i < bs.length) :
    readByte sec (writeBytes sec img off bs) (off + i) = bs[i] := by
  induction bs generalizing img off i with
  | nil => simp at h
  | cons b rest ih =>
    simp only [List.length_cons] at h hs
    unfold writeBytes
    cases i with
    | zero =>
      rw [readByte_writeBytes_outside (by omega)]
      exact readByte_writeByte_same off b w
    | succ i =>
      have e : off + (i + 1) = off + 1 + i := by omega
      rw [e, ih (writeByte_wf w (by omega)) (by omega) (by omega)]
      rfl

/-! ## Equal reads are equal images -/

theorem readByte_tail {sec : Sector} {img : Image} {o off : Nat} {b : Byte} (h : o ≠ off) :
    readByte sec ((o, b) :: img) off = readByte sec img off := by
  simp [readByte, listedByte, h]

theorem readByte_head (sec : Sector) (img : Image) (o : Nat) (b : Byte) : readByte sec ((o, b) :: img) o = b := by
  simp [readByte, listedByte]

theorem readByte_below {sec : Sector} {img : Image} {low off : Nat} (w : canonicalFrom sec low img = true) (h : off < low) :
    readByte sec img off = blankByte sec off := by
  simp [readByte, listedByte_below w h]

/-- Two images in canonical form that read the same at every offset are the same list. -/
theorem image_ext {sec : Sector} {x y : Image} {low : Nat} (wx : canonicalFrom sec low x = true)
    (wy : canonicalFrom sec low y = true) (h : ∀ off, readByte sec x off = readByte sec y off) : x = y := by
  induction x generalizing y low with
  | nil =>
    cases y with
    | nil => rfl
    | cons c rest =>
      obtain ⟨o, b⟩ := c
      rw [canonicalFrom_cons] at wy
      have e := h o
      rw [readByte_head] at e
      exact absurd e.symm wy.2.2.1
  | cons c xs ih =>
    obtain ⟨o, b⟩ := c
    rw [canonicalFrom_cons] at wx
    cases y with
    | nil =>
      have e := h o
      rw [readByte_head] at e
      exact absurd e wx.2.2.1
    | cons c' ys =>
      obtain ⟨o', b'⟩ := c'
      rw [canonicalFrom_cons] at wy
      have same : o = o' := by
        rcases Nat.lt_trichotomy o o' with lt | e | gt
        · have e := h o
          rw [readByte_head, readByte_tail (by omega), readByte_below wy.2.2.2 (by omega)] at e
          exact absurd e wx.2.2.1
        · exact e
        · have e := h o'
          rw [readByte_head, readByte_tail (by omega), readByte_below wx.2.2.2 (by omega)] at e
          exact absurd e.symm wy.2.2.1
      subst same
      have hb : b = b' := by
        have e := h o
        rwa [readByte_head, readByte_head] at e
      subst hb
      have tails : xs = ys := by
        apply ih wx.2.2.2 wy.2.2.2
        intro off
        by_cases e : o = off
        · subst e
          rw [readByte_below wx.2.2.2 (by omega), readByte_below wy.2.2.2 (by omega)]
        · have e' := h off
          rwa [readByte_tail e, readByte_tail e] at e'
      rw [tails]

end Sys2Proof.Machine
end

