-- ==== Sys2Proof/Tests/Slice0.lean ====
section
/-!
SUPPORT. The author's own tests. Expected values come from the manual's worked examples and rules, named at each test; a witness
theorem shows, for each statement with hypotheses, a state and operands that meet them.
-/

namespace Sys2Proof.Tests

open Sys2Proof Sys2Proof.Machine

-- One theorem at a time, so that the threads of many stay within the sandbox's memory.
set_option Elab.async false

/-! ## The example plant (the manual's example of a six-record plant, and its worked zones) -/

/-- Damper 0: REVERSING, BOTH-SWITCHES. -/
def damper0 : ReversingDef where
  rest := .closedSide
  openOutput := 0
  closeOutput := 1
  mode := .bothSwitches
  openSwitch := some { input := 0, count := 3 }
  closedSwitch := some { input := 1, count := 3 }
  travelLimit := 600
  deadTime := 10
  reversalLimit := 3

/-- Damper 1: REVERSING, CLOSED-SWITCH. -/
def damper1 : ReversingDef where
  rest := .openSide
  openOutput := 2
  closeOutput := 3
  mode := .closedSwitch
  openSwitch := none
  closedSwitch := some { input := 2, count := 3 }
  travelLimit := 900
  deadTime := 20
  reversalLimit := 2

/-- Damper 2: SPRING, TIMED. -/
def damper2 : SpringDef where
  rest := .closedSide
  driveOutput := 4
  failPosition := .openSide
  mode := .timed
  openSwitch := none
  closedSwitch := none
  travelLimit := 300

/-- Fan 3: variable speed, run proof and pressure proof. -/
def fan3 : FanDef where
  runOutput := 5
  speed := some { output := 0, smin := 300, smax := 900, rate := 40 }
  proofInput := some { input := 4, count := 5 }
  pressure := some { channel := 2, threshold := 150 }
  startProofTime := 300
  stopProofTime := 600
  restartAttempts := 2

/-- Fan 4: fixed speed, run proof. -/
def fan4 : FanDef where
  runOutput := 6
  speed := none
  proofInput := some { input := 5, count := 5 }
  pressure := none
  startProofTime := 200
  stopProofTime := 400
  restartAttempts := 0

/-- The PLANT image of the example, channel 2 scaled 0..1000 Pa over codes 100..900. -/
def examplePlant : PlantImage where
  acts :=
    ((((State.reset.plant.acts.set 0 (.reversing damper0)).set 1 (.reversing damper1)).set 2 (.spring damper2)).set 3
      (.fan fan3)).set 4 (.fan fan4)
  scalings := State.reset.plant.scalings.set 2 (some { clo := 100, chi := 900, elo := 0, ehi := 1000 })

/-- A stage record without a gate. -/
def stageRecord (commands : List StageCommand) (settle window : Nat) (policy : Policy) : Option StageDef :=
  some { commands := commands, settleTime := settle, proofWindow := window, gate := none, policy := policy }

/-- Stage 12's gate: channel 2 GE 100 Pa, WAIT-UNTIL, gate wait 45 s. -/
def gate12 : Gate where
  channel := 2
  comparison := .ge
  value := 100
  tolerance := 0
  mode := .waitUntil
  wait := 450

/-- The SEQUENCES image of the example: zone 5 with stages 10, 11 and 12, zone 9 with 20 and 21, zone 14 with 30. -/
def exampleSequences : SequenceImage where
  zones :=
    ((State.reset.sequences.zones.set 5 (some { sequence := [10, 11, 12], panelA := true, panelB := false })).set 9
      (some { sequence := [20, 21], panelA := true, panelB := false })).set 14
      (some { sequence := [30, 21], panelA := true, panelB := true })
  stages :=
    (((((State.reset.sequences.stages.set 10 (stageRecord [⟨0, .openPos⟩, ⟨1, .closedPos⟩] 50 1200 .stop)).set 11
      (stageRecord [⟨3, .run 850⟩] 100 600 .cont)).set 12
      (some
        { commands := [⟨2, .openPos⟩, ⟨4, .run 1000⟩], settleTime := 0, proofWindow := 300, gate := some gate12,
          policy := .cont })).set 20
      (stageRecord [⟨1, .openPos⟩, ⟨0, .closedPos⟩] 50 1200 .stop)).set 21 (stageRecord [⟨3, .run 1000⟩] 100 600 .cont)).set 30
      (stageRecord [⟨0, .openPos⟩, ⟨2, .closedPos⟩] 50 900 .stop)

/-- A damper drive at rest, IDLE at a position with a target. -/
def atRest (position : Position) (target : Side) (last : Option Side) (energized : Bool) : DamperDrive :=
  { newDamper
      { kind := .spring .openSide, mode := .timed, openSwitch := none, closedSwitch := none, travelLimit := 0, now := 0 }
      target .ok none with
    position := position
    lastDirection := last
    driveOut := energized }

/-- A fan STOPPED. -/
def fanAtRest (clamped : Nat) : FanDrive where
  state := .stopped
  fault := none
  target := .off
  attempts := 0
  lastFailure := none
  runOut := false
  startTimer := none
  stopTimer := none
  lossTimer := none
  restartTimer := none
  rampTimer := none
  waiting := false
  proofUnavailable := false
  demand := 0
  clamped := clamped
  ramped := 0
  preload := 0

/-- An input in a debounced state with the band of its samples. -/
def steady (band : Band) (reading : Debounced) : InputState := { candidate := some band, run := 15, debounced := reading }

/-- The example plant at rest: damper 0 proven CLOSED, damper 1 proven OPEN, damper 2 energized at CLOSED-BY-TIME, both fans
STOPPED, channel 2 VALID at 180 Pa. -/
def atRestPlant : State :=
  { State.reset with
    plant := examplePlant
    filters := examplePlant.filters
    sequences := exampleSequences
    lists := emptyLists examplePlant
    drives :=
      ((((State.reset.drives.set 0 (.damper (atRest .closedPos .closedSide (some .closedSide) false))).set 1
        (.damper { atRest .openPos .openSide (some .openSide) false with unswitchedArrival := true })).set 2
        (.damper (atRest .closedByTime .closedSide none true))).set 3 (.fan (fanAtRest 300))).set 4 (.fan (fanAtRest 0))
    inputs :=
      ((((State.reset.inputs.set 0 (steady .off .off)).set 1 (steady .on .on)).set 2 (steady .off .off)).set 4
        (steady .off .off)).set 5 (steady .off .off)
    channels :=
      State.reset.channels.set 2
        { window := [244, 244, 244, 244], lastValid := some 180, status := .valid, value := some 180 } }

/-! ## How a test speaks of a command's next state -/

/-- Whether a command leaves a next state of which something holds. -/
def leaves (c : Instr) (s : State) (p : State → Bool) : Bool :=
  match exec c s with
  | .next t => p t
  | .fault _ => false
  | .refused _ => false

/-- The next state of a command. -/
def after (c : Instr) (s : State) : State :=
  match exec c s with
  | .next t => t
  | .fault _ => s
  | .refused _ => s

/-- A state whose lines take a request again: every port HUNTING. -/
def quiet (s : State) : State := { s with ports := s.ports.map Port.atRestart }

/-- The answer that stands at a port. -/
def answerAt (l : Line) (s : State) : Option Answer := (s.port l).answer

/-- Whether a damper's drive is as a test says. -/
def damperIs (s : State) (a : Fin 64) (p : DamperDrive → Bool) : Bool :=
  match s.drive a with
  | .damper d => p d
  | _ => false

/-- Whether a fan's drive is as a test says. -/
def fanIs (s : State) (a : Fin 64) (p : FanDrive → Bool) : Bool :=
  match s.drive a with
  | .fan f => p f
  | _ => false

/-- A value of which something decidable holds is there. -/
theorem exists_of_any {α : Type} {o : Option α} {p : α → Bool} (h : o.any p = true) : ∃ x, o = some x ∧ p x = true := by
  cases o with
  | none => cases h
  | some x => exact ⟨x, rfl, h⟩

/-! ## States of the example plant -/

/-- The example plant with damper 0's drive as given. -/
def withDamper0 (d : DamperDrive) : State := { atRestPlant with drives := atRestPlant.drives.set 0 (.damper d) }

/-- The example plant with fan 3's drive as given. -/
def withFan3 (f : FanDrive) : State := { atRestPlant with drives := atRestPlant.drives.set 3 (.fan f) }

/-- Damper 0 on its way OPEN until 60.0 s. -/
def openingDamper : DamperDrive :=
  { atRest .moving .openSide (some .openSide) false with state := .drivingOpen, travel := .running 60000, openOut := true }

/-- Damper 0 in the dead time of an interrupted opening, pending CLOSE, until 5.0 s. -/
def deadDamper : DamperDrive :=
  { atRest .moving .closedSide (some .openSide) false with
    state := .deadTime
    deadTimer := some 5000
    pending := some .closedSide
    interrupted := true }

/-- Damper 0 in COOLDOWN until 65.0 s with the history 5.0, 8.0, 13.0. -/
def coolDamper : DamperDrive :=
  { atRest .moving .openSide (some .closedSide) false with
    state := .cooldown
    coolTimer := some 65000
    pending := some .openSide
    interrupted := true
    history := [5000, 8000, 13000] }

/-- Fan 3 STARTING toward RUN 850 with its start proof timer running out at 30.0 s. -/
def startingFan : FanDrive :=
  { fanAtRest 850 with
    state := .starting
    target := .run 850
    runOut := true
    startTimer := some 30000
    rampTimer := some 250
    demand := 850 }

/-- Fan 3 RUNNING at R = 850. -/
def runningFan : FanDrive :=
  { fanAtRest 850 with
    state := .running
    target := .run 850
    runOut := true
    rampTimer := some 250
    demand := 850
    ramped := 850
    preload := 870 }

/-- Zone 5 after its alarm at the rest of the plant: stage 10 SETTLING. -/
def alarmed : State := quiet (after (.zoneAlarm .panelA 5) atRestPlant)

/-- Zone 5 in TEST. -/
def testing : State := quiet (after (.testStart 5 1) atRestPlant)

/-- A zone record RUNNING in FIRE from Panel A with a current stage. -/
def runningZone (cs : CurrentStage) : ZoneRecord :=
  { zoneAtRest with mode := .fire, phase := .running, sourceA := true, stage := some cs, failed := some 0 }

/-- Zone 5 RUNNING with stage 11 SETTLING: at 58.0 s its settle timer has 4.0 s left and its proof window 54.0 s. -/
def midStage : State :=
  { atRestPlant with
    now := 58000
    activation := [5]
    zones := atRestPlant.zones.set 5
      (runningZone
        { position := 1, stage := 11, phase := .settling, outcomes := [.deferred], gateExpired := false,
          settle := .running 62000, window := .running 112000, gateWait := .stopped }) }

/-- Zone 5 GATED before stage 12, whose gate wait runs out at 45.0 s; channel 2 reads 50 Pa. -/
def gatedPlant : State :=
  { atRestPlant with
    activation := [5]
    channels := atRestPlant.channels.set 2
      { window := [140, 140, 140, 140], lastValid := some 50, status := .valid, value := some 50 }
    zones := atRestPlant.zones.set 5
      (runningZone
        { position := 2, stage := 12, phase := .gated, outcomes := [], gateExpired := false,
          settle := .stopped, window := .stopped, gateWait := .running 45000 }) }

/-- Zone 5 with its proof window running out at 120.0 s and damper 0's command PENDING in the stage given. -/
def provingPlant (position : Nat) (stage : Fin 256) : State :=
  { atRestPlant with
    activation := [5]
    zones := atRestPlant.zones.set 5
      (runningZone
        { position := position, stage := stage, phase := .proving, outcomes := [.pending, .deferred], gateExpired := false,
          settle := .stopped, window := .running 120000, gateWait := .stopped }) }

/-- The claims of the manual's case of more claims than one damper holds, at six. -/
def sixClaims : List Claim :=
  [⟨.fire 5, .closedPos⟩, ⟨.fire 7, .openPos⟩, ⟨.fire 9, .closedPos⟩, ⟨.fire 11, .closedPos⟩, ⟨.fire 14, .openPos⟩,
    ⟨.normal, .openPos⟩]

/-- The Activation List of that case. -/
def sixZones : List (Fin 24) := [2, 5, 7, 9, 11, 14]

/-- The example plant with that full list at damper 0, its zones active in FIRE. -/
def fullList : State :=
  { atRestPlant with
    lists := atRestPlant.lists.set 0 { claims := sixClaims, target := some .closedPos, normalShed := false } }

/-- Overrides at dampers 0 and 2. -/
def overriddenPlant : State :=
  { atRestPlant with
    overrides := 2
    lists :=
      (atRestPlant.lists.set 0 { claims := [⟨.override, .closedPos⟩], target := some .closedPos, normalShed := false }).set 2
        { claims := [⟨.override, .closedPos⟩], target := some .closedPos, normalShed := false } }

/-- Stand-down SET with zone 5 held at 4.0 s and 54.0 s. -/
def heldPlant : State := { quiet (after (.standDown 1) midStage) with now := 200000 }

/-- The key line reads ON. -/
def keyed (s : State) : State := { s with key := steady .on .on }

/-- A port in the middle of a frame: A5h, 54h. -/
def halfFrame : State :=
  State.reset.setPort .building
    { State.reset.port .building with reception := .receiving, buffer := [0xA5, 0x54], gapTimer := some 2 }

/-- The example plant with a staging image of a sector. -/
def staged (sec : Sector) (img : Image) : State :=
  { atRestPlant with store := atRestPlant.store.setSector sec { blankSector with staging := some img } }

/-- A write of a sector in progress. -/
def writingPlant (sec : Sector) (img : Image) : State :=
  { State.reset with
    store := State.reset.store.setSector sec { valid := false, activation := .writing, stored := [], staging := some img } }

/-- A part whose PLANT mark is INVALID, started cold: CONFIG-FAULT. -/
def faultyPart : State :=
  after .coldStart
    { State.reset with store := State.reset.store.setSector .plant { blankSector with valid := false } }

/-! ## Well-formed commands (R163, R164, R165, R167, R173) -/

theorem test_wf_refuses_a_kind_its_line_may_not_send :
    (Instr.faultClear .panelA 3).wellFormed = false ∧ (Instr.faultClear .override 3).wellFormed = true := by decide +kernel

theorem test_wf_refuses_bodies_over_120_bytes :
    (Instr.normalGroup (List.replicate 121 0)).wellFormed = false ∧
      (Instr.configRead (List.replicate 121 0)).wellFormed = false ∧
      (Instr.configWrite (List.replicate 121 0)).wellFormed = false ∧
      (Instr.configWrite (List.replicate 120 0)).wellFormed = true := by decide +kernel

theorem test_wf_refuses_an_incomplete_frame :
    (Instr.frameReceived .panelA [0xA5, 0x51, 0x00, 0x01, 0x00]).wellFormed = false ∧
      (Instr.frameReceived .panelA [0xA4, 0x51, 0x00, 0x01, 0x00, 0x00]).wellFormed = false ∧
      (Instr.frameReceived .panelA [0xA5, 0x51, 0x00, 0x01, 0x00, 0x00]).wellFormed = true := by decide +kernel

theorem test_wf_refuses_supervision_of_the_building_line :
    (Instr.supervisionTimerExpiry .building).wellFormed = false ∧
      (Instr.supervisionTimerExpiry .override).wellFormed = true := by decide +kernel

/-! ## One step of each command -/

/-- R178: the flag, the four line states and the condition. -/
theorem test_poll :
    leaves (.poll .panelA) atRestPlant (fun t => answerAt .panelA t ==
      some { kind := 0x01, result := .done, body := .poll true [.silent, .silent, .silent, .silent] false }) = true := by
  decide +kernel

/-- R176, R179: page 0 clears the reading line's flag and no other. -/
theorem test_readSummary_clears_its_own_flag :
    leaves (.readSummary .override 0) atRestPlant (fun t =>
      (t.port .override).changeFlag == false && (t.port .panelA).changeFlag == true &&
        (answerAt .override t).map (·.result) == some .done) = true := by decide +kernel

/-- R179: pages run to 4. -/
theorem test_readSummary_page_5 :
    leaves (.readSummary .panelB 5) atRestPlant (fun t =>
      (answerAt .panelB t).map (·.result) == some .refusedRange && (t.port .panelB).changeFlag) = true := by decide +kernel

/-- R57: zone 5 without a run. -/
theorem test_readZone :
    leaves (.readZone .building 5 0) atRestPlant (fun t =>
      match (answerAt .building t).map (·.body) with
      | some (AnswerBody.zone v) => v.phase == .normal && v.mode == .none && v.activation == none && v.stage == none && v.failed == none
      | _ => false) = true := by decide +kernel

/-- R36: a full list as READ-ACTUATOR shows it, with its levels and its concordance against CLOSED. -/
theorem test_readActuator :
    leaves (.readActuator .panelA 0) fullList (fun t =>
      match (answerAt .panelA t).map (·.body) with
      | some (AnswerBody.actuator v) =>
        v.claims.map (·.level) == [2, 2, 2, 2, 2, 0] && v.fromRest == false &&
          v.claims.map (·.concordant) == [true, false, true, true, false, false]
      | _ => false) = true := by decide +kernel

/-- The manual's atrium run at 0.0: stage 10 drives damper 0 OPEN for 60 s and damper 1 CLOSED for 90 s. -/
theorem test_zoneAlarm :
    leaves (.zoneAlarm .panelA 5) atRestPlant (fun t =>
      damperIs t 0 (fun d => d.state == .drivingOpen && d.travel == .running 60000 && d.openOut && !d.closeOut) &&
        damperIs t 1 (fun d => d.state == .drivingClose && d.travel == .running 90000 && d.closeOut && !d.openOut) &&
        t.activation == [5] &&
        (t.zone 5).stage.map (fun c => (c.settle, c.window)) == some (.running 5000, .running 120000)) = true := by
  decide +kernel

/-- R43: zone 5 is not reported by Panel B. -/
theorem test_zoneAlarm_of_another_panel :
    leaves (.zoneAlarm .panelB 5) atRestPlant (fun t =>
      (answerAt .panelB t).map (·.result) == some .refusedRange && t.activation == []) = true := by decide +kernel

/-- R46, R47, R88: the reset of the last source withdraws the claims, and damper 0 is interrupted on its way OPEN. -/
theorem test_zoneReset :
    leaves (.zoneReset .panelA 5) alarmed (fun t =>
      t.activation == [] && (t.zone 5).phase == .normal && (t.claimList 0).claims == [] &&
        damperIs t 0 (fun d => d.state == .deadTime && d.interrupted && d.pending == some .closedSide && !d.openOut)) = true := by
  decide +kernel

/-- The manual's case of more claims than one damper holds: the override sheds the NORMAL claim of a full list. -/
theorem test_overrideSet_sheds_the_lowest :
    leaves (.overrideSet 0 2 0) fullList (fun t =>
      (answerAt .override t).map (·.body) == some (.overrideSet .placed (some .normal) (some .closedPos)) &&
        (t.claimList 0).claims == ⟨.override, .closedPos⟩ :: sixClaims.dropLast && (t.claimList 0).normalShed &&
        t.overrides == 1) = true := by decide +kernel

/-- R154: ALL withdraws every override and carries their number. -/
theorem test_overrideRelease_all :
    leaves (.overrideRelease 0xFF) overriddenPlant (fun t =>
      (answerAt .override t).map (·.body) == some (.released 2) && t.overrides == 0 && (t.claimList 2).claims == []) = true := by
  decide +kernel

/-- The manual's stand-down over zones: zone 5's timers stand at 4.0 s and 54.0 s. -/
theorem test_standDown_freezes :
    leaves (.standDown 1) midStage (fun t =>
      (answerAt .override t).map (·.body) == some (.standDown true (some .resumeOnly) 1) && (t.zone 5).held &&
        (t.zone 5).stage.map (fun c => (c.settle, c.window)) == some (.frozen 4000, .frozen 54000)) = true := by decide +kernel

/-- The manual's stand-down and a new alarm, 200.0: settle runs on from 4.0 s. -/
theorem test_resume :
    leaves .resume heldPlant (fun t =>
      t.standDown == false && (t.zone 5).held == false &&
        (t.zone 5).stage.map (fun c => (c.settle, c.window)) == some (.running 204000, .running 254000)) = true := by decide +kernel

/-- The manual's broken run-proof wire, 15.0: answered DONE with INPUT-FAULT latched again at once. -/
theorem test_faultClear :
    leaves (.faultClear .override 3)
      { withFan3 { runningFan with state := .failed, fault := some .inputFault } with
        inputs := atRestPlant.inputs.set 4 (steady .openCircuit .openFault) } (fun t =>
      (answerAt .override t).map (·.result) == some .done &&
        fanIs t 3 (fun f => f.state == .failed && f.fault == some .inputFault && f.runOut && f.ramped == 850)) = true := by
  decide +kernel

/-- R32: a RUN speed above 1000 is taken as 1000. -/
theorem test_normalSet_caps_the_speed :
    leaves (.normalSet 4 4 1200) atRestPlant (fun t =>
      (t.claimList 4).claims == [⟨.normal, .run 1000⟩] && fanIs t 4 (fun f => f.state == .starting && f.runOut)) = true := by
  decide +kernel

/-- R24: a NORMAL claim finds no room among six zones' claims. -/
theorem test_normalSet_shed :
    leaves (.normalSet 0 1 0)
      { atRestPlant with
        lists := atRestPlant.lists.set 0
          { claims := sixClaims.dropLast ++ [⟨.fire 2, .openPos⟩], target := some .closedPos, normalShed := false } } (fun t =>
      (answerAt .building t).map (·.body) == some (.normalSet .shed (some .closedPos)) && (t.claimList 0).normalShed) = true := by
  decide +kernel

/-- R33: the release gives the target back to the zones. -/
theorem test_normalRelease :
    leaves (.normalRelease 0) fullList (fun t =>
      (t.claimList 0).claims == sixClaims.dropLast && (answerAt .building t).map (·.body) == some (.target (some .closedPos))) =
      true := by decide +kernel

/-- R34: the count and the pairs must agree. -/
theorem test_normalGroup :
    leaves (.normalGroup [2, 0, 1, 0, 0, 4, 4, 0x03, 0xE8]) atRestPlant (fun t =>
      (t.claimList 0).target == some .openPos && (t.claimList 4).target == some (.run 1000) &&
        (answerAt .building t).map (·.body) ==
          some (.normalGroup [(.placed, some .openPos), (.placed, some (.run 1000))])) = true ∧
      leaves (.normalGroup [3, 0, 1, 0, 0]) atRestPlant (fun t =>
        (answerAt .building t).map (·.result) == some .refusedForm && t.lists == atRestPlant.lists) = true := by decide +kernel

/-- R48, R49: a routine test of zone 5 runs its first stage. -/
theorem test_testStart :
    leaves (.testStart 5 1) atRestPlant (fun t =>
      (t.zone 5).mode == .test && t.activation == [5] && (t.claimList 0).claims == [⟨.test 5, .openPos⟩]) = true := by
  decide +kernel

/-- R50, R55: the test ends as ENDED with its stages logged. -/
theorem test_testEnd :
    leaves (.testEnd 5) testing (fun t =>
      (t.zone 5).mode == .none && t.activation == [] &&
        (t.zone 5).lastTest.map (fun r => (r.ended, r.finalPhase, r.entries.map (·.state))) ==
          some (.ended, .running, [.interrupted, .notReached, .notReached])) = true := by decide +kernel

/-- R182, R190: eight bytes of a blank IDENTITY image. -/
theorem test_configRead :
    leaves (.configRead [1, 1, 0, 0, 8]) State.reset (fun t =>
      (answerAt .building t).map (·.body) == some (.configRead true .none (List.replicate 8 0))) = true := by decide +kernel

/-- The manual's example of an activation: offset 45, bytes 04h B0h. -/
theorem test_configWrite :
    leaves (.configWrite [2, 0x00, 0x2D, 0x04, 0xB0]) (keyed State.reset) (fun t =>
      t.store.plant.staging == some [(45, 0x04), (46, 0xB0)] && t.store.plant.stored == [] &&
        (answerAt .building t).map (·.body) == some (.configWrite .plant 45 2)) = true ∧
      leaves (.configWrite [2, 0x00, 0x2D, 0x04, 0xB0]) State.reset (fun t =>
        (answerAt .building t).map (·.result) == some .refusedKey && t.store == State.reset.store) = true := by decide +kernel

/-- R184, R185, R190: IDENTITY with supervision times of 20 s and 10 s passes its check and is WRITING. -/
theorem test_configActivateApply :
    leaves (.configActivateApply 1) (keyed (staged .identity [(0, 0x41), (9, 0xC8)]))
      (fun t => t.store.identity.valid == false && t.store.identity.activation == .writing &&
        (answerAt .building t).map (·.body) == some (.writing .identity)) = true := by decide +kernel

/-- R185: DISCARD drops the staging image. -/
theorem test_configActivateDiscard :
    leaves (.configActivateDiscard 2) (staged .plant []) (fun t =>
      t.store.plant.staging == none && (answerAt .building t).map (·.result) == some .done) = true ∧
      leaves (.configActivateDiscard 2) State.reset (fun t =>
        (answerAt .building t).map (·.result) == some .noChange) = true := by decide +kernel

/-- R172: the key line judges it. -/
theorem test_restart :
    leaves .restart (keyed State.reset) (fun t => (answerAt .building t).map (·.result) == some .done) = true ∧
      leaves .restart State.reset (fun t => (answerAt .building t).map (·.result) == some .refusedKey) = true := by decide +kernel

/-- R164: the check value over 31h to 39h. -/
theorem test_crc : crc [0x31, 0x32, 0x33, 0x34, 0x35, 0x36, 0x37, 0x38, 0x39] = 0x29B1 := by decide +kernel

/-- The manual's reception on one line: the good frame makes the line LIVE and is answered DONE, PLACED, target OPEN; on the
Override Line its role code is wrong, and with that line's role code the kind is refused. -/
theorem test_frameReceived :
    leaves (.frameReceived .building [0xA5, 0x54, 0x04, 0x30, 0x00, 0x01, 0x00, 0x00, 0xE7, 0xE0]) atRestPlant (fun t =>
      (t.port .building).line == .live && (t.port .building).reception == .taking &&
        answerAt .building t == some { kind := 0x30, result := .done, body := .normalSet .placed (some .openPos) }) = true ∧
      leaves (.frameReceived .override [0xA5, 0x54, 0x04, 0x30, 0x00, 0x01, 0x00, 0x00, 0xE7, 0xE0]) atRestPlant (fun t =>
        answerAt .override t == none && (t.port .override).line == .silent) = true ∧
      leaves (.frameReceived .override [0xA5, 0x53, 0x04, 0x30, 0x00, 0x01, 0x00, 0x00, 0xFE, 0xA4]) atRestPlant (fun t =>
        answerAt .override t == some { kind := 0x30, result := .refusedRole, body := .plain } &&
          (t.port .override).supervisionTimer == some 10000) = true := by decide +kernel

/-- The manual's reception on one line: a length of 142 is discarded; a stray byte is ignored. -/
theorem test_byteReceived :
    leaves (.byteReceived .building (.byte 0x8E)) halfFrame (fun t => (t.port .building).reception == .discarding) = true ∧
      leaves (.byteReceived .building (.byte 0x3C)) State.reset (fun t => (t.port .building).reception == .hunting) = true := by
  decide +kernel

/-- R165: 2.0 ms of silence end a partial frame. -/
theorem test_gapTimerExpiry :
    leaves (.gapTimerExpiry .building) halfFrame (fun t =>
      (t.port .building).reception == .hunting && (t.port .building).buffer == []) = true := by decide +kernel

/-- R14, R165, R172: the answer begins, and after the last byte of DONE to a RESTART the restart is due. -/
theorem test_answer_and_restart :
    leaves (.answerBegin .building) (after .restart (keyed State.reset))
        (fun t => (t.port .building).reception == .answering && t.now == 1) = true ∧
      leaves (.answerSent .building) (after (.answerBegin .building) (after .restart (keyed State.reset))) (fun t =>
        t.power == .restartDue && (t.port .building).reception == .discarding && answerAt .building t == none) = true := by
  decide +kernel

/-- The manual's Override Line falling silent: LOST, stand-down released, zone 5's timers running on. -/
theorem test_supervisionTimerExpiry :
    leaves (.supervisionTimerExpiry .override)
      (heldPlant.setPort .override { heldPlant.port .override with line := .live, supervisionTimer := some 210000 }) (fun t =>
      (t.port .override).line == .lost && t.standDown == false && (t.zone 5).held == false &&
        (t.zone 5).stage.map (·.settle) == some (.running 214000)) = true := by decide +kernel

/-- R13: an INVALID mark gives CONFIG-FAULT. -/
theorem test_coldStart : faultyPart.configFault = true ∧ (after .coldStart State.reset).configFault = false := by decide +kernel

/-- R12: every output is de-energized. -/
theorem test_powerLoss :
    leaves .powerLoss (withFan3 runningFan) (fun t =>
      t.power == .unpowered && t.relayOn 5 == false && t.preloadOf 0 == 0) = true ∧ (withFan3 runningFan).relayOn 5 = true := by
  decide +kernel

/-- R14, R16: a restart due after RESTART is WARM, REQUEST. -/
theorem test_warmRestartStart :
    leaves (.warmRestartStart .request) { State.reset with power := .restartDue } (fun t =>
      t.power == .restarting && t.start == { kind := .warm, cause := .request }) = true := by decide +kernel

/-- R14, R16: a kept state that fails its check starts cold. -/
theorem test_supervisor_after_a_failed_check :
    leaves .supervisor { State.reset with overrides := 1 } (fun t =>
      t.power == .running && t.start == { kind := .cold, cause := .retainedCheck } && t.overrides == 0) = true := by
  decide +kernel

/-- R15, R108, R137: inputs read UNKNOWN, the history is emptied. -/
theorem test_warmRestartEnd :
    leaves .warmRestartEnd { withDamper0 { openingDamper with history := [5000] } with power := .restarting } (fun t =>
      t.power == .running && (t.inputs[(1 : Fin 128)]).debounced == .unknown && damperIs t 0 (fun d => d.history == [])) = true := by
  decide +kernel

/-- The manual's switch input at 60 ms and at 170 ms. -/
theorem test_inputSample :
    leaves (.inputSample 0 10000)
      { atRestPlant with inputs := atRestPlant.inputs.set 0 { candidate := some .on, run := 2, debounced := .unknown } }
      (fun t => t.inputs[(0 : Fin 128)] == { candidate := some .on, run := 3, debounced := .on }) = true ∧
    leaves (.inputSample 0 1499)
      { atRestPlant with inputs := atRestPlant.inputs.set 0 { candidate := some .openCircuit, run := 2, debounced := .on } }
      (fun t => damperIs t 0 (fun d => d.fault == some .inputFault)) = true := by decide +kernel

/-- R136: the key line needs five samples. -/
theorem test_keyLineSample :
    leaves (.keyLineSample 5000) { State.reset with key := { candidate := some .on, run := 4, debounced := .unknown } }
      (fun t => t.keyOn) = true ∧
    leaves (.keyLineSample 5000) { State.reset with key := { candidate := some .on, run := 3, debounced := .unknown } }
      (fun t => t.keyOn) = false := by decide +kernel

/-- The manual's scaling A on its second window: VALID, clamped to 0 Pa. -/
theorem test_channelConversion :
    leaves (.channelConversion 2 183)
      { atRestPlant with
        scan := 2
        plant :=
          { examplePlant with
            scalings := examplePlant.scalings.set 2 (some { clo := 205, chi := 1023, elo := 0, ehi := 500 }) }
        channels := atRestPlant.channels.set 2
          { window := [200, 196, 192, 190], lastValid := some 250, status := .valid, value := some 250 } } (fun t =>
      (t.channel 2).status == .valid && (t.channel 2).value == some 0) = true := by decide +kernel

/-- R141's halves in the manual's scaling B: 2.5 goes to 3 and −2.5 to −3. -/
theorem test_raw_values :
    rawValue { clo := 200, chi := 1000, elo := -250, ehi := 250 } 204 = -247 ∧
      rawValue { clo := 200, chi := 1000, elo := -250, ehi := 250 } 196 = -253 ∧
      rawValue { clo := 200, chi := 1000, elo := -250, ehi := 250 } 1012 = 258 := by decide +kernel

/-- R146: code 484 reads 18.9 V, the third confirming reading; code 486 reads 19.0 V, which confirms nothing. -/
theorem test_supplyConversion :
    leaves (.supplyConversion 484) { withDamper0 openingDamper with now := 38000, scan := 16, supply := { state := .ok, count := 2, reading := 180 } }
      (fun t => t.supply == { state := .low, count := 0, reading := 189 } &&
        damperIs t 0 (fun d => d.state == .suspended && d.travel == .frozen 22000 && !d.openOut)) = true ∧
    leaves (.supplyConversion 486) { State.reset with scan := 16, supply := { state := .ok, count := 2, reading := 180 } }
      (fun t => t.supply == { state := .ok, count := 0, reading := 190 } && t.scan == 0) = true := by decide +kernel

/-- R126, R127: the preload of fan 3 is applied at the boundary of its own output. -/
theorem test_speedFrameBoundary :
    leaves (.speedFrameBoundary 0) (withFan3 runningFan) (fun t => t.applied[(0 : Fin 16)] == 870) = true ∧
      leaves (.speedFrameBoundary 1) (withFan3 runningFan) (fun t => t.applied[(0 : Fin 16)] == 0) = true := by decide +kernel

/-- R125's worked codes and R126's worked frame. -/
theorem test_duty_codes :
    [300, 600, 850, 900, 1000].map dutyCode = [307, 614, 870, 921, 1023] ∧
      [1, 2, 3, 4].map (highCounts 870) = [218, 217, 218, 217] ∧ [1, 2, 3, 4].map (highCounts 614) = [154, 153, 154, 153] ∧
      [1, 2, 3, 4].map (highCounts 921) = [230, 231, 230, 230] := by decide +kernel

/-- R186: IDENTITY is applied at the completion. -/
theorem test_writeCompletion :
    leaves .writeCompletion (writingPlant .identity [(0, 0x41), (9, 0xC8)]) (fun t =>
      t.store.identity.valid && t.store.identity.staging == none && t.siteCode.map (fun c => c.headD 0) == some 0x41 &&
        (t.port .panelA).supervisionTime == 200) = true := by decide +kernel

/-- R94: the timed travel of damper 2 ends CLOSED-BY-TIME with its output kept on. -/
theorem test_travelTimerExpiry :
    leaves (.travelTimerExpiry 2)
      { atRestPlant with
        drives := atRestPlant.drives.set 2
          (.damper { atRest .moving .closedSide none true with state := .drivingClose, travel := .running 30000 }) } (fun t =>
      t.now == 30000 && damperIs t 2 (fun d => d.state == .idle && d.position == .closedByTime && d.driveOut)) = true := by
  decide +kernel

/-- The manual's target churn at 5.0: a reversal, entered in the history. -/
theorem test_deadTimeExpiry :
    leaves (.deadTimeExpiry 0)
      { withDamper0 deadDamper with inputs := atRestPlant.inputs.set 1 (steady .off .off) } (fun t =>
      damperIs t 0 (fun d => d.state == .drivingClose && d.travel == .running 65000 && d.closeOut && d.history == [5000])) =
      true := by decide +kernel

/-- The manual's target churn at 65.0: the oldest entry leaves and the reversal is made. -/
theorem test_cooldownExpiry :
    leaves (.cooldownExpiry 0) (withDamper0 coolDamper) (fun t =>
      damperIs t 0 (fun d => d.state == .drivingOpen && d.openOut && d.history == [8000, 13000, 65000])) = true := by
  decide +kernel

/-- R100: SWITCH-DISAGREE is latched. -/
theorem test_switchDisagreeExpiry :
    leaves (.switchDisagreeExpiry 0) (withDamper0 { openingDamper with disagreeTimer := some 2000 }) (fun t =>
      damperIs t 0 (fun d => d.fault == some .switchDisagree && d.state == .idle && !d.openOut)) = true := by decide +kernel

/-- R100: LEFT-POSITION is latched. -/
theorem test_leftPositionExpiry :
    leaves (.leftPositionExpiry 0)
      (withDamper0
        { atRest .unknown .openSide (some .openSide) false with leftTimer := some 2000, leftFrom := some .openPos }) (fun t =>
      t.now == 2000 && damperIs t 0 (fun d => d.fault == some .leftPosition)) = true := by decide +kernel

/-- The manual's fan that will not start: at 30.0 RESTART-WAIT until 40.0. -/
theorem test_startProofExpiry :
    leaves (.startProofExpiry 3) (withFan3 startingFan) (fun t =>
      fanIs t 3 (fun f => f.state == .restartWait && !f.runOut && f.attempts == 0 && f.restartTimer == some 40000 &&
        f.fault == none)) = true := by decide +kernel

/-- R119: a fan still shown running at its stop proof fails with FAIL-STOP. -/
theorem test_stopProofExpiry :
    leaves (.stopProofExpiry 4)
      { atRestPlant with
        inputs := atRestPlant.inputs.set 5 (steady .on .on)
        drives := atRestPlant.drives.set 4 (.fan { fanAtRest 0 with state := .stopping, stopTimer := some 40000 }) } (fun t =>
      fanIs t 4 (fun f => f.state == .failed && f.fault == some .failStop)) = true := by decide +kernel

/-- R116: fan 4 has no restart attempts. -/
theorem test_runLossExpiry :
    leaves (.runLossExpiry 4)
      { atRestPlant with
        drives := atRestPlant.drives.set 4
          (.fan { fanAtRest 0 with state := .running, target := .run 1000, runOut := true, lossTimer := some 5000 }) } (fun t =>
      fanIs t 4 (fun f => f.state == .failed && f.fault == some .failRun && !f.runOut)) = true := by decide +kernel

/-- The manual's fan that will not start, at 40.0. -/
theorem test_restartDelayExpiry :
    leaves (.restartDelayExpiry 3)
      (withFan3 { startingFan with state := .restartWait, runOut := false, startTimer := none, restartTimer := some 40000 })
      (fun t => fanIs t 3 (fun f => f.state == .starting && f.attempts == 1 && f.runOut && f.startTimer == some 70000)) =
      true := by decide +kernel

/-- The manual's two zones on one fan: ramp step 1 writes 41. -/
theorem test_rampStep :
    leaves (.rampStep 3) (withFan3 startingFan) (fun t => fanIs t 3 (fun f => f.ramped == 40 && f.preload == 41)) = true ∧
      leaves (.rampStep 3) (withFan3 { runningFan with ramped := 840, preload := 859 }) (fun t =>
        fanIs t 3 (fun f => f.ramped == 850 && f.preload == 870)) = true := by decide +kernel

/-- R69: after its settle time the stage is PROVING. -/
theorem test_settleExpiry :
    leaves (.settleExpiry 5) alarmed (fun t => t.now == 5000 && (t.zone 5).stage.map (·.phase) == some .proving) = true := by
  decide +kernel

/-- R71, R73: a FAILED outcome under STOP stops the zone. -/
theorem test_proofWindowExpiry :
    leaves (.proofWindowExpiry 5) (provingPlant 0 10) (fun t =>
      (t.zone 5).phase == .stopped && (t.zone 5).failed == some 1 &&
        (t.zone 5).stage.map (·.outcomes) == some [.failed, .deferred]) = true := by decide +kernel

/-- R64, R65: the stage is issued with its GATE-EXPIRED mark. -/
theorem test_gateWaitExpiry :
    leaves (.gateWaitExpiry 5) gatedPlant (fun t =>
      (t.zone 5).stage.map (fun c => (c.gateExpired, c.phase, c.window)) == some (true, .proving, .running 75000) &&
        (t.claimList 2).target == some .openPos) = true := by decide +kernel

/-! ## Witnesses: a state and operands that meet each statement's hypotheses -/

theorem test_witness_StepTakesTheFrontCommand :
    { State.reset with pending := [.poll .panelA, .resume] }.pending = .poll .panelA :: [.resume] ∧
      State.reset.pending = [] := by decide +kernel

theorem test_witness_NothingIsTakenWhileNotRunning :
    { State.reset with power := .restarting }.power ≠ .running ∧ (Instr.poll .panelA) ≠ .coldStart ∧
      (Instr.poll .panelA) ≠ .powerLoss ∧ (∀ cause, (Instr.poll .panelA) ≠ .warmRestartStart cause) ∧
      (Instr.poll .panelA) ≠ .supervisor ∧ (Instr.poll .panelA) ≠ .warmRestartEnd := by
  refine ⟨by decide +kernel, by decide, by decide, fun c => by simp, by decide, by decide⟩

/-- Whether a drive is sound for its record, decided. -/
def driveSoundDecided : (r : ActuatorDef) → (d : Drive) → Decidable (DriveSound r d)
  | .unused, .none => .isTrue trivial
  | .unused, .damper _ => .isFalse id
  | .unused, .fan _ => .isFalse id
  | .reversing _, .none => .isTrue trivial
  | .reversing _, .damper d => by delta DriveSound ReversingSound; exact inferInstance
  | .reversing _, .fan _ => .isFalse id
  | .spring _, .none => .isTrue trivial
  | .spring _, .damper d => by delta DriveSound SpringSound; exact inferInstance
  | .spring _, .fan _ => .isFalse id
  | .fan _, .none => .isTrue trivial
  | .fan _, .damper _ => .isFalse id
  | .fan _, .fan f => by delta DriveSound FanSound; exact inferInstance

/-- Every drive of a state is sound, decided. -/
def drivesDecided (s : State) : Decidable (∀ a, DriveSound (s.record a) (s.drive a)) :=
  @Nat.decidableForallFin 64 _ (fun a => driveSoundDecided (s.record a) (s.drive a))

/-- The drives of a state are sound outside CONFIG-FAULT. -/
theorem drivesSound_of {s : State} (h : ∀ a, DriveSound (s.record a) (s.drive a)) (hf : s.configFault = false)
    (hc : ∀ i, s.filterCount i = s.plant.filterCount i) : DrivesSound s :=
  ⟨h, fun h' => absurd (hf.symm.trans h') Bool.false_ne_true, fun _ => hc⟩

/-- The drives on their way after an alarm are sound, and so is the plant within a restart. -/
theorem test_witness_DrivesStaySound :
    DrivesSound { alarmed with pending := [.travelTimerExpiry 0] } ∧
      leaves (.travelTimerExpiry 0) alarmed (fun _ => true) = true :=
  ⟨drivesSound_of (@of_decide_eq_true _ (drivesDecided _) (by decide +kernel)) (by decide +kernel) (by decide +kernel),
    by decide +kernel⟩

/-- A part within a restart, with damper 0 on its way and fan 3 running, and zone 5's stage SETTLING. -/
theorem test_witness_WarmRestartEndsKept :
    { withDamper0 openingDamper with power := .restarting }.power = .restarting ∧
      DrivesSound { withDamper0 openingDamper with power := .restarting } ∧
      (midStage.zone 5).phase = .running ∧ (midStage.zone 5).stage.isSome = true ∧ (midStage.zone 9).phase ≠ .running :=
  ⟨by decide +kernel,
    drivesSound_of (@of_decide_eq_true _ (drivesDecided _) (by decide +kernel)) (by decide +kernel) (by decide +kernel),
    by decide +kernel, by decide +kernel, by decide +kernel⟩

/-- The store of a part that is writing its PLANT sector is sound. -/
theorem writingStore_sound {s : State} (h : s.store = (writingPlant .plant []).store) : StoreSound s := by
  unfold StoreSound
  rw [h]
  refine ⟨?_, ?_, by decide +kernel⟩
  · intro sec
    refine ⟨?_, ?_, ?_⟩
    · cases sec <;> decide +kernel
    · intro img h
      cases sec
      · cases h
      · obtain rfl : ([] : Image) = img := Option.some.inj h
        decide +kernel
      · cases h
    · cases sec <;> decide +kernel
  · intro x y
    cases x <;> cases y <;> decide +kernel

/-- A part that is writing its PLANT sector is sound, and the write completes. -/
theorem test_witness_StoreStaysSound :
    StoreSound { writingPlant .plant [] with pending := [.writeCompletion] } ∧
      leaves .writeCompletion (writingPlant .plant []) (fun _ => true) = true :=
  ⟨writingStore_sound rfl, by decide +kernel⟩

/-- A list of a state whose checks hold is sound. -/
theorem listSound_of {s : State} {a : Fin 64}
    (h : (decide ((s.claimList a).claims.length ≤ maxClaims) && sourcesDistinct (s.claimList a).claims &&
      rankOrdered s.activation (s.claimList a).claims && (s.claimList a).claims.all (fun c => sourceActive s c.src) &&
      (s.claimList a).target == deriveTarget (restCommand (s.record a)) (s.claimList a).claims) = true) :
    (s.claimList a).claims.length ≤ maxClaims ∧ ((s.claimList a).claims.map (·.src)).Nodup ∧
      (s.claimList a).claims.Pairwise (fun c x => outranks s.activation c x = true) ∧
      (∀ c ∈ (s.claimList a).claims, ClaimActive s c) ∧
      (s.claimList a).target = deriveTarget (restCommand (s.record a)) (s.claimList a).claims := by
  simpa [Bool.and_eq_true, sourcesDistinct_iff, rankOrdered_iff, List.all_eq_true, sourceActive_iff, and_assoc] using h

/-- One active zone, driving two dampers, is sound with its lists. -/
theorem test_witness_ZonesStaySound_ListsStaySound :
    ZonesSound alarmed ∧ ListsSound alarmed ∧ leaves (.settleExpiry 5) alarmed (fun _ => true) = true := by
  refine ⟨?_, ⟨fun a => listSound_of ?_, fun z a => (entryKept_iff alarmed z a).1 ?_, ?_, ?_⟩, by decide +kernel⟩
  · unfold ZonesSound ZoneSound
    exact ⟨by decide +kernel, by decide +kernel, by decide +kernel, by decide +kernel, by decide +kernel⟩
  · revert a; decide +kernel
  · revert z a; decide +kernel
  · decide +kernel
  · decide +kernel

/-- A STAND-DOWN sets stand-down, and so does its frame (R163, R164). -/
theorem test_witness_OnlyTheOverrideLineSetsStandDown :
    midStage.standDown = false ∧ leaves (.standDown 1) midStage (fun t => t.standDown) = true ∧
      leaves (.frameReceived .override [0xA5, 0x53, 0x01, 0x22, 0x01, 0x2D, 0xB2]) midStage (fun t => t.standDown) = true ∧
      leaves (.byteReceived .override (.byte 0xB2))
        (midStage.setPort .override
          { midStage.port .override with reception := .receiving, buffer := [0xA5, 0x53, 0x01, 0x22, 0x01, 0x2D],
                                         gapTimer := some 58002 }) (fun t => t.standDown) = true := by decide +kernel

theorem test_witness_TheEngineTouchesNothingElse :
    (Work.start State.reset).st.activation = [] ∧ ((Work.start State.reset).st.port .panelA).changeFlag = true ∧
      (∀ z, ((Work.start alarmed).st.sequenceOf z).length ≤ 16) ∧ 5 ∈ (Work.start alarmed).st.activation ∧
      (alarmed.zone 5).phase = .running ∧ (alarmed.zone 5).stage.map (·.phase) = some .settling := by
  decide +kernel

theorem test_witness_AnAnswerStandsAtItsPort : Line.panelB ≠ Line.panelA := by decide

/-- Damper and fan drives for R53, an entry of each status with and without a fault for R66, and a zone of each phase for R54. -/
theorem test_witness_ProvenByTheTable :
    atRestPlant.drive 0 = .damper (atRest .closedPos .closedSide (some .closedSide) false) ∧
      (atRestPlant.damperCtx 0).map (·.mode) = some .bothSwitches ∧ (atRestPlant.damperCtx 2).map (·.mode) = some .timed ∧
      atRestPlant.drive 2 = .damper (atRest .closedByTime .closedSide none true) ∧
      atRestPlant.drive 3 = .fan (fanAtRest 300) ∧ (withFan3 runningFan).drive 3 = .fan runningFan ∧
      (let entry (status : ClaimStatus) : ZoneRecord :=
        { zoneAtRest with phase := .complete, map := zoneAtRest.map.set 0 (some { cmd := .closedPos, status := status }) }
       (entry .shed).map[(0 : Fin 64)] = some { cmd := .closedPos, status := .shed } ∧
         judgeOutcome atRestPlant (entry .shed) ⟨0, .closedPos⟩ .pending = .shed ∧
         judgeOutcome atRestPlant (entry .displaced) ⟨0, .closedPos⟩ .pending = .deferred ∧
         judgeOutcome (withDamper0 { openingDamper with fault := some .inputFault }) (entry .inForce) ⟨0, .closedPos⟩ .pending =
           .failed ∧
         judgeOutcome atRestPlant (entry .inForce) ⟨0, .closedPos⟩ .pending = .proven ∧
         judgeOutcome (withDamper0 openingDamper) (entry .inForce) ⟨0, .closedPos⟩ .pending = .pending ∧
         subStatusOf atRestPlant (entry .inForce) = .established ∧ subStatusOf atRestPlant (entry .shed) = .degraded ∧
         (alarmed.zone 5).phase = .running) := by decide +kernel

theorem test_witness_TargetIsTheHeads :
    sixClaims = ⟨.fire 5, .closedPos⟩ :: sixClaims.tail ∧ (∀ v, (Command.closedPos) ≠ .run v) ∧
      (⟨.fire 5, .run 600⟩ : Claim).cmd = .run 600 ∧
      deriveTarget none [⟨.fire 5, .run 600⟩, ⟨.fire 9, .run 850⟩] = some (.run 850) := by
  refine ⟨by decide, fun v => by simp, rfl, by decide⟩

/-- Case by case: a held source, a list with room, a full list that sheds its lowest, a full list that sheds the new claim. -/
theorem test_witness_PlacingByRank :
    rankOrdered sixZones sixClaims = true ∧ sourcesDistinct sixClaims = true ∧
      (∀ c ∈ sixClaims, ∀ z, c.src = .test z ∨ c.src = .fire z → z ∈ sixZones) ∧
      (claimOf sixClaims (.fire 9)).isSome = true ∧ claimOf sixClaims .override = none ∧ sixClaims.length = 6 ∧
      rankOrdered sixZones sixClaims.tail = true ∧ sixClaims.tail.length < 6 ∧ claimOf sixClaims.tail (.fire 5) = none ∧
      outranks sixZones ⟨.fire 2, .openPos⟩ ⟨.normal, .openPos⟩ = true ∧
      rankOrdered sixZones (⟨.override, .closedPos⟩ :: sixClaims.dropLast) = true ∧
      outranks sixZones ⟨.normal, .openPos⟩ ⟨.fire 14, .openPos⟩ = false := by decide +kernel

/-- The manual's reset of zone 9: zone 14's SHED claim is placed again, below the claims that outrank it. -/
theorem test_witness_ReofferFillsTheList :
    sixClaims.length ≤ 6 ∧
      (let s : State :=
        { atRestPlant with
          activation := [14]
          zones := atRestPlant.zones.set 14
            { zoneAtRest with
              mode := .fire
              map := zoneAtRest.map.set 0 (some { cmd := .openPos, status := .shed }) } }
       let claims : List Claim := [⟨.override, .closedPos⟩, ⟨.normal, .openPos⟩]
       reoffer s 0 claims = [⟨.override, .closedPos⟩, ⟨.fire 14, .openPos⟩, ⟨.normal, .openPos⟩] ∧
         shedClaims s 0 = [⟨.fire 14, .openPos⟩] ∧ s.activation.Nodup ∧
         claims.Pairwise (fun c x => outranks s.activation c x = true) ∧
         (∀ c ∈ claims, ∀ z, c.src = .test z ∨ c.src = .fire z → z ∈ s.activation) ∧
         ∀ c ∈ claims, ∀ x ∈ shedClaims s 0, c.src ≠ x.src) := by decide +kernel

theorem test_witness_RawValueRoundsHalfAwayFromZero :
    (let sc : Scaling := { clo := 200, chi := 1000, elo := -250, ehi := 250 }
     sc.clo < sc.chi ∧ 0 ≤ (((204 : Nat) : Int) - sc.clo) * (sc.ehi - sc.elo) ∧
       (((196 : Nat) : Int) - sc.clo) * (sc.ehi - sc.elo) < 0) := by decide

theorem test_witness_EveryFrameCarriesQ :
    extensionCount 0 = 0 ∧ extensionCount 1 = 1 ∧ extensionCount 870 = 2 ∧ extensionCount 1023 = 3 ∧ baseCount 1023 = 255 ∧
      (withFan3 runningFan).power = .running ∧
      leaves .powerLoss { withFan3 runningFan with applied := atRestPlant.applied.set 0 870 }
        (fun t => t.applied[(0 : Fin 16)] == 0) = true := by decide +kernel

/-- Whether the limits of a record and the speed chain of its drive are as the invariants say. -/
def speedChainRight (d : Drive) : ActuatorDef → Bool
  | .fan r =>
    (match r.speed with
     | none => true
     | some sd =>
       decide (sd.smin ≤ sd.smax ∧ sd.smax ≤ 1000) &&
         (match d with
          | .fan f =>
            decide (sd.smin ≤ f.clamped ∧ f.clamped ≤ sd.smax ∧ f.ramped ≤ sd.smax ∧ (f.runOut = false → f.ramped = 0) ∧
              f.preload ≤ 1023 ∧ (f.rampTimer.isSome = true → f.runOut = true))
          | _ => true))
  | _ => true

theorem speedsSound_of {s : State} (h : ∀ a, speedChainRight (s.drive a) (s.record a) = true) :
    SpeedsSound s ∧ FansOrdered s.plant := by
  constructor
  · intro a f r sd hd hr hs
    have ha := h a
    rw [hd, hr] at ha
    simp only [speedChainRight, hs, Bool.and_eq_true, decide_eq_true_eq] at ha
    exact ha.2
  · intro a r sd hr hs
    have ha := h a
    have hr' : s.record a = .fan r := hr
    rw [hr'] at ha
    simp only [speedChainRight, hs, Bool.and_eq_true, decide_eq_true_eq] at ha
    exact ha.1

/-- The blank PLANT image has no fan. -/
theorem blank_ordered : FansOrdered (plantOf []) := by
  intro a r sd hr _
  have none : ∀ a : Fin 64, (plantOf []).acts[a] = .unused := by decide +kernel
  rw [none a] at hr
  cases hr

/-- Fan 3 at its ramp step while a PLANT image is being written, and the speed outputs of the example plant. -/
def rampingWhileWriting : State :=
  { withFan3 startingFan with pending := [.rampStep 3], store := (writingPlant .plant []).store }

theorem test_witness_TheSpeedChainStaysInRange :
    SpeedsSound rampingWhileWriting ∧ LimitsOrdered rampingWhileWriting ∧ DrivesSound rampingWhileWriting ∧
      StoreSound rampingWhileWriting ∧
      dutyCode 0 = 0 ∧ dutyCode 1000 = 1023 ∧ (∀ a, namesSpeedOutput 1 (atRestPlant.record a) = false) ∧
      namesSpeedOutput 0 (atRestPlant.record 3) = true ∧
      (∀ b, namesSpeedOutput 0 (atRestPlant.record b) = true → b = 3) ∧ (withFan3 runningFan).drive 3 = .fan runningFan := by
  have chain := speedsSound_of (s := rampingWhileWriting) (by decide +kernel)
  have blank (img : Image) (h : rampingWhileWriting.store.plant.staging = some img) : FansOrdered (plantOf img) := by
    obtain rfl : ([] : Image) = img := Option.some.inj h
    exact blank_ordered
  exact ⟨chain.1, ⟨chain.2, fun v => absurd v (by decide +kernel), fun img _ h => blank img h⟩,
    drivesSound_of (@of_decide_eq_true _ (drivesDecided _) (by decide +kernel)) (by decide +kernel) (by decide +kernel),
    writingStore_sound rfl, by decide +kernel⟩

theorem test_witness_reads :
    State.reset.takes .building ∧ (5 : Byte).toNat > 4 ∧ zoneOf 23 = some 23 ∧ zoneOf 24 = none ∧
      atRestPlant.configuredActuator 5 = none ∧ atRestPlant.configuredActuator 64 = none ∧
      atRestPlant.configuredActuator 0 = some 0 ∧ atRestPlant.configuredActuator 3 = some 3 ∧
      (atRestPlant.damperCtx 0).isSome = true ∧ (atRestPlant.fanCtx 3).isSome = true := by decide +kernel

/-- R57, R180: the parts at their bounds, on a zone with a last test record. -/
theorem test_witness_ReadsShowTheRecords :
    testing.takes .panelA ∧ (testing.zone 5).stage.isSome = true ∧ fullList.takes .panelB ∧
      (let s := { faultyPart with plant := examplePlant }
       s.drive 0 = .none ∧ (s.damperCtx 0).isSome = true ∧ s.drive 3 = .none ∧ (s.fanCtx 3).isSome = true) ∧
      ((after (.testEnd 5) testing).zone 5).lastTest.isSome = true ∧
      leaves (.readZone .panelA 5 6) (after (.testEnd 5) testing)
        (fun t => (answerAt .panelA t).map (·.result) == some .done) = true ∧
      leaves (.readZone .panelA 5 3) (after (.testEnd 5) testing) (fun t =>
        match (answerAt .panelA t).map (·.body) with
        | some (AnswerBody.testPart (some v)) => v.2.length == 3
        | _ => false) = true ∧
      leaves (.readZone .panelA 5 7) testing (fun t => (answerAt .panelA t).map (·.result) == some .refusedRange) = true ∧
      leaves (.readZone .panelA 5 1) testing (fun t =>
        match (answerAt .panelA t).map (·.body) with
        | some (AnswerBody.zoneMap v) => v.map (·.1) == [0, 1]
        | _ => false) = true := by decide +kernel

theorem test_witness_AlarmStartsAFireRun :
    atRestPlant.takes .panelA ∧ atRestPlant.configFault = false ∧ zoneOf 5 = some 5 ∧
      (atRestPlant.zoneDef 5).any (fun d => d.reportedBy .panelA) = true ∧ (atRestPlant.zone 5).mode ≠ .fire ∧
      testing.takes .panelA ∧ zoneOf 9 = some 9 ∧ (testing.zoneDef 9).any (fun d => d.reportedBy .panelA) = true ∧
      (testing.zone 9).mode ≠ .fire ∧ (testing.zone 5).mode = .test ∧ (testing.zone 5).log.isSome = true := by decide +kernel

theorem test_witness_AFireRunKeepsItsCourse :
    alarmed.takes .panelA ∧ (alarmed.zone 5).mode = .fire ∧ (alarmed.zone 5).hasSource .panelA = true ∧
      (alarmed.zoneDef 5).any (fun d => d.reportedBy .panelA) = true ∧
      (let s := after (.zoneAlarm .panelB 14) atRestPlant
       s.takes .panelA ∧ (s.zone 14).mode = .fire ∧ (s.zone 14).hasSource .panelA = false ∧
         (s.zoneDef 14).any (fun d => d.reportedBy .panelA) = true) ∧
      (let s := quiet (after (.zoneAlarm .panelA 14) (after (.zoneAlarm .panelB 14) atRestPlant))
       s.takes .panelA ∧ (s.zone 14).sourceA = true ∧ (s.zone 14).sourceB = true) := by decide +kernel

/-- The claims of a zone that are held are not SHED in its map. -/
theorem claims_not_shed {s : State} {z : Fin 24} {src : Source}
    (h : ∀ a, (claimOf (s.claimList a).claims src).isSome = true → (s.zone z).map[a].any (fun e => e.status != .shed) = true) :
    ∀ a, (claimOf (s.claimList a).claims src).isSome = true → ∃ e, (s.zone z).map[a] = some e ∧ e.status ≠ .shed := by
  intro a ha
  obtain ⟨e, he, hs⟩ := exists_of_any (h a ha)
  exact ⟨e, he, by simpa using hs⟩

theorem test_witness_TheLastResetEndsTheRun :
    alarmed.takes .panelA ∧ (alarmed.zone 5).mode = .fire ∧ (alarmed.zone 5).sourceA = true ∧
      (alarmed.zone 5).sourceB = false ∧ (claimOf (alarmed.claimList 0).claims (.fire 5)).isSome = true ∧
      ∀ a, (claimOf (alarmed.claimList a).claims (.fire 5)).isSome = true →
        ∃ e, (alarmed.zone 5).map[a] = some e ∧ e.status ≠ .shed :=
  ⟨by decide +kernel, by decide +kernel, by decide +kernel, by decide +kernel, by decide +kernel,
    claims_not_shed (by decide +kernel)⟩

theorem test_witness_TestStartBeginsATest :
    atRestPlant.takes .building ∧ atRestPlant.configuredZone 5 = some 5 ∧ testReasonOf 1 = some .routine ∧ testReasonOf 2 = some .commissioning ∧
      (keyed atRestPlant).keyOn = true ∧ ∀ y, (atRestPlant.zone y).mode = .none := by decide +kernel

theorem test_witness_TestEndEndsTheTest :
    testing.takes .building ∧ testing.configuredZone 5 = some 5 ∧ (testing.zone 5).mode = .test ∧
      (testing.zone 5).log.isSome = true ∧ (alarmed.zone 5).mode = .fire ∧ alarmed.configuredZone 5 = some 5 ∧
      (atRestPlant.zone 5).mode = .none ∧
      ∀ a, (claimOf (testing.claimList a).claims (.test 5)).isSome = true →
        ∃ e, (testing.zone 5).map[a] = some e ∧ e.status ≠ .shed :=
  ⟨by decide +kernel, by decide +kernel, by decide +kernel, by decide +kernel, by decide +kernel, by decide +kernel,
    by decide +kernel, claims_not_shed (by decide +kernel)⟩

/-- A request that fails each check: CONFIG-FAULT, range, panel, kind, speed, reason, key, run, body, sector. -/
theorem test_witness_RefusalsChangeNothing :
    faultyPart.takes .panelA ∧ faultyPart.takes .override ∧ faultyPart.takes .building ∧ faultyPart.configFault = true ∧
      atRestPlant.takes .panelB ∧ atRestPlant.takes .override ∧ atRestPlant.takes .building ∧ atRestPlant.configFault = false ∧
      atRestPlant.configuredActuator 5 = none ∧
      atRestPlant.configuredActuator 64 = none ∧ atRestPlant.configuredZone 4 = none ∧ atRestPlant.configuredZone 24 = none ∧
      zoneOf 5 = some 5 ∧ (atRestPlant.zoneDef 5).any (fun d => !d.reportedBy .panelB) = true ∧
      matchingCommand (atRestPlant.record 0) 4 0 = none ∧ matchingCommand (atRestPlant.record 4) 4 1001 = some (.run 1001) ∧
      testReasonOf 0 = none ∧ testReasonOf 2 = some .commissioning ∧ atRestPlant.key.debounced ≠ .on ∧
      alarmed.takes .building ∧ (alarmed.zone 5).mode ≠ .none ∧ alarmed.configuredZone 9 = some 9 ∧
      sectorOf 4 = none ∧ State.reset.store.writing = none ∧ (writingPlant .plant []).store.writing ≠ none ∧
      (writingPlant .plant []).takes .building ∧ sectorSize .identity < ((0 : Byte) ++ (13 : Byte) : BitVec 16).toNat + 2 := by
  decide +kernel

theorem test_witness_AnOverrideGoverns :
    fullList.takes .override ∧ fullList.configFault = false ∧ fullList.configuredActuator 0 = some 0 ∧
      matchingCommand (fullList.record 0) 2 0 = some .closedPos ∧ speedInRange .closedPos = true ∧
      (∀ c ∈ (fullList.claimList 0).claims.tail, c.src ≠ .override) ∧
      (fullList.claimList 0).target = deriveTarget (restCommand (fullList.record 0)) (fullList.claimList 0).claims ∧
      claimOf (fullList.claimList 0).claims .override = none ∧
      (claimOf (overriddenPlant.claimList 0).claims .override).isSome = true ∧
      (overriddenPlant.claimList 0).target =
        deriveTarget (restCommand (overriddenPlant.record 0)) (overriddenPlant.claimList 0).claims := by decide +kernel

theorem test_witness_ReleaseWithdrawsOverrides :
    overriddenPlant.takes .override ∧ overriddenPlant.overrides = overrideLists overriddenPlant ∧
      overriddenPlant.store.plant.activation ≠ .pending ∧ overriddenPlant.store.sequences.activation ≠ .pending ∧
      overriddenPlant.configuredActuator 0 = some 0 ∧ overriddenPlant.overridden 0 = true ∧
      overriddenPlant.configuredActuator 1 = some 1 ∧ overriddenPlant.overridden 1 = false ∧
      atRestPlant.overrides = overrideLists atRestPlant ∧ ∀ a, atRestPlant.overridden a = false := by decide +kernel

theorem test_witness_StandDownHoldsTheRunningFires :
    standDownOptionOf 0 = none ∧ standDownOptionOf 1 = some .resumeOnly ∧ standDownOptionOf 2 = some .resumeOnNewAlarm ∧
      standDownOptionOf 3 = none ∧ midStage.takes .override ∧ midStage.standDown = false ∧ midStage.fireRunning 5 = true ∧
      heldPlant.standDown = true ∧ atRestPlant.standDown = false ∧ ∀ z, atRestPlant.fireRunning z = false := by decide +kernel

theorem test_witness_ResumeReleasesStandDown :
    heldPlant.takes .override ∧ heldPlant.standDown = true ∧ midStage.standDown = false ∧
      (heldPlant.zone 5).held = true ∧ (heldPlant.zone 5).suspended = false ∧
      (heldPlant.zone 5).stage.map (·.phase) = some .settling := by decide +kernel

/-- Damper 0 IDLE away from its target, on its way, and at its target; a fan FAILED and not; a part in CONFIG-FAULT with fan 3. -/
theorem test_witness_FaultClearRedrives :
    (let d := { atRest .unknown .openSide (some .openSide) false with fault := some .travelTimeout }
     (withDamper0 d).drive 0 = .damper d ∧ (withDamper0 d).configuredActuator 0 = some 0 ∧
       ((withDamper0 d).damperCtx 0).any (fun ctx => positionProves ctx.mode d.position d.target == false) = true ∧
       d.state = .idle) ∧
      (withDamper0 { atRest .unknown .openSide none false with supply := .low }).drive 0 =
        .damper { atRest .unknown .openSide none false with supply := .low } ∧
      (withDamper0 openingDamper).drive 0 = .damper openingDamper ∧ openingDamper.state ≠ .idle ∧
      (let f := { runningFan with state := .failed, fault := some .inputFault }
       (withFan3 f).drive 3 = .fan f ∧ (withFan3 f).configuredActuator 3 = some 3 ∧
         ((withFan3 f).fanCtx 3).any (fun ctx : FanCtx => !ctx.inputFaulted) = true ∧
         ({ withFan3 f with inputs := atRestPlant.inputs.set 4 (steady .openCircuit .openFault) }.fanCtx 3).any
           (fun ctx : FanCtx => ctx.inputFaulted) = true) ∧
      (withFan3 runningFan).drive 3 = .fan runningFan ∧ runningFan.state ≠ .failed ∧
      (let s := { faultyPart with plant := examplePlant }
       s.configuredActuator 3 = some 3 ∧ s.drive 3 = .none ∧ s.activation = []) := by decide +kernel

theorem test_witness_NormalSetPlacesItsClaim :
    fullList.takes .building ∧ fullList.configFault = false ∧ fullList.configuredActuator 0 = some 0 ∧
      matchingCommand (fullList.record 0) 1 0 = some .openPos ∧
      (fullList.claimList 0).target = deriveTarget (restCommand (fullList.record 0)) (fullList.claimList 0).claims ∧
      matchingCommand (atRestPlant.record 4) 4 0xFFFF = some (.run 65535) := by decide +kernel

theorem test_witness_NormalReleaseWithdraws :
    fullList.takes .building ∧ fullList.configuredActuator 0 = some 0 ∧ claimOf (fullList.claimList 0).claims .normal = some ⟨.normal, .openPos⟩ ∧
      claimOf (atRestPlant.claimList 0).claims .normal = none ∧ (atRestPlant.claimList 0).normalShed = false ∧
      (let s := atRestPlant.setList 0 { atRestPlant.claimList 0 with normalShed := true }
       claimOf (s.claimList 0).claims .normal = none ∧ (s.claimList 0).normalShed = true) := by decide +kernel

/-- A group of two, one with an unconfigured actuator, one whose kind does not match, one that names an actuator twice. -/
theorem test_witness_AGroupIsItsNormalSets :
    atRestPlant.takes .building ∧ groupOf [] = none ∧ groupOf [17] = none ∧
      groupOf [2, 0, 1, 0, 0, 4, 4, 0x03, 0xE8] = some [⟨0, 1, 0⟩, ⟨4, 4, 1000⟩] ∧
      atRestPlant.configuredActuator 0 = some 0 ∧ atRestPlant.configuredActuator 4 = some 4 ∧
      (atRestPlant.pairCommand ⟨0, 1, 0⟩).isSome = true ∧ (atRestPlant.pairCommand ⟨4, 4, 1000⟩).isSome = true ∧
      groupOf [2, 0, 1, 0, 0, 5, 1, 0, 0] = some [⟨0, 1, 0⟩, ⟨5, 1, 0⟩] ∧ atRestPlant.configuredActuator 5 = none ∧
      atRestPlant.pairCommand ⟨4, 1, 0⟩ = none ∧ groupOf [2, 0, 1, 0, 0, 4, 1, 0, 0] = some [⟨0, 1, 0⟩, ⟨4, 1, 0⟩] ∧
      groupOf [2, 0, 1, 0, 0, 0, 2, 0, 0] = some [⟨0, 1, 0⟩, ⟨0, 2, 0⟩] ∧
      leaves (.normalGroup [2, 0, 1, 0, 0, 0, 2, 0, 0]) atRestPlant (fun t =>
        answerAt .building t == some { kind := 0x32, result := .refusedForm, body := .failingPair 1 }) = true := by
  decide +kernel

/-- IDENTITY is 14 bytes long: the last byte and one byte more (R182, R183, R190). -/
theorem test_witness_configuration_reads_and_writes :
    State.reset.takes .building ∧ (keyed State.reset).takes .building ∧ State.reset.store.writing = none ∧
      sectorOf 1 = some .identity ∧ sectorOf 0 = none ∧ sectorOf 4 = none ∧
      (writingPlant .plant []).store.writing = some .plant ∧ (staged .plant [(45, 4)]).store.plant.staging = some [(45, 4)] ∧
      leaves (.configRead [1, 1, 0, 13, 1]) State.reset (fun t => (answerAt .building t).map (·.result) == some .done) = true ∧
      leaves (.configRead [1, 1, 0, 13, 2]) State.reset
        (fun t => (answerAt .building t).map (·.result) == some .refusedRange) = true ∧
      leaves (.configRead [1, 2, 0, 0, 1]) State.reset
        (fun t => (answerAt .building t).map (·.result) == some .refusedState) = true ∧
      leaves (.configRead [1, 1, 0, 0, 1]) (writingPlant .plant [])
        (fun t => (answerAt .building t).map (·.result) == some .busy) = true ∧ (keyed State.reset).keyOn = true := by
  decide +kernel

/-- The blank PLANT image passes every check of validation and a supervision time of 0 passes none (R184, R190). -/
theorem test_witness_ActivationBeginsTheWrite :
    validate .identity [(0, 0x41), (9, 0xC8)] [] = none ∧
      (validate .identity [(9, 0x00)] []).isSome = true ∧ validate .plant [] [] = none ∧
      (staged .plant []).takes .building ∧ { staged .plant [] with configFault := true }.takes .building ∧
      (staged .plant []).store.writing = none ∧ (∀ z, ((staged .plant []).zone z).mode = .none) ∧
      (staged .plant []).overrides = 0 ∧ overriddenPlant.overrides ≠ 0 := by decide +kernel

theorem test_witness_WriteCompletes :
    (let s : State := { alarmed with store := alarmed.store.setSector .plant { blankSector with activation := .pending } }
     s.configFault = false ∧ s.store.plant.activation = .pending ∧ s.activation ≠ [] ∧
       leaves (.poll .panelA) s (fun t => t.store == s.store) = true ∧
       leaves (.zoneReset .panelA 5) s (fun t => t.store.plant.activation == .none && t.activation == [] && t.overrides == 0) =
         true) ∧
      (writingPlant .identity []).store.writing = some .identity ∧ (writingPlant .identity []).store.identity.staging = some [] ∧
      (writingPlant .plant []).configFault = false ∧ (writingPlant .plant []).activation = [] ∧
      (writingPlant .sequences []).store.writing = some .sequences ∧ State.reset.store.writing = none ∧
      { writingPlant .plant [] with overrides := 1 }.overrides ≠ 0 ∧
      { writingPlant .plant [] with configFault := true }.configFault = true := by decide +kernel

/-- A POLL, and requests that fail each check of R167. -/
theorem test_witness_ARequestIsItsFramesRequest :
    State.reset.takes .panelA ∧ ((after (.poll .panelA) State.reset).port .panelA).reception = .taking ∧
      (Instr.poll .panelA).wellFormed = true ∧
      (Instr.poll .panelA).request = some (.panelA, 0x01) ∧ kindKnown 0x05 = false ∧ kindKnown 0x30 = true ∧
      lineMaySend .panelA 0x30 = false ∧ lineMaySend .building 0x30 = true ∧ fixedBodyLength 0x30 = some 4 ∧
      ([] : List Byte).length ≠ 4 := by decide +kernel

/-- A POLL of Panel Line A, whose check value is B543h by R164; and a frame of the longest body with a wrong role code. -/
theorem test_witness_AFrameIsJudgedAtItsLastByte :
    (State.reset.port .panelA).reception = .hunting ∧ (0x51 : Byte) = Line.panelA.roleCode ∧
      crc [0x51, 0x00, 0x01] = (0xB5 : Byte) ++ (0x43 : Byte) ∧ (120 : Byte).toNat ≤ 120 ∧
      (List.replicate 120 (0 : Byte)).length = (120 : Byte).toNat ∧
      (0x52 : Byte) ≠ Line.panelA.roleCode := by decide +kernel

/-- Each reception state, with lengths 120 and 121 at byte 2 and the last byte of a frame. -/
theorem test_witness_APortActsByItsReceptionState :
    (State.reset.port .building).reception = .hunting ∧ (halfFrame.port .building).reception = .receiving ∧
      (halfFrame.port .building).buffer.length = 2 ∧ 120 < (121 : Byte).toNat ∧ (120 : Byte).toNat ≤ 120 ∧
      (halfFrame.port .building).gapTimer = some 2 ∧ (State.reset.port .building).gapTimer = none ∧
      ((after (.byteReceived .building (.byte 121)) halfFrame).port .building).reception = .discarding ∧
      ((after .restart State.reset).port .building).reception = .taking ∧
      (let buffer : List Byte := [0xA5, 0x51, 0x00, 0x01, 0xB5]
       3 ≤ buffer.length ∧ buffer.length + 1 = 6 + (buffer.getD 2 0).toNat) := by decide +kernel

theorem test_witness_TheRestartFollowsItsAnswer :
    State.reset.takes .building ∧ ((after .restart State.reset).port .building).reception = .taking ∧
      ((after .restart State.reset).port .building).answer.isSome = true ∧
      ((after (.answerBegin .building) (after .restart State.reset)).port .building).reception = .answering ∧
      (State.reset.port .building).reception ≠ .taking ∧ (State.reset.port .building).reception ≠ .answering := by
  decide +kernel

theorem test_witness_SupervisionExpiryLosesTheLine :
    (State.reset.port .panelA).supervisionTimer = none ∧
      (let s := heldPlant.setPort .override { heldPlant.port .override with line := .live, supervisionTimer := some 210000 }
       (s.port .override).supervisionTimer = some 210000 ∧ s.standDown = true) ∧
      (let s := State.reset.setPort .panelA { State.reset.port .panelA with line := .live, supervisionTimer := some 10000 }
       (s.port .panelA).supervisionTimer = some 10000 ∧ s.standDown = false) := by decide +kernel

theorem test_witness_PowerLossAndColdStart :
    State.reset.store.writing = none ∧ State.reset.store.plant.valid = true ∧ (after .coldStart State.reset).configFault = false ∧
      faultyPart.configFault = true ∧ State.reset.store.identity.activation ≠ .writing := by decide +kernel

theorem retained_needs_the_override_count {s : State} (h : s.overrides ≠ overrideLists s) : ¬ Retained s :=
  fun hr => h hr.2.2.2.2.1

/-- A part without a configured record and without a run passes the check of kept state. -/
theorem retained_of_blank {s : State} (hr : ∀ a, s.record a = .unused) (hl : ∀ a, (s.claimList a).claims = [])
    (hz : ∀ z, s.zone z = zoneAtRest) (hd : ∀ a, s.drive a = .none) (ha : s.activation = [])
    (ho : s.overrides = overrideLists s) (hs : s.standDown = true ↔ s.standDownOption.isSome = true) : Retained s := by
  have hm (a : Fin 64) : zoneAtRest.map[a] = none := by simp [zoneAtRest]
  refine ⟨fun a => ⟨fun _ => hl a, fun h => absurd (hr a) h⟩, ⟨by simp [ha], by simp [ha], ?_, ?_, fun z => ?_⟩, fun z => ?_,
    fun a => ?_, ho, hs, fun z => ?_⟩
  · intro z; simp [ha, hz, zoneAtRest]
  · intro z y; simp [hz, zoneAtRest]
  · refine ⟨?_, ?_, ?_, ?_, fun a => ?_⟩
    · simp [hz, zoneAtRest]
    · simp [hz, zoneAtRest]
    · simp [hz, zoneAtRest]
    · simp [hz, zoneAtRest]
    · unfold EntryAgrees; rw [hz z, hm a, hl a]; simp
  · unfold StageRetained; simp [hz, zoneAtRest]
  · unfold DriveRetained; rw [hd a, hr a]; trivial
  · simp [hz, zoneAtRest]

/-- The kept state of a part at rest, and one that fails R162's check. -/
theorem test_witness_WarmRestartKeepsOrStartsCold :
    retainedOk { State.reset with power := .restartDue } = true ∧ Retained { State.reset with power := .restartDue } ∧
      ¬ Retained { State.reset with overrides := 1 } ∧ { State.reset with overrides := 1 }.power ≠ .unpowered ∧
      State.reset.power ≠ .restartDue ∧ State.reset.power ≠ .restarting :=
  ⟨by decide +kernel,
    retained_of_blank (by decide +kernel) (by decide +kernel) (by decide +kernel) (by decide +kernel) rfl (by decide +kernel)
      (by decide +kernel),
    retained_needs_the_override_count (by decide +kernel), by decide +kernel⟩

theorem test_witness_InputsAreDebounced :
    atRestPlant.namingRecord 1 = some 0 ∧ NamesSwitch (atRestPlant.record 0) .closedSide 1 ∧
      atRestPlant.namingRecord 4 = some 3 ∧ atRestPlant.namingRecord 9 = none ∧
      atRestPlant.power = .running ∧ atRestPlant.filterCount 0 = 3 ∧ atRestPlant.filterCount 4 = 5 ∧
      leaves (.inputSample 0 5000) atRestPlant
        (fun t => t.inputs[(0 : Fin 128)] == { candidate := some .on, run := 1, debounced := .off }) = true ∧
      leaves (.inputSample 0 15999) { atRestPlant with inputs := atRestPlant.inputs.set 0 { candidate := some .on, run := 15, debounced := .on } }
        (fun t => t.inputs[(0 : Fin 128)] == { candidate := some .on, run := 15, debounced := .on }) = true := by
  exact ⟨by decide +kernel, rfl, by decide +kernel⟩

/-- The manual's scaling B at averages 179, 180, 1020 and 1021. -/
theorem test_witness_ConversionsAreJudged :
    { atRestPlant with scan := 2 }.scan = (2 : Fin 16).castSucc ∧ atRestPlant.scan ≠ (2 : Fin 16).castSucc ∧
      (gatedPlant.zone 5).held = false ∧ (gatedPlant.zone 5).suspended = false ∧ gate12.channel = 2 ∧
      leaves (.channelConversion 2 900) { gatedPlant with scan := 2 }
        (fun t => (t.zone 5).stage.map (fun c => (c.gateExpired, c.phase)) == some (false, .proving) && t.scan == 3) = true ∧
      (atRestPlant.channel 2).window.length ≤ 4 ∧ (atRestPlant.plant.scalings[(2 : Fin 16)]).isSome = true ∧
      atRestPlant.plant.scalings[(0 : Fin 16)] = none ∧ (atRestPlant.channel 0).window.length = 0 ∧
      (let judged (avg : Nat) : Channel :=
        judgeChannel (some { clo := 200, chi := 1000, elo := -250, ehi := 250 })
          { window := [avg, avg, avg, avg], lastValid := some 250, status := .valid, value := some 250 }
       (judged 179).status = .underRange ∧ (judged 180).value = some (-250) ∧ (judged 1020).value = some 250 ∧
         (judged 1021).status = .overRange ∧ (judged 1021).value = some 250) := by decide +kernel

/-- R146's bounds: code 537 reads 21.0 V. -/
theorem test_witness_SupplyReadingsAreConfirmed :
    State.reset.power = .running ∧ { State.reset with scan := 16 }.scan = 16 ∧ State.reset.scan ≠ 16 ∧
      State.reset.supply.count < 3 ∧ supplyReading 484 = 189 ∧ supplyReading 486 = 190 ∧
      supplyReading 537 = 210 ∧ supplyReading 0 = 0 ∧ supplyReading 1023 = 400 := by decide +kernel

/-- What the drive of damper 0 sees, with its switches as given. -/
def damper0Ctx (openSwitch closedSwitch : Debounced) (now : Nat) : DamperCtx where
  kind := .reversing 1000 3
  mode := .bothSwitches
  openSwitch := some openSwitch
  closedSwitch := some closedSwitch
  travelLimit := 60000
  now := now

/-- An unfaulted switch, a faulted one, a timed damper and a side without a switch that the other reads OFF. -/
theorem test_witness_TravelEndsByItsTimer :
    (withDamper0 openingDamper).drive 0 = .damper openingDamper ∧ drivingSide openingDamper.state = some .openSide ∧
      openingDamper.travel = .running 60000 ∧
      ((withDamper0 openingDamper).reach 60000).damperCtx 0 = some (damper0Ctx .off .on 60000) ∧
      ({ withDamper0 openingDamper with inputs := atRestPlant.inputs.set 0 (steady .short .shortFault) }.reach 60000).damperCtx 0 =
        some (damper0Ctx .shortFault .on 60000) ∧
      ((atRestPlant.reach 30000).damperCtx 2).any (fun ctx => ctx.mode == .timed) = true ∧
      ((atRestPlant.reach 90000).damperCtx 1).any
        (fun ctx => ctx.switch .openSide == none && ctx.switch .closedSide == some .off) = true := by decide +kernel

/-- The end of a dead time: at the target, against the last direction after an interruption, and with a full history. -/
theorem test_witness_PausesEndByTheirTimers :
    atRestPlant.record 0 = .reversing damper0 ∧ (withDamper0 deadDamper).drive 0 = .damper deadDamper ∧
      ReversingSound deadDamper ∧ deadDamper.deadTimer = some 5000 ∧
      ((withDamper0 deadDamper).reach 5000).damperCtx 0 = some (damper0Ctx .off .on 5000) ∧
      (withDamper0 coolDamper).drive 0 = .damper coolDamper ∧ ReversingSound coolDamper ∧ coolDamper.coolTimer = some 65000 ∧
      ((withDamper0 coolDamper).reach 65000).damperCtx 0 = some (damper0Ctx .off .on 65000) := by
  unfold ReversingSound
  decide +kernel

theorem test_witness_SwitchFaultTimersStopTheDrive :
    (let d := { openingDamper with disagreeTimer := some 2000 }
     (withDamper0 d).drive 0 = .damper d ∧ d.fault = none ∧
       ((withDamper0 d).reach 2000).damperCtx 0 = some (damper0Ctx .off .on 2000)) ∧
      (let d := { openingDamper with leftTimer := some 2000, fault := some .inputFault }
       (withDamper0 d).drive 0 = .damper d ∧ d.fault.isSome = true) := by decide +kernel

/-- What the drive of fan 3 sees, with its run-proof input and its channel as given. -/
def fan3Ctx (input : Debounced) (pascals : Int) (now : Nat) : FanCtx where
  definition := fan3
  input := some input
  channel := some (.valid, some pascals)
  now := now

/-- Each timer on a drive of fan 3 or fan 4, and each kind of evidence (R111). -/
theorem test_witness_FanTimersJudgeTheFan :
    (withFan3 startingFan).drive 3 = .fan startingFan ∧ startingFan.startTimer = some 30000 ∧
      ((withFan3 startingFan).reach 30000).fanCtx 3 = some (fan3Ctx .off 180 30000) ∧
      (fan3Ctx .off 180 30000).evidence = .stoppedShown ∧ (fan3Ctx .on 150 30000).evidence = .runningShown ∧
      (fan3Ctx .openFault 150 0).evidence = .undecided ∧ (fan3Ctx .openFault 150 0).inputFaulted = true ∧
      (fan3Ctx .unknown 150 0).evidence = .undecided ∧ (fan3Ctx .unknown 150 0).inputFaulted = false ∧
      ({ fan3Ctx .off 180 0 with input := none, channel := none } : FanCtx).evidence = .noSource ∧
      (let f := { fanAtRest 300 with state := .stopping, stopTimer := some 60000 }
       (withFan3 f).drive 3 = .fan f ∧ f.stopTimer = some 60000) ∧
      (let f := { runningFan with lossTimer := some 5000 }
       (withFan3 f).drive 3 = .fan f ∧ f.lossTimer = some 5000) ∧
      (let f := { startingFan with state := .restartWait, runOut := false, startTimer := none, restartTimer := some 40000 }
       (withFan3 f).drive 3 = .fan f ∧ f.restartTimer = some 40000) := by decide +kernel

theorem test_witness_RampStepsMoveTheSpeed :
    (withFan3 startingFan).drive 3 = .fan startingFan ∧ startingFan.rampTimer = some 250 ∧ startingFan.target = .run 850 ∧
      ((withFan3 startingFan).reach 250).fanCtx 3 = some (fan3Ctx .off 180 250) ∧ fan3.speed.isSome = true ∧
      fan4.speed = none := by decide +kernel

/-- A stage SETTLING, one whose window ends under STOP, one with stages left and one at the last position. -/
theorem test_witness_StageTimersMoveTheStage :
    (alarmed.zone 5).stage.map (fun c => (c.phase, c.settle)) = some (.settling, .running 5000) ∧
      leaves (.proofWindowExpiry 5) alarmed (fun t => t.zone 5 == alarmed.zone 5) = true ∧
      ((provingPlant 0 10).zone 5).stage.map (·.window) = some (.running 120000) ∧
      ((provingPlant 0 10).zone 5).stage.map (fun c => ((provingPlant 0 10).stageOf c).policy) = some .stop ∧
      ((provingPlant 1 11).zone 5).stage.map (fun c => ((provingPlant 1 11).stageOf c).policy) = some .cont ∧
      ((provingPlant 1 11).sequenceOf 5).length = 3 := by decide +kernel

theorem test_witness_GateWaitIssuesTheStage :
    gatedPlant.power = .running ∧
      (gatedPlant.zone 5).stage.map (fun c => (c.phase, c.gateWait)) = some (.gated, .running 45000) ∧
      (gatedPlant.zone 5).stage.map (fun c => ((gatedPlant.stageOf c).commands.map (·.actuator))) = some [2, 4] ∧
      ([2, 4] : List (Fin 64)).Nodup := by decide +kernel

/-- Zone 5 STOPPED in stage 10 with damper 0's command FAILED, and proven since. -/
def stoppedPlant : State :=
  { withDamper0 (atRest .openPos .openSide (some .openSide) false) with
    activation := [5]
    zones := atRestPlant.zones.set 5
      { runningZone
          { position := 0, stage := 10, phase := .finished, outcomes := [.failed, .deferred], gateExpired := false,
            settle := .stopped, window := .stopped, gateWait := .stopped } with
        phase := .stopped } }

/-- Stage 12's gate at 50 Pa and at 180 Pa, a stage without one, and a STOPPED zone whose failed command is proven. -/
theorem test_witness_StagesAreTakenAndFinished :
    gateTrue gate12 (gatedPlant.channel 2) = false ∧ gateTrue gate12 (atRestPlant.channel 2) = true ∧
      ((gatedPlant.zone 5).stage.map (fun c => (gatedPlant.stageOf c).gate)) = some (some gate12) ∧
      ((alarmed.zone 5).stage.map (fun c => (alarmed.stageOf c).gate)) = some none ∧
      ((provingPlant 1 11).zone 5).stage.map (·.phase) = some .proving ∧ (dueAt alarmed 5 0).phase = .due ∧
      (stoppedPlant.zone 5).phase = .stopped ∧ stoppedPlant.provenAt 0 .openPos = true ∧
      ((resumeZone [0] stoppedPlant 5).zone 5).phase = .running ∧ resumeZone [1] stoppedPlant 5 = stoppedPlant := by
  decide +kernel

/-! ## Cases that the statements' boundaries ask for -/

/-- R110, R131: a fixed-speed fan's ramp timer starts with its run output. -/
theorem test_fixed_speed_fan_ramps :
    leaves (.normalSet 4 4 500) atRestPlant (fun t =>
      match t.drive 4 with
      | .fan f => f.runOut && f.rampTimer == some (t.now + 250)
      | _ => false) = true := by decide +kernel

/-- Fan 4 STOPPING, proven by channel 2 alone, within a restart. -/
def stoppingInRestart : State :=
  { atRestPlant with
    power := .restarting
    plant := { examplePlant with
      acts := examplePlant.acts.set 4
        (.fan { fan4 with proofInput := none, pressure := some { channel := 2, threshold := 150 } }) }
    drives := atRestPlant.drives.set 4 (.fan { fanAtRest 0 with state := .stopping, stopTimer := some 90000 }) }

/-- R112, R119, R131: its channel's notice leaves it without a source, and it is STOPPED with PRESSURE-PROOF-UNAVAILABLE set. -/
theorem test_restart_stops_a_fan_without_source :
    leaves .warmRestartEnd stoppingInRestart (fun t =>
      match t.drive 4 with
      | .fan f => f.state == .stopped && f.stopTimer.isNone && f.proofUnavailable
      | _ => false) = true := by decide +kernel

/-- R45, R55: an alarm for the zone in TEST itself ends the test with its record written, and starts the FIRE run. -/
theorem test_alarm_ends_the_test_of_its_zone :
    zoneOf 5 = some 5 ∧ (testing.zone 5).mode = .test ∧
      leaves (.zoneAlarm .panelA 5) testing (fun t =>
        (t.zone 5).mode == .fire && (t.zone 5).lastTest.map (·.ended) == some .abortedByAlarm) = true := by decide +kernel

/-- R96: damper 1, CLOSED-SWITCH, at the end of its drive toward OPEN with the closed switch in each of the states given. -/
theorem test_travel_end_without_switch :
    (let ctx (r : Debounced) : DamperCtx :=
        { kind := .reversing 2000 2, mode := .closedSwitch, openSwitch := none, closedSwitch := some r,
          travelLimit := 90000, now := 90000 }
     let moving : DamperDrive := { atRest .moving .openSide (some .openSide) false with state := .drivingOpen }
     let ended (r : Debounced) : DamperDrive := damperFinish (ctx r) moving (travelExpiry (ctx r) moving)
     (ended .off).position = .openPos ∧ (ended .off).fault = none ∧
       (ended .on).position = .closedPos ∧ (ended .on).fault = some .travelTimeout ∧
       (ended .unknown).position = .unknown ∧ (ended .unknown).endWaits = true ∧
       (ended .shortFault).position = .unknown ∧ (ended .shortFault).fault = none) := by decide

/-- A PLANT image with fan 3 alone, laid out by R190: run output 10, speed output 0 with Smin, Smax and k 50, run proof at input 7
with F 3, attempts 2, start and stop proof times 20.0 s and 30.0 s. -/
def fanImage (smin smax : Nat) : Image :=
  writeBytes .plant [] 75
    ([0x01, 0x03, 0x0A, 0xFF, 0x00, 0xFF, 0x07, 0x03, 0xFF, 0xFF, 0xFF, 0x02, 0xFF, 0xFF] ++ twoByteField smin ++
      twoByteField smax ++ [0x32, 0xFF, 0x00, 0xC8, 0x01, 0x2C, 0xFF])

/-- R10, R184, R190: it passes with Smin 200 and Smax 900, and fails SPEED-LIMITS at item 3 with the two exchanged. -/
theorem test_validation_orders_the_limits :
    validate .plant (fanImage 200 900) [] = none ∧ validate .plant (fanImage 900 200) [] = some (3, .speedLimits) ∧
      (match (plantOf (fanImage 200 900)).acts[(3 : Fin 64)] with
       | .fan d => d.speed.map (fun x => (x.smin, x.smax)) == some (200, 900)
       | _ => false) = true := by decide +kernel

/-- R77: a timer with 3.96 s left is frozen at 4.0 s. -/
theorem test_freezing_rounds_up : freezeTimer 58040 (.running 62000) = .frozen 4000 := by decide

/-- R168, R190: the coded items of the answers to an APPLY, a CONFIG-READ, a target, a fan's FAULT-CLEAR and a channel's read. -/
theorem test_coded_items :
    answerItems (.writing .plant) = [.coded [0x02], .uncoded] ∧
      codedBytes (.configRead true .none [0x41, 0x42]) = [0x41, 0x42] ∧
      codedBytes (.target (some (.run 850))) = [0x04, 0x03, 0x52] ∧ codedBytes (.fanPart .failed none 2) = [0x02] ∧
      codedBytes (.channels [{ status := .valid, value := some (-2), average := some 244, codes := 4 }]) =
        [0xFF, 0xFE, 0x00, 0xF4, 0x04] := by decide

end Sys2Proof.Tests
end

/-! # What a command can do

One rule for the commands other than those of power and of a frame boundary: what the request handlers and the operations of the
events carry from a state to the next one holds after every such command. -/

section

namespace Sys2Proof

/-- Every command but the five of power and restart and the frame boundary of a speed output. -/
def Instr.routine : Instr → Bool
  | .coldStart => false
  | .powerLoss => false
  | .warmRestartStart _ => false
  | .supervisor => false
  | .warmRestartEnd => false
  | .speedFrameBoundary _ => false
  | _ => true

end Sys2Proof

namespace Sys2Proof.Machine

/-! ## What an event asks of a drive -/

/-- The acts that an event may ask of a damper's drive; an act at a timer's expiry comes only while that timer runs. -/
inductive DamperAct (d : DamperDrive) : (DamperCtx → DamperDrive → DamperDrive) → Prop
  | target (side : Side) : DamperAct d (damperTarget side)
  | input (side : Side) (r : Debounced) : DamperAct d (switchChanged side r)
  | faultClear : DamperAct d damperFaultClear
  | supplyLow : DamperAct d damperSupplyLow
  | supplyOk : DamperAct d damperSupplyOk
  | travel : DamperAct d travelExpiry
  | deadTime (h : d.deadTimer.isSome = true) : DamperAct d deadTimeEnd
  | cooldown (h : d.coolTimer.isSome = true) : DamperAct d cooldownEnd
  | disagree : DamperAct d disagreeEnd
  | left : DamperAct d leftEnd

/-- The acts that an event may ask of a fan's drive; an act at a timer's expiry comes only while that timer runs. -/
inductive FanAct (f : FanDrive) : (FanCtx → FanDrive → FanDrive) → Prop
  | target (c : Command) : FanAct f (fanTarget c)
  | input (r : Debounced) : FanAct f (fanInput r)
  | channel : FanAct f fanChannel
  | faultClear : FanAct f fanFaultClear
  | startProof (h : f.startTimer.isSome = true) : FanAct f startProofEnd
  | stopProof (h : f.stopTimer.isSome = true) : FanAct f stopProofEnd
  | runLoss (h : f.lossTimer.isSome = true) : FanAct f runLossEnd
  | restartDelay (h : f.restartTimer.isSome = true) : FanAct f restartDelayEnd
  | ramp (h : f.rampTimer.isSome = true) : FanAct f fanRamp

/-- The acts that the expiry of a stage's timer asks of the engine. -/
inductive StageAct (z : Fin 24) (cs : CurrentStage) : (Work → Work) → Prop
  | settle : StageAct z cs (settleEnd z cs)
  | window : StageAct z cs (windowEnd z cs)
  | gateWait : StageAct z cs (gateWaitEnd z cs)

/-! ## The rule of a command -/

/-- What to show so that a command that begins in a state of `I` ends in a state of `Q`: `I` is blind to the ports and to a later
clock, `Q` to the ports and the power state, and every request handler and every event's operations lead from `I` to `Q`. -/
structure CommandRule (I Q : State → Prop) : Prop where
  ports : ∀ s ps n, I s → s.now ≤ n → I { s with ports := ps, now := n }
  stays : ∀ s, I s → Q s
  quiet : ∀ s ps p, Q s → Q { s with ports := ps, power := p }
  zoneAlarm : ∀ p b s, I s → Q (takeZoneAlarm p b s).1
  zoneReset : ∀ p b s, I s → Q (takeZoneReset p b s).1
  overrideSet : ∀ a c v s, I s → Q (takeOverrideSet a c v s).1
  overrideRelease : ∀ a s, I s → Q (takeOverrideRelease a s).1
  standDown : ∀ o s, I s → Q (takeStandDown o s).1
  release : ∀ s, I s → Q (runEvent s releaseStandDown)
  clearFault : ∀ a s, I s → Q (runEvent s (clearFault a))
  normalSet : ∀ a c v s, I s → Q (takeNormalSet a c v s).1
  normalRelease : ∀ a s, I s → Q (takeNormalRelease a s).1
  normalGroup : ∀ body s, I s → Q (takeNormalGroup body s).1
  testStart : ∀ z r s, I s → Q (takeTestStart z r s).1
  testEnd : ∀ z s, I s → Q (takeTestEnd z s).1
  configWrite : ∀ body s, I s → Q (takeConfigWrite body s).1
  configActivate : ∀ body s, I s → Q (takeConfigActivate body s).1
  sample : ∀ i n s, I s → Q (takeSample i n s)
  keySample : ∀ n s, I s → Q (takeKeySample n s)
  conversion : ∀ c code s, I s → Q (takeConversion c code { s with scan := s.scan + 1 })
  supply : ∀ code s, I s → Q (takeSupply code { s with scan := s.scan + 1 })
  write : ∀ s, I s → Q (completeWrite s)
  damper : ∀ a act s, I s → (∀ d, s.drive a = .damper d → DamperAct d act) → Q (runEvent s (damperEvent a act))
  fan : ∀ a act s, I s → (∀ f, s.drive a = .fan f → FanAct f act) → Q (runEvent s (fanEvent a act))
  stage : ∀ z cs act s, I s → (s.zone z).stage = some cs → StageAct z cs act → Q (runEvent s act)

/-- A port that is TAKING takes no byte (R165). -/
theorem receive_taking {l : Line} {s : State} (h : (s.port l).reception = .taking) (r : Received) : receive l r s = s := by
  unfold receive
  rw [h]

theorem receiveAll_taking {l : Line} {s : State} (h : (s.port l).reception = .taking) (frame : List Byte) :
    frame.foldl (fun s b => receive l (.byte b) s) s = s := by
  induction frame with
  | nil => rfl
  | cons b frame ih => rw [List.foldl_cons, receive_taking h, ih]

namespace CommandRule

theorem ite_first {Q : State → Prop} {c : Prop} [Decidable c] {x y : State × Reply} (hx : Q x.1) (hy : Q y.1) :
    Q (if c then x else y).1 := by
  split
  · exact hx
  · exact hy

variable {I Q : State → Prop} (R : CommandRule I Q)
include R

theorem setPort {s : State} (l : Line) (p : Port) (h : I s) : I (s.setPort l p) :=
  R.ports s _ _ h (Nat.le_refl _)

theorem setPort_end {s : State} (l : Line) (p : Port) (h : Q s) : Q (s.setPort l p) := R.quiet s _ _ h

theorem raiseFlags {s : State} (h : I s) : I s.raiseFlags := R.ports s _ _ h (Nat.le_refl _)

theorem reach {s : State} (t : Nat) (h : I s) : I (s.reach t) := R.ports s _ _ h (Nat.le_max_left _ _)

theorem readSummary (l : Line) (page : Byte) {s : State} (h : I s) : Q (takeReadSummary l page s).1 := by
  unfold takeReadSummary
  split
  · exact R.stays s h
  · simp only []
    split
    · exact R.stays _ (R.setPort l _ h)
    · exact R.stays s h

theorem readZone (z part : Byte) {s : State} (h : I s) : Q (takeReadZone z part s).1 := by
  unfold takeReadZone
  split
  · exact R.stays s h
  · split <;> exact R.stays s h

theorem readActuator (a : Byte) {s : State} (h : I s) : Q (takeReadActuator a s).1 := by
  unfold takeReadActuator
  split <;> exact R.stays s h

theorem resume {s : State} (h : I s) : Q (takeResume s).1 := by
  unfold takeResume
  split
  · dsimp only
    exact R.release s h
  · exact R.stays s h

theorem faultClear (l : Line) (a : Byte) {s : State} (h : I s) : Q (takeFaultClear l a s).1 := by
  unfold takeFaultClear
  split
  · exact R.stays s h
  · split
    · exact R.stays s h
    · exact R.clearFault _ s h

theorem configRead (body : List Byte) {s : State} (h : I s) : Q (takeConfigRead body s).1 := by
  unfold takeConfigRead
  split <;> exact R.stays s h

theorem restart {s : State} (h : I s) : Q (takeRestart s).1 := by
  unfold takeRestart
  split <;> exact R.stays s h

theorem oneByte (body : List Byte) {take : Byte → State → State × Reply} {s : State} (h : I s)
    (k : ∀ a, Q (take a s).1) : Q (oneByte body take s).1 := by
  unfold Machine.oneByte
  split
  · exact k _
  · exact R.stays s h

theorem twoBytes (body : List Byte) {take : Byte → Byte → State → State × Reply} {s : State} (h : I s)
    (k : ∀ a b, Q (take a b s).1) : Q (twoBytes body take s).1 := by
  unfold Machine.twoBytes
  split
  · exact k _ _
  · exact R.stays s h

theorem commandBytes (body : List Byte) {take : Byte → Byte → Half → State → State × Reply} {s : State} (h : I s)
    (k : ∀ a c v, Q (take a c v s).1) : Q (commandBytes body take s).1 := by
  unfold Machine.commandBytes
  split
  · exact k _ _ _
  · exact R.stays s h

theorem fromPanel (l : Line) {take : Panel → State → State × Reply} {s : State} (h : I s)
    (k : ∀ p, Q (take p s).1) : Q (fromPanel l take s).1 := by
  unfold Machine.fromPanel
  split
  · exact k _
  · exact R.stays s h

/-- The block that takes a kind (R167): each row of the table is one clause of the rule. -/
theorem handOver (l : Line) (kind : Byte) (body : List Byte) {s : State} (h : I s) : Q (handOver l kind body s).1 := by
  unfold Machine.handOver
  refine ite_first (R.stays s h) ?_
  refine ite_first (R.oneByte body h (fun p => R.readSummary l p h)) ?_
  refine ite_first (R.twoBytes body h (fun z p => R.readZone z p h)) ?_
  refine ite_first (R.oneByte body h (fun a => R.readActuator a h)) ?_
  refine ite_first (R.fromPanel l h (fun p => R.oneByte body h (fun b => R.zoneAlarm p b s h))) ?_
  refine ite_first (R.fromPanel l h (fun p => R.oneByte body h (fun b => R.zoneReset p b s h))) ?_
  refine ite_first (R.commandBytes body h (fun a c v => R.overrideSet a c v s h)) ?_
  refine ite_first (R.oneByte body h (fun a => R.overrideRelease a s h)) ?_
  refine ite_first (R.oneByte body h (fun o => R.standDown o s h)) ?_
  refine ite_first (R.resume h) ?_
  refine ite_first (R.oneByte body h (fun a => R.faultClear l a h)) ?_
  refine ite_first (R.commandBytes body h (fun a c v => R.normalSet a c v s h)) ?_
  refine ite_first (R.oneByte body h (fun a => R.normalRelease a s h)) ?_
  refine ite_first (R.normalGroup body s h) ?_
  refine ite_first (R.twoBytes body h (fun z r => R.testStart z r s h)) ?_
  refine ite_first (R.oneByte body h (fun z => R.testEnd z s h)) ?_
  refine ite_first (R.configRead body h) ?_
  refine ite_first (R.configWrite body s h) ?_
  refine ite_first (R.configActivate body s h) ?_
  exact R.restart h

theorem dispatch (l : Line) (kind : Byte) (body : List Byte) {s : State} (h : I s) : Q (dispatch l kind body s).1 := by
  unfold Machine.dispatch
  split
  · exact R.stays s h
  · split
    · exact R.stays s h
    · split
      · exact R.stays s h
      · exact R.handOver l kind body h

theorem answered (l : Line) (kind : Byte) {take : State → State × Reply} {s : State} (k : Q (take s).1) :
    Q (answered l kind take s) := R.setPort_end l _ k

theorem request {l : Line} {kind : Byte} {take : State → State × Reply} {s t : State} (h : I s) (k : Q (take s).1)
    (e : request l kind take s = .next t) : Q t := by
  unfold Machine.request at e
  obtain rfl := Host.Outcome.next.inj e
  split
  · exact R.answered l kind k
  · exact R.stays s h

theorem event {f : State → State} {s t : State} (h : I s) (k : Q (f s)) (e : event f s = .next t) : Q t := by
  unfold Machine.event whileRunning at e
  obtain rfl := Host.Outcome.next.inj e
  split
  · exact k
  · exact R.stays s h

/-! ### The lines -/

theorem raiseIfChanged (old new : LineState) {s : State} (h : I s) : I (raiseIfChanged old new s) := by
  unfold Machine.raiseIfChanged
  split
  · exact h
  · exact R.raiseFlags h

theorem superviseGood (l : Line) {s : State} (h : I s) : I (superviseGood l s) :=
  R.raiseIfChanged _ _ (R.setPort l _ h)

theorem supervisionExpiry (l : Line) {s : State} (h : I s) : Q (supervisionExpiry l s) := by
  unfold Machine.supervisionExpiry
  split
  · exact R.stays s h
  · rename_i t _
    have lost : I (Machine.raiseIfChanged ((s.reach t).port l).line .lost ((s.reach t).setPort l
        { ((s.reach t).port l).enter .lost with supervisionTimer := none })) :=
      R.raiseIfChanged _ _ (R.setPort l _ (R.reach t h))
    unfold loseLine
    simp only []
    split
    · exact R.release _ lost
    · exact R.stays _ lost

theorem judgeFrame (l : Line) (frame : List Byte) {s : State} (h : I s) :
    I (judgeFrame l frame s) ∨ (Q (judgeFrame l frame s) ∧ ((judgeFrame l frame s).port l).reception = .taking) := by
  have hunting : I (s.setPort l (s.port l).hunt) := R.setPort l _ h
  unfold Machine.judgeFrame
  simp only []
  split
  · refine .inr ⟨R.answered l _ (R.dispatch l _ _ (R.superviseGood l hunting)), ?_⟩
    simp only [Machine.answered, deliver, State.setPort_port_same, Port.holding]
  · exact .inl hunting

theorem receive (l : Line) (r : Received) {s : State} (h : I s) :
    I (receive l r s) ∨ (Q (receive l r s) ∧ ((receive l r s).port l).reception = .taking) := by
  unfold Machine.receive
  split
  · split
    · exact .inl (R.setPort l _ h)
    · exact .inl h
  · exact .inl h
  · exact .inl h
  · unfold receiveInFrame
    simp only []
    split
    · exact .inl (R.setPort l _ h)
    · split
      · exact R.judgeFrame l _ h
      · exact .inl (R.setPort l _ h)
  · exact .inl (R.setPort l _ h)
  · exact .inl (R.setPort l _ h)
  · exact .inl (R.setPort l _ h)
  · exact .inl h
  · exact .inl h

theorem receive_end (l : Line) (r : Received) {s : State} (h : I s) : Q (Machine.receive l r s) :=
  (R.receive l r h).elim (R.stays _) And.left

/-- The bytes of a frame: the first that completes a request leaves the port TAKING, which takes no more (R165). -/
theorem receiveAll (l : Line) (frame : List Byte) {s : State} (h : I s) : Q (receiveAll l frame s) := by
  unfold Machine.receiveAll
  induction frame generalizing s with
  | nil => exact R.stays s h
  | cons b frame ih =>
    rw [List.foldl_cons]
    obtain hi | ⟨hq, taking⟩ := R.receive l (.byte b) h
    · exact ih hi
    · rwa [receiveAll_taking taking]

theorem gapExpiry (l : Line) {s : State} (h : I s) : Q (gapExpiry l s) := by
  unfold Machine.gapExpiry
  split
  · exact R.stays s h
  · exact R.stays _ (R.setPort l _ (R.reach _ h))

theorem beginAnswer (l : Line) {s : State} (h : I s) : Q (beginAnswer l s) := by
  unfold Machine.beginAnswer
  simp only []
  split
  · exact R.stays _ (R.setPort l _ (R.reach _ h))
  · exact R.stays s h

theorem endAnswer (l : Line) {s : State} (h : I s) : Q (endAnswer l s) := by
  unfold Machine.endAnswer
  simp only []
  split
  · split
    · exact R.quiet s _ _ (R.stays s h)
    · exact R.quiet s _ _ (R.stays s h)
  · exact R.stays s h

/-! ### The drives and the stages -/

theorem damperExpiry (a : Fin 64) {timer : DamperDrive → Option Nat} {act : DamperCtx → DamperDrive → DamperDrive} {s : State}
    (h : I s) (k : ∀ d, (timer d).isSome = true → DamperAct d act) : Q (damperExpiry a timer act s) := by
  unfold Machine.damperExpiry
  split
  · rename_i d hd
    split
    · rename_i t ht
      refine R.damper a act _ (R.reach t h) (fun x hx => ?_)
      obtain rfl := Drive.damper.inj (hd.symm.trans hx)
      exact k _ (by rw [ht]; rfl)
    · exact R.stays s h
  · exact R.stays s h
  · exact R.stays s h

theorem fanExpiry (a : Fin 64) {timer : FanDrive → Option Nat} {act : FanCtx → FanDrive → FanDrive} {s : State}
    (h : I s) (k : ∀ f, (timer f).isSome = true → FanAct f act) : Q (fanExpiry a timer act s) := by
  unfold Machine.fanExpiry
  split
  · rename_i f hf
    split
    · rename_i t ht
      refine R.fan a act _ (R.reach t h) (fun x hx => ?_)
      obtain rfl := Drive.fan.inj (hf.symm.trans hx)
      exact k _ (by rw [ht]; rfl)
    · exact R.stays s h
  · exact R.stays s h
  · exact R.stays s h

theorem stageExpiry (z : Fin 24) (phase : StagePhase) {timer : CurrentStage → Timer} {act : CurrentStage → Work → Work}
    {s : State} (h : I s) (k : ∀ cs, StageAct z cs (act cs)) : Q (stageExpiry z phase timer act s) := by
  unfold Machine.stageExpiry
  split
  · exact R.stays s h
  · rename_i cs hcs
    split
    · split
      · rename_i t _
        exact R.stage z cs _ _ (R.reach t h) hcs (k cs)
      · exact R.stays s h
    · exact R.stays s h

theorem conversionAt (c : Fin 16) (code : BitVec 10) {s : State} (h : I s) :
    Q (atScan c.castSucc (takeConversion c code) s) := by
  unfold atScan
  split
  · exact R.conversion c code s h
  · exact R.stays s h

theorem supplyAt (code : BitVec 10) {s : State} (h : I s) : Q (atScan supplyPlace (takeSupply code) s) := by
  unfold atScan
  split
  · exact R.supply code s h
  · exact R.stays s h

/-- A routine command leads from `I` to `Q`: one clause of the rule for each row of the table. -/
theorem exec {c : Instr} {s t : State} (routine : c.routine = true) (h : I s) (e : exec c s = .next t) : Q t := by
  cases c with
  | poll l => exact R.request h (R.stays s h) e
  | readSummary l p => exact R.request h (R.readSummary l p h) e
  | readZone l z p => exact R.request h (R.readZone z p h) e
  | readActuator l a => exact R.request h (R.readActuator a h) e
  | zoneAlarm p z => exact R.request h (R.zoneAlarm p z s h) e
  | zoneReset p z => exact R.request h (R.zoneReset p z s h) e
  | overrideSet a k v => exact R.request h (R.overrideSet a k v s h) e
  | overrideRelease a => exact R.request h (R.overrideRelease a s h) e
  | standDown o => exact R.request h (R.standDown o s h) e
  | resume => exact R.request h (R.resume h) e
  | faultClear l a => exact R.request h (R.faultClear l a h) e
  | normalSet a k v => exact R.request h (R.normalSet a k v s h) e
  | normalRelease a => exact R.request h (R.normalRelease a s h) e
  | normalGroup body => exact R.request h (R.normalGroup body s h) e
  | testStart z r => exact R.request h (R.testStart z r s h) e
  | testEnd z => exact R.request h (R.testEnd z s h) e
  | configRead body => exact R.request h (R.configRead body h) e
  | configWrite body => exact R.request h (R.configWrite body s h) e
  | configActivateApply sec => exact R.request h (R.configActivate _ s h) e
  | configActivateDiscard sec => exact R.request h (R.configActivate _ s h) e
  | restart => exact R.request h (R.restart h) e
  | frameReceived l frame => exact R.event h (R.receiveAll l frame h) e
  | gapTimerExpiry l => exact R.event h (R.gapExpiry l h) e
  | answerSent l => exact R.event h (R.endAnswer l h) e
  | supervisionTimerExpiry l => exact R.event h (R.supervisionExpiry l h) e
  | coldStart => cases routine
  | powerLoss => cases routine
  | warmRestartStart cause => cases routine
  | supervisor => cases routine
  | warmRestartEnd => cases routine
  | inputSample i n => exact R.event h (R.sample i n s h) e
  | keyLineSample n => exact R.event h (R.keySample n s h) e
  | channelConversion ch code => exact R.event h (R.conversionAt ch code h) e
  | supplyConversion code => exact R.event h (R.supplyAt code h) e
  | speedFrameBoundary o => cases routine
  | writeCompletion => exact R.event h (R.write s h) e
  | travelTimerExpiry a => exact R.event h (R.damperExpiry a h (fun _ _ => .travel)) e
  | deadTimeExpiry a => exact R.event h (R.damperExpiry a h (fun _ run => .deadTime run)) e
  | cooldownExpiry a => exact R.event h (R.damperExpiry a h (fun _ run => .cooldown run)) e
  | switchDisagreeExpiry a => exact R.event h (R.damperExpiry a h (fun _ _ => .disagree)) e
  | leftPositionExpiry a => exact R.event h (R.damperExpiry a h (fun _ _ => .left)) e
  | startProofExpiry a => exact R.event h (R.fanExpiry a h (fun _ run => .startProof run)) e
  | stopProofExpiry a => exact R.event h (R.fanExpiry a h (fun _ run => .stopProof run)) e
  | runLossExpiry a => exact R.event h (R.fanExpiry a h (fun _ run => .runLoss run)) e
  | restartDelayExpiry a => exact R.event h (R.fanExpiry a h (fun _ run => .restartDelay run)) e
  | rampStep a => exact R.event h (R.fanExpiry a h (fun _ run => .ramp run)) e
  | settleExpiry z => exact R.event h (R.stageExpiry z _ h (fun _ => .settle)) e
  | proofWindowExpiry z => exact R.event h (R.stageExpiry z _ h (fun _ => .window)) e
  | gateWaitExpiry z => exact R.event h (R.stageExpiry z _ h (fun _ => .gateWait)) e
  | byteReceived l r => exact R.event h (R.receive_end l r h) e
  | answerBegin l => exact R.event h (R.beginAnswer l h) e

end CommandRule

end Sys2Proof.Machine
end

/-! # What an event does to the definitions, the store and the drives

An event's operations and the engine after it touch the drives by the acts of `DamperAct` and `FanAct` alone, and the
definitions, the store, the queue and the applied codes not at all, but for a PENDING image that an event leaving no zone active may apply. -/

section

namespace Sys2Proof.Machine

/-- Two states that differ at most in ports, lists, zones, stand-down, counts and samples, and in a later clock. -/
structure Light (s t : State) : Prop where
  pending : t.pending = s.pending
  now : s.now ≤ t.now
  cutWrites : t.cutWrites = s.cutWrites
  configFault : t.configFault = s.configFault
  start : t.start = s.start
  store : t.store = s.store
  siteCode : t.siteCode = s.siteCode
  plant : t.plant = s.plant
  sequences : t.sequences = s.sequences
  drives : t.drives = s.drives
  filters : t.filters = s.filters
  applied : t.applied = s.applied

/-- What to show so that the Sequence Engine, which asks of a drive a target alone, keeps `P`. -/
structure EngineRule (P : State → Prop) : Prop where
  light : ∀ s t, P s → Light s t → P t
  targetDamper : ∀ s a d ctx side, P s → s.drive a = .damper d → s.damperCtx a = some ctx →
    P (s.setDrive a (.damper (damperFinish ctx d (damperTarget side ctx d))))
  targetFan : ∀ s a f ctx c, P s → s.drive a = .fan f → s.fanCtx a = some ctx →
    P (s.setDrive a (.fan (fanTarget c ctx f)))

/-- What to show so that the operations within an event keep `P`. -/
structure WorkRule (P : State → Prop) : Prop extends EngineRule P where
  damper : ∀ s a d ctx act, P s → s.drive a = .damper d → s.damperCtx a = some ctx → DamperAct d act →
    P (s.setDrive a (.damper (damperFinish ctx d (act ctx d))))
  fan : ∀ s a f ctx act, P s → s.drive a = .fan f → s.fanCtx a = some ctx → FanAct f act →
    P (s.setDrive a (.fan (act ctx f)))
  targetDamper := fun s a d ctx side h hd hc => damper s a d ctx _ h hd hc (.target side)
  targetFan := fun s a f ctx c h hf hc => fan s a f ctx _ h hf hc (.target c)

/-- What to show so that a routine command that begins in a state of `I` ends in a state of `Q`, where every operation within the
event keeps `P`. -/
structure StateRule (I P Q : State → Prop) : Prop extends WorkRule P where
  ports : ∀ s ps n, I s → s.now ≤ n → I { s with ports := ps, now := n }
  begins : ∀ s, I s → P s
  ends : ∀ s, P s → Q s
  quiet : ∀ s ps p, Q s → Q { s with ports := ps, power := p }
  apply : ∀ w : Work, P w.st → w.st.mayApply = true → Q (applyIfPending .sequences (applyIfPending .plant w)).st
  configWrite : ∀ body s, I s → Q (takeConfigWrite body s).1
  configActivate : ∀ body s, I s → Q (takeConfigActivate body s).1
  write : ∀ s, I s → Q (completeWrite s)

/-! ## Folds of an event's operations -/

theorem foldl_keeps {P : State → Prop} {α : Type} (f : State → α → State) (k : ∀ s a, P s → P (f s a)) (l : List α) {s : State}
    (h : P s) : P (l.foldl f s) := by
  induction l generalizing s with
  | nil => exact h
  | cons a l ih => exact ih (k s a h)

theorem foldl_work_keeps {P : State → Prop} {α : Type} (f : Work → α → Work) (k : ∀ w a, P w.st → P (f w a).st) (l : List α)
    {w : Work} (h : P w.st) : P (l.foldl f w).st := by
  induction l generalizing w with
  | nil => exact h
  | cons a l ih => exact ih (k w a h)

/-! ## The application of an image -/

/-- The definitions, the lists and the drives of a PLANT application over an old state, before any target or notice is handed
(R11). -/
def replant (p : PlantImage) (old s : State) : State :=
  let t := underPlant p s
  { t with drives := appliedDrives old t }

/-- What a PLANT application hands after it: the changed targets, then the notices of the changed channels (R11, R143). -/
def handReplanted (old : State) (w : Work) : Work :=
  (List.finRange 16).foldl (noticeApplied old) ((List.finRange 64).foldl (handApplied old) w)

theorem applyPlant_eq (p : PlantImage) (w : Work) :
    applyPlant p w = (handReplanted w.st (w.map (replant p w.st))).map State.raiseFlags := by
  rfl

theorem keeps_handApplied (old : State) (w : Work) (a : Fin 64) : Keeps w.st (handApplied old w a).st := by
  unfold handApplied
  split
  · split
    · exact keeps_handTarget _ _ _
    · exact Keeps.refl _
  · exact Keeps.refl _

theorem keeps_noticeApplied (old : State) (w : Work) (c : Fin 16) : Keeps w.st (noticeApplied old w c).st := by
  unfold noticeApplied
  split
  · refine keeps_foldl_work _ (fun w a => ?_) _ _
    split
    · exact keeps_fanEvent _ _ _
    · exact Keeps.refl _
  · exact Keeps.refl _

theorem keeps_handReplanted (old : State) (w : Work) : Keeps w.st (handReplanted old w).st := by
  unfold handReplanted
  exact (keeps_foldl_work _ (keeps_handApplied old) _ _).trans (keeps_foldl_work _ (keeps_noticeApplied old) _ _)

/-- A PLANT application keeps what `Keeps` names of the state whose definitions, lists and drives it has replaced. -/
theorem keeps_applyPlant (p : PlantImage) (w : Work) : Keeps (replant p w.st w.st) (applyPlant p w).st := by
  rw [applyPlant_eq]
  exact (keeps_handReplanted w.st (w.map (replant p w.st))).trans (keeps_raiseFlags _)

theorem applySector_activation (sec : Sector) (w : Work) : (applySector sec w).st.activation = w.st.activation := by
  cases sec with
  | identity => rfl
  | sequences => rfl
  | plant => exact (keeps_applyPlant _ _).activation

theorem applyIfPending_activation (sec : Sector) (w : Work) : (applyIfPending sec w).st.activation = w.st.activation := by
  unfold applyIfPending
  split
  · exact applySector_activation _ _
  · rfl

theorem activation_of_mayApply {s : State} (h : s.mayApply = true) : s.activation = [] := by
  simp only [State.mayApply, Bool.and_eq_true, List.isEmpty_iff] at h
  exact h.1

namespace EngineRule

variable {P : State → Prop} (R : EngineRule P)
include R

/-! ## The updates -/

theorem setZone {s : State} (z : Fin 24) (r : ZoneRecord) (h : P s) : P (s.setZone z r) :=
  R.light s _ h (by constructor <;> rfl)

theorem setList {s : State} (a : Fin 64) (l : ClaimList) (h : P s) : P (s.setList a l) :=
  R.light s _ h (by constructor <;> rfl)

theorem raiseFlags {s : State} (h : P s) : P s.raiseFlags :=
  R.light s _ h (by constructor <;> rfl)

/-! ## Drives -/

theorem handNotice (a : Fin 64) (x y : Drive) {w : Work} (h : P w.st) : P (handNotice a x y w).st := by
  unfold Machine.handNotice
  simp only []
  split <;> split
  · exact h
  · exact R.raiseFlags h
  · exact h
  · exact R.raiseFlags h

theorem damperTarget (a : Fin 64) (side : Side) {w : Work} (h : P w.st) :
    P (damperEvent a (Machine.damperTarget side) w).st := by
  unfold Machine.damperEvent
  split
  · rename_i d ctx hd hc
    exact R.handNotice _ _ _ (R.targetDamper _ a d ctx side h hd hc)
  · exact h

theorem fanTarget (a : Fin 64) (c : Command) {w : Work} (h : P w.st) : P (fanEvent a (Machine.fanTarget c) w).st := by
  unfold Machine.fanEvent
  split
  · rename_i f ctx hf hc
    exact R.handNotice _ _ _ (R.targetFan _ a f ctx c h hf hc)
  · exact h

theorem handTarget (a : Fin 64) (c : Command) {w : Work} (h : P w.st) : P (handTarget a c w).st := by
  unfold Machine.handTarget
  refine R.fanTarget a c ?_
  split
  · exact R.damperTarget a _ h
  · exact h

/-! ## Lists and maps -/

theorem refreshEntry (a : Fin 64) (z : Fin 24) {s : State} (h : P s) : P (refreshEntry a s z) := by
  unfold Machine.refreshEntry
  simp only []
  split
  · exact h
  · exact R.setZone _ _ h

theorem refreshEntries (a : Fin 64) {s : State} (h : P s) : P (refreshEntries a s) :=
  foldl_keeps _ (fun _ z => R.refreshEntry a z) _ h

theorem endListOp (a : Fin 64) (cs : List Claim) (m : Bool) {w : Work} (h : P w.st) : P (endListOp a cs m w).st := by
  unfold Machine.endListOp
  simp only [Work.map_st]
  refine R.refreshEntries a ?_
  split
  · exact R.setList _ _ h
  · split
    · exact R.handTarget a _ (R.setList _ _ h)
    · exact R.setList _ _ h

theorem placeOp (a : Fin 64) (src : Source) (cmd : Command) {w : Work} (h : P w.st) : P (placeOp a src cmd w).1.st := by
  unfold Machine.placeOp
  simp only []
  split
  · exact h
  · exact R.refreshEntries a (R.setList _ _ h)
  · exact R.endListOp _ _ _ h

theorem withdrawOp (a : Fin 64) (src : Source) {w : Work} (h : P w.st) : P (withdrawOp a src w).st := by
  unfold Machine.withdrawOp
  simp only []
  split
  · exact h
  · exact R.endListOp _ _ _ h

/-! ## The engine -/

theorem judgeStage (z : Fin 24) {s : State} (h : P s) : P (judgeStage s z) := by
  unfold Machine.judgeStage
  simp only []
  split
  · exact h
  · split
    · exact R.setZone _ _ h
    · exact h

theorem judgeSub (z : Fin 24) {s : State} (h : P s) : P (judgeSub s z) := by
  unfold Machine.judgeSub
  simp only []
  split
  · exact h
  · exact R.raiseFlags (R.setZone _ _ h)

theorem judgeZones {s : State} (h : P s) : P (judgeZones s) :=
  foldl_keeps _ (fun _ z h => R.judgeSub z (R.judgeStage z h)) _ h

theorem finishStage (z : Fin 24) (cs : CurrentStage) {s : State} (h : P s) : P (finishStage s z cs) := by
  unfold Machine.finishStage
  simp only []
  split
  · exact R.raiseFlags (R.setZone _ _ h)
  · split
    · exact R.raiseFlags (R.setZone _ _ h)
    · exact R.setZone _ _ h

theorem resumeZone (touched : List (Fin 64)) (z : Fin 24) {s : State} (h : P s) : P (resumeZone touched s z) := by
  unfold Machine.resumeZone
  simp only []
  split
  · split
    · split
      · exact R.raiseFlags (R.setZone _ _ h)
      · exact R.raiseFlags (R.setZone _ _ h)
    · exact h
  · exact h

theorem placeCommand (z : Fin 24) (c : StageCommand) {w : Work} (h : P w.st) : P (placeCommand z w c).st :=
  R.refreshEntries _ (R.placeOp _ _ _ (R.setZone _ _ h))

theorem issueStage (z : Fin 24) (cs : CurrentStage) (mark : Bool) {w : Work} (h : P w.st) : P (issueStage z cs mark w).st :=
  R.setZone _ _ (foldl_work_keeps _ (fun _ c => R.placeCommand z c) _ h)

theorem takeStage (z : Fin 24) (cs : CurrentStage) {w : Work} (h : P w.st) : P (takeStage z cs w).st := by
  unfold Machine.takeStage
  split
  · exact R.issueStage _ _ _ h
  · simp only []
    split
    · exact R.finishStage _ _ h
    · exact R.issueStage _ _ _ h
    · exact R.issueStage _ _ _ h
    · exact R.setZone _ _ h

theorem advanceZone (z : Fin 24) {w : Work} (h : P w.st) : P (advanceZone z w).st := by
  unfold Machine.advanceZone
  split
  · exact h
  · split
    · exact R.takeStage _ _ h
    · exact R.finishStage _ _ h

theorem engineLoop (n : Nat) {w : Work} (h : P w.st) : P (engineLoop n w).st := by
  induction n generalizing w with
  | zero => exact h
  | succ n ih =>
    have judged : P ((resumeZones w).map Machine.judgeZones).st :=
      R.judgeZones (foldl_keeps _ (fun _ z => R.resumeZone w.touched z) _ h)
    simp only [Machine.engineLoop]
    split
    · exact judged
    · exact ih (R.advanceZone _ judged)

end EngineRule

namespace WorkRule

variable {P : State → Prop} (R : WorkRule P)
include R

/-! ## Every event of a drive -/

theorem damperEvent {a : Fin 64} {act : DamperCtx → DamperDrive → DamperDrive} {w : Work} (h : P w.st)
    (k : ∀ d, w.st.drive a = .damper d → DamperAct d act) : P (damperEvent a act w).st := by
  unfold Machine.damperEvent
  split
  · rename_i d ctx hd hc
    exact R.handNotice _ _ _ (R.damper _ a d ctx act h hd hc (k d hd))
  · exact h

theorem fanEvent {a : Fin 64} {act : FanCtx → FanDrive → FanDrive} {w : Work} (h : P w.st)
    (k : ∀ f, w.st.drive a = .fan f → FanAct f act) : P (fanEvent a act w).st := by
  unfold Machine.fanEvent
  split
  · rename_i f ctx hf hc
    exact R.handNotice _ _ _ (R.fan _ a f ctx act h hf hc (k f hf))
  · exact h

theorem handInput (i : Fin 128) {w : Work} (h : P w.st) : P (handInput i w).st := by
  unfold Machine.handInput
  split
  · exact h
  · simp only []
    split
    · exact R.fanEvent h (fun _ _ => .input _)
    · exact R.damperEvent h (fun _ _ => .input _ _)
    · exact R.damperEvent h (fun _ _ => .input _ _)
    · exact h

theorem handChannel (c : Fin 16) {w : Work} (h : P w.st) : P (handChannel c w).st := by
  refine foldl_work_keeps _ (fun w a h => ?_) _ h
  split
  · exact R.fanEvent h (fun _ _ => .channel)
  · exact h

/-! ## Held and suspended zones, gates -/

theorem holdZone (z : Fin 24) {s : State} (h : P s) : P (holdZone s z) := by
  unfold Machine.holdZone
  simp only []
  split
  · exact h
  · exact R.raiseFlags (R.setZone _ _ h)

theorem suspendZone (z : Fin 24) {s : State} (h : P s) : P (suspendZone s z) := by
  unfold Machine.suspendZone
  simp only []
  split
  · exact h
  · exact R.raiseFlags (R.setZone _ _ h)

theorem expireWindow (z : Fin 24) (cs : CurrentStage) {s : State} (h : P s) : P (expireWindow s z cs) :=
  R.finishStage _ _ (R.setZone _ _ h)

theorem bringForward (z : Fin 24) {w : Work} (h : P w.st) : P (bringForward z w).st := by
  unfold Machine.bringForward
  split
  · exact h
  · simp only []
    split
    · exact h
    · exact h
    · split
      · exact R.issueStage _ _ _ h
      · split
        · exact R.issueStage _ _ _ h
        · split
          · exact R.issueStage _ _ _ h
          · exact R.setZone _ _ h
    · split
      · exact R.setZone _ _ h
      · exact R.setZone _ _ h
    · split
      · exact R.expireWindow _ _ h
      · exact R.setZone _ _ h

theorem unholdZone (z : Fin 24) {w : Work} (h : P w.st) : P (unholdZone w z).st := by
  unfold Machine.unholdZone
  simp only []
  split
  · split
    · exact R.raiseFlags (R.setZone _ _ h)
    · exact R.bringForward z (R.raiseFlags (R.setZone _ _ h))
  · exact h

theorem unsuspendZone (z : Fin 24) {w : Work} (h : P w.st) : P (unsuspendZone w z).st := by
  unfold Machine.unsuspendZone
  simp only []
  split
  · split
    · exact R.raiseFlags (R.setZone _ _ h)
    · exact R.bringForward z (R.raiseFlags (R.setZone _ _ h))
  · exact h

theorem releaseStandDown {w : Work} (h : P w.st) : P (releaseStandDown w).st :=
  foldl_work_keeps _ (fun _ z => R.unholdZone z) _
    (R.light _ _ h (by constructor <;> rfl))

theorem judgeGate (c : Fin 16) (z : Fin 24) {w : Work} (h : P w.st) : P (judgeGate c w z).st := by
  unfold Machine.judgeGate
  simp only []
  split
  · exact h
  · split
    · split
      · exact h
      · split
        · exact R.issueStage _ _ _ h
        · exact h
    · exact h

theorem channelNotice (c : Fin 16) {w : Work} (h : P w.st) : P (channelNotice c w).st :=
  foldl_work_keeps _ (fun _ z => R.judgeGate c z) _ (R.handChannel c h)

theorem supplyLowEvent {w : Work} (h : P w.st) : P (supplyLowEvent w).st := by
  unfold Machine.supplyLowEvent
  dsimp only [Work.map_st]
  exact foldl_keeps _ (fun _ z => R.suspendZone z) _
    (foldl_work_keeps _ (fun _ _ h => R.damperEvent h (fun _ _ => .supplyLow)) _ h)

theorem supplyOkEvent {w : Work} (h : P w.st) : P (supplyOkEvent w).st := by
  unfold Machine.supplyOkEvent
  exact foldl_work_keeps _ (fun _ z => R.unsuspendZone z) _
    (foldl_work_keeps _ (fun _ _ h => R.damperEvent h (fun _ _ => .supplyOk)) _ h)

/-! ## Starts and ends of a zone's run -/

theorem withdrawEntry (z : Fin 24) (a : Fin 64) {w : Work} (h : P w.st) : P (withdrawEntry z w a).st := by
  unfold Machine.withdrawEntry
  simp only []
  split
  · exact h
  · split
    · exact h
    · exact R.withdrawOp _ _ h

theorem endInstance (z : Fin 24) (why : EndReason) {w : Work} (h : P w.st) : P (endInstance z why w).st :=
  R.raiseFlags (R.setZone _ _ (foldl_work_keeps _ (fun _ a => R.withdrawEntry z a) _
    (R.light _ _ h (by constructor <;> rfl))))

theorem startZone (z : Fin 24) (r : ZoneRecord) {s : State} (h : P s) : P (startZone z r s) :=
  R.light _ _ h (by constructor <;> rfl)

theorem startFire (p : Panel) (z : Fin 24) {w : Work} (h : P w.st) : P (startFire p z w).st := by
  have ended := foldl_work_keeps _ (fun _ y => R.endInstance y .abortedByAlarm) w.st.testZones h
  unfold Machine.startFire alarmStandDown
  refine R.startZone _ _ ?_
  split
  · exact R.releaseStandDown ended
  · exact ended

theorem handApplied (old : State) (a : Fin 64) {w : Work} (h : P w.st) : P (handApplied old w a).st := by
  unfold Machine.handApplied
  split
  · split
    · exact R.handTarget a _ h
    · exact h
  · exact h

theorem noticeApplied (old : State) (c : Fin 16) {w : Work} (h : P w.st) : P (noticeApplied old w c).st := by
  unfold Machine.noticeApplied
  split
  · refine foldl_work_keeps _ (fun w a h => ?_) _ h
    split
    · exact R.fanEvent h (fun _ _ => .channel)
    · exact h
  · exact h

theorem applyPlant {p : PlantImage} {w : Work} (h : P (replant p w.st w.st)) : P (applyPlant p w).st := by
  rw [applyPlant_eq]
  refine R.raiseFlags ?_
  unfold handReplanted
  exact foldl_work_keeps _ (fun _ c => R.noticeApplied w.st c) _
    (foldl_work_keeps _ (fun _ a => R.handApplied w.st a) _ h)

end WorkRule

namespace StateRule

variable {I P Q : State → Prop} (R : StateRule I P Q)
include R

theorem runEvent {s : State} {f : Work → Work} (k : P (f (Work.start s)).st) : Q (runEvent s f) :=
  R.ends _ (R.toWorkRule.engineLoop _ k)

/-- An event whose last operation is the emptying of the Activation List or of the overrides at the store: where an image is
applied, no zone is active, and the engine leaves the state as it is. -/
theorem runEvent_storeEmptied {s : State} {f : Work → Work} (k : P (f (Work.start s)).st) :
    Q (Machine.runEvent s (fun w => storeEmptied (f w))) := by
  unfold Machine.runEvent storeEmptied
  dsimp only
  split
  · rename_i may
    rw [engineLoop_idle]
    · exact R.apply _ k may
    · rw [applyIfPending_activation, applyIfPending_activation, activation_of_mayApply may]
  · exact R.ends _ (R.toWorkRule.engineLoop _ k)

/-! ## The handlers of the requests -/

theorem zoneAlarm (p : Panel) (b : Byte) {s : State} (h : I s) : Q (takeZoneAlarm p b s).1 := by
  have hp := R.begins s h
  unfold takeZoneAlarm
  split
  · exact R.ends s hp
  · split
    · exact R.ends s hp
    · unfold alarmZone
      split
      · split
        · exact R.ends s hp
        · exact R.ends _ (R.toWorkRule.setZone _ _ hp)
      · exact R.runEvent (R.toWorkRule.startFire _ _ hp)
      · exact R.runEvent (R.toWorkRule.startFire _ _ hp)

theorem zoneReset (p : Panel) (b : Byte) {s : State} (h : I s) : Q (takeZoneReset p b s).1 := by
  have hp := R.begins s h
  unfold takeZoneReset
  split
  · exact R.ends s hp
  · unfold resetZone
    simp only []
    split
    · exact R.ends s hp
    · split
      · exact R.ends _ (R.toWorkRule.setZone _ _ hp)
      · dsimp only [zoneReply]
        unfold endFire
        exact R.runEvent_storeEmptied (R.toWorkRule.endInstance _ _ (R.toWorkRule.setZone _ _ hp))

theorem overrideSet (a k : Byte) (v : Half) {s : State} (h : I s) : Q (takeOverrideSet a k v s).1 := by
  have hp := R.begins s h
  unfold takeOverrideSet
  split
  · exact R.ends s hp
  · split
    · exact R.ends s hp
    · split
      · exact R.ends s hp
      · split
        · exact R.ends s hp
        · exact R.ends _ (R.toWorkRule.engineLoop _ (R.light _ _ (R.toWorkRule.placeOp _ _ _ hp) (by constructor <;> rfl)))

theorem releaseOne {a : Fin 64} {s : State} (h : P s) : Q (Machine.runEvent s (Machine.releaseOne a)) := by
  have released : P ((Machine.withdrawOp a .override (Work.start s)).map (fun s => { s with overrides := s.overrides - 1 })).st :=
    R.light _ _ (R.toWorkRule.withdrawOp a _ h) (by constructor <;> rfl)
  by_cases e : ((Machine.withdrawOp a .override (Work.start s)).map
      (fun s => { s with overrides := s.overrides - 1 })).st.overrides = 0
  · have := R.runEvent_storeEmptied (s := s)
      (f := fun w => (Machine.withdrawOp a .override w).map (fun s => { s with overrides := s.overrides - 1 })) released
    unfold Machine.runEvent Machine.releaseOne
    dsimp only
    rw [if_pos e]
    exact this
  · unfold Machine.runEvent Machine.releaseOne
    dsimp only
    rw [if_neg e]
    exact R.ends _ (R.toWorkRule.engineLoop _ released)

theorem overrideRelease (a : Byte) {s : State} (h : I s) : Q (takeOverrideRelease a s).1 := by
  have hp := R.begins s h
  unfold takeOverrideRelease
  split
  · unfold takeReleaseAll
    split
    · exact R.ends s hp
    · dsimp only
      unfold Machine.releaseAll
      have withdrawn : P (s.overriddenLists.foldl (fun w a => Machine.withdrawOp a .override w) (Work.start s)).st :=
        foldl_work_keeps _ (fun _ a => R.toWorkRule.withdrawOp a _) _ hp
      exact R.runEvent_storeEmptied
        (f := fun w => (s.overriddenLists.foldl (fun w a => Machine.withdrawOp a .override w) w).map
          (fun s => { s with overrides := 0 }))
        (R.light _ _ withdrawn (by constructor <;> rfl))
  · unfold takeReleaseOne
    split
    · exact R.ends s hp
    · rename_i a _
      split
      · dsimp only
        exact R.releaseOne hp
      · exact R.ends s hp

theorem standDown (o : Byte) {s : State} (h : I s) : Q (takeStandDown o s).1 := by
  have hp := R.begins s h
  unfold takeStandDown
  split
  · exact R.ends s hp
  · split
    · unfold standDownReply replaceOption
      dsimp only
      split
      · exact R.ends s hp
      · exact R.ends _ (R.light _ _ hp (by constructor <;> rfl))
    · split
      · refine R.ends _ (foldl_keeps _ (fun _ z => R.toWorkRule.holdZone z) _ (R.light _ _ hp ?_))
        constructor <;> rfl
      · exact R.ends s hp

theorem clearFault (a : Fin 64) {s : State} (h : I s) : Q (Machine.runEvent s (Machine.clearFault a)) :=
  R.runEvent (R.toWorkRule.fanEvent (R.toWorkRule.damperEvent (R.begins s h) (fun _ _ => .faultClear)) (fun _ _ => .faultClear))

theorem placeNormal (a : Fin 64) (c : Command) {s : State} (h : P s) :
    P (runEventWith s (Machine.placeNormal a c)).1 :=
  R.toWorkRule.engineLoop _ (R.toWorkRule.placeOp _ _ _ (R.toWorkRule.setList _ _ h))

theorem normalSet (a k : Byte) (v : Half) {s : State} (h : I s) : Q (takeNormalSet a k v s).1 := by
  have hp := R.begins s h
  unfold takeNormalSet
  split
  · exact R.ends s hp
  · split
    · exact R.ends s hp
    · split
      · exact R.ends s hp
      · exact R.ends _ (R.placeNormal _ _ hp)

theorem normalRelease (a : Byte) {s : State} (h : I s) : Q (takeNormalRelease a s).1 := by
  have hp := R.begins s h
  unfold takeNormalRelease
  split
  · exact R.ends s hp
  · simp only []
    split
    · dsimp only
      exact R.runEvent (R.toWorkRule.withdrawOp _ _ (R.toWorkRule.setList _ _ hp))
    · split
      · exact R.ends _ (R.toWorkRule.setList _ _ hp)
      · exact R.ends s hp

theorem applyPairs (pairs : List (Fin 64 × Command)) {r : State × List (Fin 64 × Placing)} (h : P r.1) :
    P (pairs.foldl applyPair r).1 := by
  induction pairs generalizing r with
  | nil => exact h
  | cons x pairs ih => exact ih (R.placeNormal x.1 x.2 h)

theorem normalGroup (body : List Byte) {s : State} (h : I s) : Q (takeNormalGroup body s).1 := by
  have hp := R.begins s h
  unfold takeNormalGroup
  split
  · exact R.ends s hp
  · split
    · exact R.ends s hp
    · split
      · exact R.ends s hp
      · split
        · exact R.ends s hp
        · split
          · exact R.ends s hp
          · exact R.ends _ (R.applyPairs _ hp)

theorem testStart (z r : Byte) {s : State} (h : I s) : Q (takeTestStart z r s).1 := by
  have hp := R.begins s h
  unfold takeTestStart
  split
  · exact R.ends s hp
  · split
    · exact R.ends s hp
    · split
      · exact R.ends s hp
      · split
        · exact R.ends s hp
        · split
          · dsimp only
            exact R.runEvent (R.toWorkRule.startZone _ _ hp)
          · exact R.ends s hp

theorem testEnd (z : Byte) {s : State} (h : I s) : Q (takeTestEnd z s).1 := by
  have hp := R.begins s h
  unfold takeTestEnd
  split
  · exact R.ends s hp
  · split
    · dsimp only
      unfold endTest
      exact R.runEvent_storeEmptied (R.toWorkRule.endInstance _ _ hp)
    · exact R.ends s hp
    · exact R.ends s hp

/-! ## Samples and conversions -/

theorem sample (i : Fin 128) (n : Nat) {s : State} (h : I s) : Q (takeSample i n s) := by
  unfold takeSample
  simp only []
  have taken : P { s with inputs := s.inputs.set i (sampleInput (s.filterCount i) s.inputs[i] n) } :=
    R.light _ _ (R.begins s h) (by constructor <;> rfl)
  split
  · exact R.ends _ taken
  · exact R.runEvent (R.toWorkRule.handInput i taken)

theorem conversion (c : Fin 16) (code : BitVec 10) {s : State} (h : I s) :
    Q (takeConversion c code { s with scan := s.scan + 1 }) := by
  unfold takeConversion
  simp only []
  split
  · refine R.runEvent (R.toWorkRule.channelNotice c (R.light _ _ (R.begins s h) ?_))
    constructor <;> rfl
  · refine R.ends _ (R.light _ _ (R.begins s h) ?_)
    constructor <;> rfl

theorem supply (code : BitVec 10) {s : State} (h : I s) : Q (takeSupply code { s with scan := s.scan + 1 }) := by
  unfold takeSupply
  simp only []
  have read : P { s with scan := s.scan + 1, supply := supplyAfter s.supply (supplyReading code.toNat) } :=
    R.light _ _ (R.begins s h) (by constructor <;> rfl)
  split
  · exact R.runEvent (R.toWorkRule.supplyLowEvent read)
  · exact R.runEvent (R.toWorkRule.supplyOkEvent read)
  · exact R.ends _ read
  · exact R.ends _ read

theorem stage {z : Fin 24} {cs : CurrentStage} {act : Work → Work} {s : State} (h : I s) (k : StageAct z cs act) :
    Q (Machine.runEvent s act) := by
  have hp := R.begins s h
  cases k with
  | settle => exact R.runEvent (R.toWorkRule.setZone _ _ hp)
  | window => exact R.runEvent (R.toWorkRule.expireWindow _ _ hp)
  | gateWait => exact R.runEvent (R.toWorkRule.issueStage _ _ _ hp)

/-- The rule of the commands, where the operations within an event keep `P`. -/
theorem command : CommandRule I Q where
  ports := R.ports
  stays s h := R.ends s (R.begins s h)
  quiet := R.quiet
  zoneAlarm p b _ h := R.zoneAlarm p b h
  zoneReset p b _ h := R.zoneReset p b h
  overrideSet a k v _ h := R.overrideSet a k v h
  overrideRelease a _ h := R.overrideRelease a h
  standDown o _ h := R.standDown o h
  release s h := R.runEvent (R.toWorkRule.releaseStandDown (R.begins s h))
  clearFault a _ h := R.clearFault a h
  normalSet a k v _ h := R.normalSet a k v h
  normalRelease a _ h := R.normalRelease a h
  normalGroup body _ h := R.normalGroup body h
  testStart z r _ h := R.testStart z r h
  testEnd z _ h := R.testEnd z h
  configWrite := R.configWrite
  configActivate := R.configActivate
  sample i n _ h := R.sample i n h
  keySample n s h := R.ends _ (R.light s _ (R.begins s h) (by constructor <;> rfl))
  conversion c code _ h := R.conversion c code h
  supply code _ h := R.supply code h
  write := R.write
  damper _ _ s h k := R.runEvent (R.toWorkRule.damperEvent (R.begins s h) k)
  fan _ _ s h k := R.runEvent (R.toWorkRule.fanEvent (R.begins s h) k)
  stage _ _ _ _ h _ k := R.stage h k

end StateRule

end Sys2Proof.Machine
end

/-! # The store's requests and the completion of a write, case by case -/

section

namespace Sys2Proof.Machine

/-- A CONFIG-WRITE changes nothing, or one sector's staging image with no write in progress (R183). -/
theorem takeConfigWrite_cases (body : List Byte) (s : State) :
    (takeConfigWrite body s).1 = s ∨ ∃ sec img, (takeConfigWrite body s).1 =
      { s with store := s.store.setSector sec { s.store.sector sec with staging := some img } } := by
  unfold takeConfigWrite
  split
  · split
    · unfold configWriteFields
      split
      · exact .inl rfl
      · split
        · exact .inl rfl
        · split
          · exact .inl rfl
          · split
            · exact .inl rfl
            · exact .inr ⟨_, _, rfl⟩
    · exact .inl rfl
  · exact .inl rfl

/-- A CONFIG-ACTIVATE changes nothing, or one sector's staging image, or begins a write where R185 lets it. -/
theorem takeConfigActivate_cases (body : List Byte) (s : State) :
    (takeConfigActivate body s).1 = s ∨
      (∃ sec x, (takeConfigActivate body s).1 =
        { s with store := s.store.setSector sec { s.store.sector sec with staging := x } }) ∨
      ∃ sec img, s.store.writing = none ∧ s.mayActivate sec = true ∧
        (takeConfigActivate body s).1 = startWrite sec (clearForeign sec img) s := by
  unfold takeConfigActivate
  split
  · split
    · exact .inl rfl
    · rename_i idle
      split
      · exact .inl rfl
      · split
        · unfold applyStaging
          split
          · exact .inl rfl
          · split
            · exact .inl rfl
            · split
              · rename_i may
                exact .inr (.inr ⟨_, _, by simpa using idle, may, rfl⟩)
              · exact .inr (.inl ⟨_, _, rfl⟩)
        · split
          · unfold discardStaging
            simp only []
            split
            · exact .inr (.inl ⟨_, _, rfl⟩)
            · exact .inl rfl
          · exact .inl rfl
  · exact .inl rfl

theorem startWrite_identity (img : Image) (s : State) :
    startWrite .identity img s =
      { s with store := s.store.setSector .identity ((s.store.sector .identity).beginWrite img) } := by
  simp [startWrite]

theorem startWrite_noFault {s : State} (h : s.configFault = false) (sec : Sector) (img : Image) :
    startWrite sec img s = { s with store := s.store.setSector sec ((s.store.sector sec).beginWrite img) } := by
  simp [startWrite, h]

theorem startWrite_fault {s : State} (h : s.configFault = true) {sec : Sector} (hsec : sec ≠ .identity) (img : Image) :
    startWrite sec img s =
      followMarks { s with store := s.store.setSector sec ((s.store.sector sec).beginWrite img) } := by
  cases sec with
  | identity => exact absurd rfl hsec
  | plant => simp [startWrite, h]
  | sequences => simp [startWrite, h]

/-- The state whose sector's write has just been stored under a VALID mark (R186). -/
def written (sec : Sector) (s : State) : State :=
  { s with store := s.store.setSector sec (s.store.sector sec).endWrite }

theorem completeWrite_idle {s : State} (h : s.store.writing = none) : completeWrite s = s := by
  unfold completeWrite
  rw [h]

theorem completeWrite_identity {s : State} (h : s.store.writing = some .identity) :
    completeWrite s = applyIdentity (written .identity s).store.identity.stored (written .identity s) := by
  unfold completeWrite
  rw [h]
  rfl

/-- The completion of a write of PLANT or SEQUENCES goes on by R186. -/
theorem completeWrite_after {s : State} {sec : Sector} (h : s.store.writing = some sec) (hsec : sec ≠ .identity) :
    completeWrite s = afterWrite sec (written sec s) := by
  unfold completeWrite
  rw [h]
  cases sec with
  | identity => exact absurd rfl hsec
  | plant => rfl
  | sequences => rfl

theorem afterWrite_endsFault {s : State} (sec : Sector) (h : s.configFault = true)
    (valid : (s.store.plant.valid && s.store.sequences.valid) = true) : afterWrite sec s = endConfigFault s := by
  rw [afterWrite, if_pos h, if_pos valid]

theorem afterWrite_fault {s : State} (sec : Sector) (h : s.configFault = true)
    (invalid : (s.store.plant.valid && s.store.sequences.valid) = false) : afterWrite sec s = takeForReads sec s := by
  rw [afterWrite, if_pos h, if_neg (by simp [invalid])]

/-- Where an image may be applied no zone is active, so the application is all that the event does. -/
theorem afterWrite_applied {s : State} (sec : Sector) (h : s.configFault = false) (may : s.mayApply = true) :
    afterWrite sec s = (applySector sec (Work.start s)).st := by
  rw [afterWrite, if_neg (by simp [h]), if_pos may]
  exact runEvent_idle ((applySector_activation sec (Work.start s)).trans (activation_of_mayApply may))

theorem afterWrite_pending {s : State} (sec : Sector) (h : s.configFault = false) (may : s.mayApply = false) :
    afterWrite sec s = s.setActivation sec .pending := by
  rw [afterWrite, if_neg (by simp [h]), if_neg (by simp [may])]

/-- The ways in which the completion of a write ends (R186). -/
theorem completeWrite_cases (s : State) :
    completeWrite s = s ∨
      (s.store.writing = some .identity ∧
        completeWrite s = applyIdentity (written .identity s).store.identity.stored (written .identity s)) ∨
      ∃ sec, s.store.writing = some sec ∧ sec ≠ .identity ∧
        ((s.configFault = true ∧ completeWrite s = endConfigFault (written sec s)) ∨
          (s.configFault = true ∧ completeWrite s = takeForReads sec (written sec s)) ∨
          (s.configFault = false ∧ s.mayApply = true ∧
            completeWrite s = (applySector sec (Work.start (written sec s))).st) ∨
          (s.configFault = false ∧ completeWrite s = (written sec s).setActivation sec .pending)) := by
  cases w : s.store.writing with
  | none => exact .inl (completeWrite_idle w)
  | some sec =>
    refine .inr ?_
    by_cases hsec : sec = .identity
    · subst hsec
      exact .inl ⟨rfl, completeWrite_identity w⟩
    · refine .inr ⟨sec, rfl, hsec, ?_⟩
      rw [completeWrite_after w hsec]
      cases fault : s.configFault with
      | true =>
        cases valid : (written sec s).store.plant.valid && (written sec s).store.sequences.valid with
        | true => exact .inl ⟨rfl, afterWrite_endsFault sec fault valid⟩
        | false => exact .inr (.inl ⟨rfl, afterWrite_fault sec fault valid⟩)
      | false =>
        refine .inr (.inr ?_)
        cases may : s.mayApply with
        | true => exact .inl ⟨rfl, rfl, afterWrite_applied sec fault may⟩
        | false => exact .inr ⟨rfl, afterWrite_pending sec fault may⟩

/-! ## The queue, the clock and the applied codes -/

/-- The queue and the applied codes stand, and the clock is not set back. -/
structure SameQueue (s t : State) : Prop where
  pending : t.pending = s.pending
  now : s.now ≤ t.now
  applied : t.applied = s.applied

theorem SameQueue.refl (s : State) : SameQueue s s := ⟨rfl, Nat.le_refl _, rfl⟩

theorem SameQueue.trans {s t u : State} (x : SameQueue s t) (y : SameQueue t u) : SameQueue s u :=
  ⟨y.pending.trans x.pending, x.now.trans y.now, y.applied.trans x.applied⟩

theorem Keeps.sameQueue {s t : State} (h : Keeps s t) : SameQueue s t := ⟨h.pending, h.now.ge, h.applied⟩

theorem Light.sameQueue {s t : State} (h : Light s t) : SameQueue s t := ⟨h.pending, h.now, h.applied⟩

theorem sameQueue_startWrite (sec : Sector) (img : Image) (s : State) : SameQueue s (startWrite sec img s) := by
  unfold startWrite
  simp only []
  split
  · exact ⟨rfl, Nat.le_refl _, rfl⟩
  · exact ⟨rfl, Nat.le_refl _, rfl⟩

theorem sameQueue_applySector (sec : Sector) (w : Work) : SameQueue w.st (applySector sec w).st := by
  cases sec with
  | identity => exact ⟨rfl, Nat.le_refl _, rfl⟩
  | sequences => exact ⟨rfl, Nat.le_refl _, rfl⟩
  | plant =>
    have kept := (keeps_applyPlant (plantOf w.st.store.plant.stored) (w.map fun s => s.setActivation .plant .none)).sameQueue
    exact ⟨kept.pending, kept.now, kept.applied⟩

theorem sameQueue_applyIfPending (sec : Sector) (w : Work) : SameQueue w.st (applyIfPending sec w).st := by
  unfold applyIfPending
  split
  · exact sameQueue_applySector _ _
  · exact SameQueue.refl _

theorem sameQueue_completeWrite (s : State) : SameQueue s (completeWrite s) := by
  obtain e | ⟨-, e⟩ | ⟨sec, -, -, ⟨-, e⟩ | ⟨-, e⟩ | ⟨-, -, e⟩ | ⟨-, e⟩⟩ := completeWrite_cases s
  · rw [e]; exact SameQueue.refl s
  · rw [e]; exact ⟨rfl, Nat.le_refl _, rfl⟩
  · rw [e]; exact ⟨rfl, Nat.le_refl _, rfl⟩
  · rw [e]; exact ⟨rfl, Nat.le_refl _, rfl⟩
  · rw [e]
    have kept := sameQueue_applySector sec (Work.start (written sec s))
    exact ⟨kept.pending, kept.now, kept.applied⟩
  · rw [e]; exact ⟨rfl, Nat.le_refl _, rfl⟩

/-- Every routine command leaves the queue and the applied codes, and never sets the clock back. -/
theorem sameQueue_rule (s₀ : State) : StateRule (SameQueue s₀) (SameQueue s₀) (SameQueue s₀) where
  ports _ _ _ h le := ⟨h.pending, h.now.trans le, h.applied⟩
  begins _ h := h
  ends _ h := h
  quiet _ _ _ h := ⟨h.pending, h.now, h.applied⟩
  light _ _ h l := h.trans l.sameQueue
  damper _ _ _ _ _ h _ _ _ := h.trans (keeps_setDrive _ _ _).sameQueue
  fan _ _ _ _ _ h _ _ _ := h.trans (keeps_setDrive _ _ _).sameQueue
  apply w h _ := (h.trans (sameQueue_applyIfPending .plant w)).trans (sameQueue_applyIfPending .sequences _)
  configWrite body s h := by
    obtain e | ⟨_, _, e⟩ := takeConfigWrite_cases body s
    · rwa [e]
    · rw [e]; exact ⟨h.pending, h.now, h.applied⟩
  configActivate body s h := by
    obtain e | ⟨_, _, e⟩ | ⟨sec, img, -, -, e⟩ := takeConfigActivate_cases body s
    · rwa [e]
    · rw [e]; exact ⟨h.pending, h.now, h.applied⟩
    · rw [e]; exact h.trans (sameQueue_startWrite sec _ s)
  write s h := h.trans (sameQueue_completeWrite s)

theorem sameQueue_exec {c : Instr} {s t : State} (routine : c.routine = true) (e : exec c s = .next t) : SameQueue s t :=
  (sameQueue_rule s).command.exec routine (SameQueue.refl s) e

/-! ## The commands of power and restart -/

theorem coldStart_pending (cause : StartCause) (s : State) : (coldStart cause s).pending = s.pending := by
  unfold coldStart
  simp only []
  split <;> rfl

theorem coldStart_now (cause : StartCause) (s : State) : (coldStart cause s).now = s.now := by
  unfold coldStart
  simp only []
  split <;> rfl

theorem coldStart_applied (cause : StartCause) (s : State) : (coldStart cause s).applied = State.reset.applied := by
  unfold coldStart
  simp only []
  split <;> rfl

theorem beginWarmRestart_kept {cause : StartCause} {s : State} (h : retainedOk s = true) :
    beginWarmRestart cause s =
      { s with power := .restarting, start := { kind := .warm, cause := cause }, ports := s.ports.map Port.atRestart } := by
  rw [beginWarmRestart, if_pos h]

theorem beginWarmRestart_cold {cause : StartCause} {s : State} (h : retainedOk s = false) :
    beginWarmRestart cause s = coldStart .retainedCheck s := by
  rw [beginWarmRestart, if_neg (by simp [h])]

/-- A warm restart that begins ends in the state with its ports quiet, or in a cold start (R14). -/
theorem beginWarmRestart_cases (cause : StartCause) (s : State) :
    (retainedOk s = true ∧ beginWarmRestart cause s =
      { s with power := .restarting, start := { kind := .warm, cause := cause }, ports := s.ports.map Port.atRestart }) ∨
      (retainedOk s = false ∧ beginWarmRestart cause s = coldStart .retainedCheck s) := by
  cases h : retainedOk s with
  | true => exact .inl ⟨rfl, beginWarmRestart_kept h⟩
  | false => exact .inr ⟨rfl, beginWarmRestart_cold h⟩

/-- What the commands that begin a restart do: nothing, or the begin of a warm restart (R14, R172). -/
theorem startWarmRestart_cases (cause : WarmCause) (s : State) :
    startWarmRestart cause s = s ∨ ∃ why, startWarmRestart cause s = beginWarmRestart why s := by
  cases cause with
  | request =>
    simp only [startWarmRestart]
    split
    · exact .inr ⟨_, rfl⟩
    · exact .inl rfl
  | supervisor =>
    simp only [startWarmRestart, supervisorRestart]
    split
    · exact .inl rfl
    · exact .inr ⟨_, rfl⟩

/-- The work of the end of a warm restart, before the engine (R83, R137, R145). -/
def restartEndWork (s : State) : Work :=
  let w1 := (Work.start (restartedState s)).map (fun t => (List.finRange 24).foldl reenterZone t)
  let w2 := w1.st.allNamedInputs.foldl (fun w i => handInput i w) w1
  (List.finRange 16).foldl (noticeRestarted s) w2

theorem endWarmRestart_eq (s : State) : endWarmRestart s = settled (restartEndWork s) := rfl

theorem keeps_reenterZone (s : State) (z : Fin 24) : Keeps s (reenterZone s z) := by
  unfold reenterZone
  simp only []
  split
  · exact keeps_setZone _ _ _ rfl rfl rfl rfl rfl rfl
  · exact Keeps.refl _

theorem keeps_noticeRestarted (old : State) (w : Work) (c : Fin 16) : Keeps w.st (noticeRestarted old w c).st := by
  unfold noticeRestarted
  split
  · exact keeps_channelNotice _ _
  · exact Keeps.refl _

theorem keeps_restartEndWork (s : State) : Keeps (restartedState s) (restartEndWork s).st := by
  unfold restartEndWork
  dsimp only
  refine Keeps.trans ?_ (keeps_foldl_work _ (keeps_noticeRestarted s) _ _)
  refine Keeps.trans ?_ (keeps_foldl_work _ (fun w i => keeps_handInput i w) _ _)
  rw [Work.map_st]
  exact keeps_foldl reenterZone keeps_reenterZone _ _

theorem keeps_endWarmRestart (s : State) : Keeps (restartedState s) (endWarmRestart s) := by
  rw [endWarmRestart_eq]
  exact (keeps_restartEndWork s).trans (keeps_engineLoop _ _)

end Sys2Proof.Machine
end

/-! # The machine as a whole: every command answers, and what the codes on the speed outputs are (R12, R14, R126, R127) -/

section

namespace Sys2Proof.Machine

/-- No command faults and none is refused. -/
theorem exec_next (c : Instr) (s : State) : ∃ t, exec c s = .next t := by
  cases c <;> exact ⟨_, rfl⟩

/-- A command of power or restart, or a frame boundary, leaves the queue and the clock. -/
theorem exec_keeps_queue_of_not_routine {c : Instr} {s t : State} (h : c.routine = false) (e : exec c s = .next t) :
    t.pending = s.pending ∧ t.now = s.now := by
  have begun (why : StartCause) : (beginWarmRestart why s).pending = s.pending ∧ (beginWarmRestart why s).now = s.now := by
    obtain ⟨-, e⟩ | ⟨-, e⟩ := beginWarmRestart_cases why s
    · rw [e]; exact ⟨rfl, rfl⟩
    · rw [e]; exact ⟨coldStart_pending _ s, coldStart_now _ s⟩
  have started (cause : WarmCause) :
      (startWarmRestart cause s).pending = s.pending ∧ (startWarmRestart cause s).now = s.now := by
    obtain e | ⟨why, e⟩ := startWarmRestart_cases cause s
    · rw [e]; exact ⟨rfl, rfl⟩
    · rw [e]; exact begun why
  cases c with
  | coldStart =>
    obtain rfl := Host.Outcome.next.inj e
    exact ⟨coldStart_pending _ s, coldStart_now _ s⟩
  | powerLoss =>
    obtain rfl := Host.Outcome.next.inj e
    exact ⟨rfl, rfl⟩
  | warmRestartStart cause =>
    obtain rfl := Host.Outcome.next.inj e
    exact started cause
  | supervisor =>
    obtain rfl := Host.Outcome.next.inj e
    exact started .supervisor
  | warmRestartEnd =>
    obtain rfl := Host.Outcome.next.inj e
    split
    · exact ⟨(keeps_endWarmRestart s).pending, (keeps_endWarmRestart s).now⟩
    · exact ⟨rfl, rfl⟩
  | speedFrameBoundary o =>
    obtain rfl := Host.Outcome.next.inj e
    unfold whileRunning
    split <;> exact ⟨rfl, rfl⟩
  | _ => cases h

/-- Settles O2: the rule of the routine commands for the queue and the clock, and the commands of power one by one. -/
theorem everyCommandAnswersNext : Obligations.EveryCommandAnswersNext := by
  intro c s
  obtain ⟨t, e⟩ := exec_next c s
  refine ⟨t, e, ?_⟩
  cases routine : c.routine with
  | true => exact ⟨(sameQueue_exec routine e).pending, (sameQueue_exec routine e).now⟩
  | false =>
    obtain ⟨queue, clock⟩ := exec_keeps_queue_of_not_routine routine e
    exact ⟨queue, clock.ge⟩

/-! ## A part that is not running -/

theorem request_stopped {s : State} (h : s.power ≠ .running) (l : Line) (k : Byte) (take : State → State × Reply) :
    request l k take s = .next s := request_not_taken (fun takes => h takes.1) k take

theorem event_stopped {s : State} (h : s.power ≠ .running) (f : State → State) : event f s = .next s := by
  rw [event, whileRunning_stopped h]

/-- Settles O3: a request is not taken and an event has no effect while the part is not running. -/
theorem nothingIsTakenWhileNotRunning : Obligations.NothingIsTakenWhileNotRunning := by
  intro c s h cold loss warm supervisor warmEnd
  cases c with
  | coldStart => exact absurd rfl cold
  | powerLoss => exact absurd rfl loss
  | warmRestartStart cause => exact absurd rfl (warm cause)
  | supervisor => exact absurd rfl supervisor
  | warmRestartEnd => exact absurd rfl warmEnd
  | poll l => exact request_stopped h _ _ _
  | readSummary l p => exact request_stopped h _ _ _
  | readZone l z p => exact request_stopped h _ _ _
  | readActuator l a => exact request_stopped h _ _ _
  | zoneAlarm p z => exact request_stopped h _ _ _
  | zoneReset p z => exact request_stopped h _ _ _
  | overrideSet a k v => exact request_stopped h _ _ _
  | overrideRelease a => exact request_stopped h _ _ _
  | standDown o => exact request_stopped h _ _ _
  | resume => exact request_stopped h _ _ _
  | faultClear l a => exact request_stopped h _ _ _
  | normalSet a k v => exact request_stopped h _ _ _
  | normalRelease a => exact request_stopped h _ _ _
  | normalGroup body => exact request_stopped h _ _ _
  | testStart z r => exact request_stopped h _ _ _
  | testEnd z => exact request_stopped h _ _ _
  | configRead body => exact request_stopped h _ _ _
  | configWrite body => exact request_stopped h _ _ _
  | configActivateApply sec => exact request_stopped h _ _ _
  | configActivateDiscard sec => exact request_stopped h _ _ _
  | restart => exact request_stopped h _ _ _
  | _ => exact event_stopped h _

/-! ## Duty codes and frames (R126, R127) -/

theorem extensionCount_eq (q : Nat) : extensionCount q = q % 4 := by
  unfold extensionCount baseCount
  omega

theorem highCounts_eq (q i : Nat) :
    highCounts q i = baseCount q + if i ∈ extensionSet (extensionCount q) then 1 else 0 := rfl

/-- The four periods of a frame carry the base count each, and one more in each period of the extension set (R126). -/
theorem highCounts_sum (q : Nat) : highCounts q 1 + highCounts q 2 + highCounts q 3 + highCounts q 4 = q := by
  have lt : extensionCount q < 4 := by rw [extensionCount_eq]; omega
  have whole : 4 * baseCount q + extensionCount q = q := by unfold extensionCount baseCount; omega
  simp only [highCounts_eq]
  generalize baseCount q = b at whole ⊢
  generalize extensionCount q = e at lt whole ⊢
  interval_cases e <;> simp [extensionSet] <;> omega

/-- R126's counts and extension sets, for every duty code. -/
theorem frameCounts (q : Nat) (h : q ≤ 1023) :
    baseCount q = q / 4 ∧ baseCount q ≤ 255 ∧ extensionCount q = q - 4 * baseCount q ∧ extensionCount q ≤ 3 ∧
    highCounts q 1 + highCounts q 2 + highCounts q 3 + highCounts q 4 = q ∧
    (extensionCount q = 0 → ∀ i, highCounts q i = baseCount q) ∧
    (extensionCount q = 1 → highCounts q 2 = baseCount q + 1 ∧ ∀ i, i ≠ 2 → highCounts q i = baseCount q) ∧
    (extensionCount q = 2 → highCounts q 1 = baseCount q + 1 ∧ highCounts q 2 = baseCount q ∧
      highCounts q 3 = baseCount q + 1 ∧ highCounts q 4 = baseCount q) ∧
    (extensionCount q = 3 → highCounts q 1 = baseCount q + 1 ∧ highCounts q 2 = baseCount q + 1 ∧
      highCounts q 3 = baseCount q + 1 ∧ highCounts q 4 = baseCount q) := by
  refine ⟨rfl, ?_, rfl, ?_, highCounts_sum q, ?_, ?_, ?_, ?_⟩
  · unfold baseCount; omega
  · rw [extensionCount_eq]; omega
  · intro e i; simp [highCounts_eq, e, extensionSet]
  · intro e; simp +contextual [highCounts_eq, e, extensionSet]
  · intro e; simp [highCounts_eq, e, extensionSet]
  · intro e; simp [highCounts_eq, e, extensionSet]

/-- The applied code of an output changes at its own frame boundary and at a start that sets it to 0, and at no other command (R12,
R127). -/
theorem exec_applied {c : Instr} {s t : State} {o : Fin 16} (e : exec c s = .next t) (h : c ≠ .speedFrameBoundary o) :
    t.applied[o] = s.applied[o] ∨
      (t.applied[o] = 0 ∧
        (c = .coldStart ∨ c = .powerLoss ∨ c = .supervisor ∨ ∃ cause, c = .warmRestartStart cause)) := by
  have zero : State.reset.applied[o] = 0 := by simp [State.reset]
  have begun (why : StartCause) :
      (beginWarmRestart why s).applied[o] = s.applied[o] ∨ (beginWarmRestart why s).applied[o] = 0 := by
    obtain ⟨-, e⟩ | ⟨-, e⟩ := beginWarmRestart_cases why s
    · rw [e]; exact .inl rfl
    · rw [e, coldStart_applied]; exact .inr zero
  have started (cause : WarmCause) :
      (startWarmRestart cause s).applied[o] = s.applied[o] ∨ (startWarmRestart cause s).applied[o] = 0 := by
    obtain e | ⟨why, e⟩ := startWarmRestart_cases cause s
    · rw [e]; exact .inl rfl
    · rw [e]; exact begun why
  cases routine : c.routine with
  | true => exact .inl (by rw [(sameQueue_exec routine e).applied])
  | false =>
    cases c with
    | coldStart =>
      obtain rfl := Host.Outcome.next.inj e
      exact .inr ⟨by rw [coldStart_applied]; exact zero, .inl rfl⟩
    | powerLoss =>
      obtain rfl := Host.Outcome.next.inj e
      exact .inr ⟨zero, .inr (.inl rfl)⟩
    | warmRestartStart cause =>
      obtain rfl := Host.Outcome.next.inj e
      exact (started cause).imp_right (fun z => ⟨z, .inr (.inr (.inr ⟨cause, rfl⟩))⟩)
    | supervisor =>
      obtain rfl := Host.Outcome.next.inj e
      exact (started .supervisor).imp_right (fun z => ⟨z, .inr (.inr (.inl rfl))⟩)
    | warmRestartEnd =>
      obtain rfl := Host.Outcome.next.inj e
      refine .inl (congrArg (fun codes : Vector Nat 16 => codes[o]) ?_)
      split
      · exact (keeps_endWarmRestart s).applied
      · rfl
    | speedFrameBoundary p =>
      obtain rfl := Host.Outcome.next.inj e
      refine .inl ?_
      have other : p.val ≠ o.val := fun same => h (by rw [Fin.ext same])
      unfold whileRunning takeBoundary
      split
      · simp [other]
      · rfl
    | _ => cases routine

/-- Settles O19: the arithmetic of a frame, the frame boundary's own effect, and the commands that leave the applied codes. -/
theorem everyFrameCarriesQ : Obligations.EveryFrameCarriesQ :=
  ⟨frameCounts, fun _ _ h => event_running h _, fun _ _ _ _ e h => exec_applied e h⟩

end Sys2Proof.Machine
end

/-! # The drives stay sound (R13, R86, R93, R110, R116, R120, R134) -/

section

namespace Sys2Proof.Machine

/-! ## One act of one drive -/

theorem DamperAct.reversing {ctx : DamperCtx} {d : DamperDrive} {act : DamperCtx → DamperDrive → DamperDrive} {n limit : Nat}
    (h : DamperAct d act) (k : ctx.kind = .reversing n limit) (sound : ReversingSound d) : ReversingSound (act ctx d) := by
  cases h with
  | target side => exact damperTarget_reversing side k sound
  | input side r => exact switchChanged_reversing side r sound
  | faultClear => exact damperFaultClear_reversing k sound
  | supplyLow => exact damperSupplyLow_reversing k sound
  | supplyOk => exact damperSupplyOk_reversing k sound
  | travel => exact travelExpiry_reversing sound
  | deadTime run => exact deadTimeEnd_reversing k sound run
  | cooldown run => exact cooldownEnd_reversing k sound run
  | disagree => exact disagreeEnd_reversing sound
  | left => exact leftEnd_reversing sound

theorem DamperAct.spring {ctx : DamperCtx} {d : DamperDrive} {act : DamperCtx → DamperDrive → DamperDrive} {fail : Side}
    (h : DamperAct d act) (k : ctx.kind = .spring fail) (sound : SpringSound fail d) : SpringSound fail (act ctx d) := by
  cases h with
  | target side => exact damperTarget_spring side k sound
  | input side r => exact switchChanged_spring side r sound
  | faultClear => exact damperFaultClear_spring k sound
  | supplyLow => exact damperSupplyLow_spring k sound
  | supplyOk => exact damperSupplyOk_spring k sound
  | travel => exact travelExpiry_spring sound
  | deadTime => exact (pausesEnd_spring k sound).1
  | cooldown => exact (pausesEnd_spring k sound).2
  | disagree => exact disagreeEnd_spring sound
  | left => exact leftEnd_spring sound

theorem FanAct.sound {ctx : FanCtx} {f : FanDrive} {act : FanCtx → FanDrive → FanDrive} (h : FanAct f act)
    (sound : FanSound ctx.definition f) : FanSound ctx.definition (act ctx f) := by
  cases h with
  | target c => exact fanTarget_sound c sound
  | input r => exact fanInput_sound r sound
  | channel => exact fanChannel_sound sound
  | faultClear => exact fanFaultClear_sound sound
  | startProof run => exact startProofEnd_sound sound run
  | stopProof run => exact stopProofEnd_sound sound run
  | runLoss run => exact runLossEnd_sound sound run
  | restartDelay run => exact restartDelayEnd_sound sound run
  | ramp run => exact fanRamp_sound sound run

/-! ## What a drive sees of its record -/

/-- A damper's context is of its record: a reversing record's kind, or a spring record's. -/
theorem damperCtx_record {s : State} {a : Fin 64} {ctx : DamperCtx} (h : s.damperCtx a = some ctx) :
    (∃ r, s.record a = .reversing r ∧ ctx.kind = .reversing (tenthsToMs r.deadTime) r.reversalLimit) ∨
      ∃ r, s.record a = .spring r ∧ ctx.kind = .spring r.failPosition := by
  unfold State.damperCtx at h
  split at h
  · rename_i r e
    obtain rfl := Option.some.inj h
    exact .inl ⟨r, e, rfl⟩
  · rename_i r e
    obtain rfl := Option.some.inj h
    exact .inr ⟨r, e, rfl⟩
  · cases h
  · cases h

theorem fanCtx_record {s : State} {a : Fin 64} {ctx : FanCtx} (h : s.fanCtx a = some ctx) :
    s.record a = .fan ctx.definition := by
  unfold State.fanCtx at h
  split at h
  · rename_i e
    obtain rfl := Option.some.inj h
    exact e
  · cases h
  · cases h
  · cases h

theorem driveSound_damper_act {s : State} {a : Fin 64} {d : DamperDrive} {ctx : DamperCtx}
    {act : DamperCtx → DamperDrive → DamperDrive} (h : DriveSound (s.record a) (.damper d)) (hc : s.damperCtx a = some ctx)
    (k : DamperAct d act) : DriveSound (s.record a) (.damper (damperFinish ctx d (act ctx d))) := by
  obtain ⟨r, e, kind⟩ | ⟨r, e, kind⟩ := damperCtx_record hc <;> rw [e] at h ⊢
  · exact damperFinish_reversing d (k.reversing kind h)
  · exact damperFinish_spring d (k.spring kind h)

theorem driveSound_fan_act {s : State} {a : Fin 64} {f : FanDrive} {ctx : FanCtx} {act : FanCtx → FanDrive → FanDrive}
    (h : DriveSound (s.record a) (.fan f)) (hc : s.fanCtx a = some ctx) (k : FanAct f act) :
    DriveSound (s.record a) (.fan (act ctx f)) := by
  rw [fanCtx_record hc] at h ⊢
  exact k.sound h

theorem driveSound_none (r : ActuatorDef) : DriveSound r .none := by
  cases r <;> trivial

/-- A new drive is sound for its record (R107, R130). -/
theorem driveSound_fresh (s : State) (since : Option Nat) (a : Fin 64) :
    DriveSound (s.record a) (s.freshDrive since a) := by
  unfold State.freshDrive
  split
  · rename_i ctx rest hc _
    obtain ⟨r, e, kind⟩ | ⟨r, e, kind⟩ := damperCtx_record hc <;> rw [e]
    · exact createDamper_reversing kind rest _ since
    · exact createDamper_spring kind rest _ since
  · split
    · rename_i ctx hc
      rw [fanCtx_record hc]
      exact createFan_sound
    · exact driveSound_none _

/-- A drive at the end of a warm restart is sound for its record (R108, R131). -/
theorem driveSound_restarted {s : State} {a : Fin 64} (h : DriveSound (s.record a) (s.drive a)) :
    DriveSound (s.record a) (restartedDrive s a) := by
  unfold restartedDrive
  split
  · rename_i d ctx _ hd hc
    rw [hd] at h
    obtain ⟨r, e, kind⟩ | ⟨r, e, kind⟩ := damperCtx_record hc <;> rw [e] at h ⊢
    · exact damperRestarted_reversing kind h
    · exact damperRestarted_spring h
  · rename_i f ctx hf hc
    rw [hf] at h
    rw [fanCtx_record hc] at h ⊢
    exact fanRestarted_sound h
  · exact h

/-! ## All the drives -/

/-- The filter counts are those of the PLANT image in force (R134). -/
theorem filterCount_of_filters {s : State} (h : s.filters = s.plant.filters) (i : Fin 128) :
    s.filterCount i = s.plant.filterCount i := by
  rw [State.filterCount, h]
  simp [PlantImage.filters]

/-- The soundness of the drives reads the definitions, the drives, the filter counts and the store. -/
theorem DrivesSound.congr {s t : State} (h : DrivesSound s) (hp : t.plant = s.plant) (hd : t.drives = s.drives)
    (hf : t.filters = s.filters) (hc : t.configFault = s.configFault)
    (ha : t.store.plant.activation = .pending → s.store.plant.activation = .pending) : DrivesSound t := by
  obtain ⟨sound, fault, filters⟩ := h
  have drive (a : Fin 64) : t.drive a = s.drive a := by simp only [State.drive, hd]
  have record (a : Fin 64) : t.record a = s.record a := by simp only [State.record, hp]
  refine ⟨fun a => ?_, fun e => ⟨fun a => ?_, fun pending => ?_⟩, fun e i => ?_⟩
  · rw [drive, record]; exact sound a
  · rw [drive]; exact (fault (hc.symm.trans e)).1 a
  · exact (fault (hc.symm.trans e)).2 (ha pending)
  · simp only [State.filterCount, hf, hp]
    exact filters (hc.symm.trans e) i

theorem DrivesSound.setDrive {s : State} {a : Fin 64} {d : Drive} (h : DrivesSound s) (hd : DriveSound (s.record a) d)
    (present : s.drive a ≠ .none) : DrivesSound (s.setDrive a d) := by
  obtain ⟨sound, fault, filters⟩ := h
  refine ⟨fun b => ?_, fun e => absurd ((fault e).1 a) present, filters⟩
  by_cases e : b = a
  · subst e
    rw [State.setDrive_drive_same]
    exact hd
  · rw [State.setDrive_drive_other s d e]
    exact sound b

theorem drivesSound_work : WorkRule DrivesSound where
  light _ _ h l := h.congr l.plant l.drives l.filters l.configFault (by rw [l.store]; exact id)
  damper s a d ctx act h hd hc k := by
    refine h.setDrive (driveSound_damper_act ?_ hc k) (by rw [hd]; simp)
    have := h.1 a
    rwa [hd] at this
  fan s a f ctx act h hf hc k := by
    refine h.setDrive (driveSound_fan_act ?_ hc k) (by rw [hf]; simp)
    have := h.1 a
    rwa [hf] at this

/-- With the definitions replaced outside CONFIG-FAULT, a changed record's drive is new and any other is as it was (R11). -/
theorem drivesSound_replant {p : PlantImage} {s : State} (h : DrivesSound s) (hc : s.configFault = false) :
    DrivesSound (replant p s s) := by
  have filters : (replant p s s).filters = (replant p s s).plant.filters := by simp only [replant, underPlant]
  have fault : (replant p s s).configFault = s.configFault := by simp only [replant, underPlant]
  refine ⟨fun a => ?_, fun e => absurd (hc.symm.trans (fault.symm.trans e)) (by simp), fun _ => filterCount_of_filters filters⟩
  have record : (replant p s s).record a = (underPlant p s).record a := by simp only [replant, State.record]
  have drive : (replant p s s).drive a =
      if s.record a = (underPlant p s).record a then s.drive a
      else (underPlant p s).freshDrive (some (underPlant p s).now) a := by
    simp [replant, State.drive, appliedDrives]
  rw [record, drive]
  split
  · rename_i same
    rw [← same]
    exact h.1 a
  · exact driveSound_fresh _ _ _

theorem drivesSound_applySector {sec : Sector} {w : Work} (h : DrivesSound w.st) (hc : w.st.configFault = false) :
    DrivesSound (applySector sec w).st := by
  cases sec with
  | identity => exact h
  | sequences => exact h.congr rfl rfl rfl rfl id
  | plant =>
    exact drivesSound_work.applyPlant (drivesSound_replant (h.congr rfl rfl rfl rfl (by rintro ⟨⟩)) hc)

/-- In CONFIG-FAULT no PLANT image is PENDING, and a SEQUENCES image is of no drive. -/
theorem drivesSound_applyIfPending (sec : Sector) {w : Work} (h : DrivesSound w.st) :
    DrivesSound (applyIfPending sec w).st := by
  unfold applyIfPending
  split
  · rename_i pending
    cases fault : w.st.configFault with
    | false => exact drivesSound_applySector h fault
    | true =>
      cases sec with
      | identity => exact h
      | sequences => exact h.congr rfl rfl rfl rfl id
      | plant => exact absurd pending (h.2.1 fault).2
  · exact h

/-- In CONFIG-FAULT there is no drive, so any definitions may follow the marks there (R13). -/
theorem drivesSound_fault {s : State} (hc : s.configFault = true) (hd : ∀ a, s.drive a = .none)
    (ha : s.store.plant.activation ≠ .pending) : DrivesSound s :=
  ⟨fun a => by rw [hd]; exact driveSound_none _, fun _ => ⟨hd, ha⟩, fun e => absurd (hc.symm.trans e) (by simp)⟩

/-- New drives for the records in force, with the filter counts that the image gives, are sound (R12). -/
theorem drivesSound_fresh {s t : State} {since : Option Nat} (hc : t.configFault = false) (hf : t.filters = t.plant.filters)
    (hp : t.plant = s.plant) (hd : t.drives = s.freshDrives since) : DrivesSound t := by
  refine ⟨fun a => ?_, fun e => absurd (hc.symm.trans e) (by simp), fun _ => filterCount_of_filters hf⟩
  have drive : t.drive a = s.freshDrive since a := by simp [State.drive, hd, State.freshDrives]
  have record : t.record a = s.record a := by simp only [State.record, hp]
  rw [drive, record]
  exact driveSound_fresh s since a

/-! ## The store's requests and a write's completion -/

/-- No update of a sector but the one of a PENDING write leaves PLANT PENDING anew. -/
theorem plant_activation_setSector {st : Store} {sec : Sector} {x : SectorState}
    (hx : x.activation = .pending → (st.sector sec).activation = .pending)
    (h : (st.setSector sec x).plant.activation = .pending) : st.plant.activation = .pending := by
  cases sec with
  | identity => exact h
  | sequences => exact h
  | plant => exact hx h

theorem drivesSound_setSector {s : State} {sec : Sector} {x : SectorState} (h : DrivesSound s)
    (hx : x.activation = .pending → (s.store.sector sec).activation = .pending) :
    DrivesSound { s with store := s.store.setSector sec x } :=
  h.congr rfl rfl rfl rfl (plant_activation_setSector hx)

theorem drivesSound_followMarks {s : State} (h : DrivesSound s) (hc : s.configFault = true) : DrivesSound (followMarks s) :=
  drivesSound_fault (s := followMarks s) hc (h.2.1 hc).1 (h.2.1 hc).2

theorem drivesSound_startWrite {s : State} (sec : Sector) (img : Image) (h : DrivesSound s) :
    DrivesSound (startWrite sec img s) := by
  have begun : DrivesSound { s with store := s.store.setSector sec ((s.store.sector sec).beginWrite img) } :=
    drivesSound_setSector h (by rintro ⟨⟩)
  unfold startWrite
  simp only []
  split
  · rename_i fault
    simp only [Bool.and_eq_true] at fault
    exact drivesSound_followMarks begun fault.1
  · exact begun

theorem drivesSound_written {s : State} (sec : Sector) (h : DrivesSound s) : DrivesSound (written sec s) :=
  drivesSound_setSector h (by rintro ⟨⟩)

/-- The part at the end of CONFIG-FAULT before its drives are created: both stored images are in force (R13, R189). -/
def faultEnded (s : State) : State :=
  let p := plantOf s.store.plant.stored
  let s1 := ((s.setActivation .identity .none).setActivation .plant .none).setActivation .sequences .none
  { s1 with
    configFault := false
    plant := p
    filters := p.filters
    sequences := sequencesOf s.store.sequences.stored
    lists := emptyLists p
    channels := Vector.ofFn (fun c : Fin 16 => channelAtFaultEnd p.scalings[c] s.channels[c]) }

theorem endConfigFault_eq (s : State) :
    endConfigFault s = { faultEnded s with drives := (faultEnded s).freshDrives none } := rfl

theorem drivesSound_endConfigFault (s : State) : DrivesSound (endConfigFault s) := by
  rw [endConfigFault_eq]
  refine drivesSound_fresh (s := faultEnded s) (since := none) ?_ ?_ ?_ ?_ <;> simp only [faultEnded]

theorem drivesSound_completeWrite {s : State} (h : DrivesSound s) : DrivesSound (completeWrite s) := by
  obtain e | ⟨-, e⟩ | ⟨sec, -, -, ⟨-, e⟩ | ⟨fault, e⟩ | ⟨fault, -, e⟩ | ⟨fault, e⟩⟩ := completeWrite_cases s
  · rwa [e]
  · rw [e]
    exact (drivesSound_written .identity h).congr rfl rfl rfl rfl id
  · rw [e]
    exact drivesSound_endConfigFault _
  · rw [e]
    have stored := drivesSound_written sec h
    refine drivesSound_followMarks (s := (written sec s).setActivation sec .none) ?_ fault
    exact drivesSound_setSector stored (by rintro ⟨⟩)
  · rw [e]
    exact drivesSound_applySector (w := Work.start (written sec s)) (drivesSound_written sec h) fault
  · rw [e]
    have stored := drivesSound_written sec h
    refine ⟨stored.1, fun e => absurd (fault.symm.trans e) (by simp), stored.2.2⟩

theorem drivesSound_rule : StateRule DrivesSound DrivesSound DrivesSound where
  toWorkRule := drivesSound_work
  ports _ _ _ h _ := h
  begins _ h := h
  ends _ h := h
  quiet _ _ _ h := h
  apply _ h _ := drivesSound_applyIfPending .sequences (drivesSound_applyIfPending .plant h)
  configWrite body s h := by
    obtain e | ⟨sec, _, e⟩ := takeConfigWrite_cases body s
    · rwa [e]
    · rw [e]; exact drivesSound_setSector h id
  configActivate body s h := by
    obtain e | ⟨sec, _, e⟩ | ⟨sec, img, -, -, e⟩ := takeConfigActivate_cases body s
    · rwa [e]
    · rw [e]; exact drivesSound_setSector h id
    · rw [e]; exact drivesSound_startWrite sec _ h
  write _ h := drivesSound_completeWrite h

/-! ## Power and restart -/

theorem drive_reset (a : Fin 64) : State.reset.drive a = .none := by
  simp [State.reset, State.drive]

theorem loadedState_filters (cause : StartCause) (s : State) :
    (loadedState cause s).filters = (loadedState cause s).plant.filters := rfl

theorem drivesSound_coldStart (cause : StartCause) (s : State) : DrivesSound (coldStart cause s) := by
  unfold coldStart
  simp only []
  split
  · exact drivesSound_fresh (s := loadedState cause s) (since := none) rfl (loadedState_filters cause s) rfl rfl
  · exact drivesSound_fault rfl drive_reset (by simp [loadedState, loseWorking, Store.losePower, SectorState.losePower])

theorem filterCount_reset (i : Fin 128) : State.reset.filterCount i = State.reset.plant.filterCount i := by
  have unnamed : State.reset.plant.namingRecord i = none := by
    simp [PlantImage.namingRecord, State.reset, namedInputs]
  rw [PlantImage.filterCount, unnamed]
  simp [State.filterCount, State.reset]

theorem drivesSound_losePower (s : State) : DrivesSound (losePower s) := by
  refine ⟨fun a => ?_, (by rintro ⟨⟩), fun _ => filterCount_reset⟩
  have drive : (losePower s).drive a = .none := drive_reset a
  rw [drive]
  exact driveSound_none _

theorem drivesSound_beginWarmRestart {cause : StartCause} {s : State} (h : DrivesSound s) :
    DrivesSound (beginWarmRestart cause s) := by
  obtain ⟨-, e⟩ | ⟨-, e⟩ := beginWarmRestart_cases cause s
  · rw [e]; exact h
  · rw [e]; exact drivesSound_coldStart _ s

theorem drivesSound_startWarmRestart {cause : WarmCause} {s : State} (h : DrivesSound s) :
    DrivesSound (startWarmRestart cause s) := by
  obtain e | ⟨why, e⟩ := startWarmRestart_cases cause s
  · rwa [e]
  · rw [e]; exact drivesSound_beginWarmRestart h

/-- The part at the end of a warm restart before its drives are restarted (R15, R137, R138, R145, R149, R175). -/
def scanEmptied (s : State) : State :=
  { s with
    power := .running
    inputs := Vector.replicate 128 inputAtReset
    key := inputAtReset
    channels := Vector.ofFn (fun c : Fin 16 => judgeChannel s.plant.scalings[c] channelAtReset)
    scan := 0
    supply := { s.supply with count := 0 }
    ports := s.ports.map Port.atRestartEnd }

theorem restartedState_eq (s : State) :
    restartedState s = { scanEmptied s with drives := Vector.ofFn (restartedDrive (scanEmptied s)) } := rfl

theorem restartedState_drive (s : State) (a : Fin 64) :
    (restartedState s).drive a = restartedDrive (scanEmptied s) a := by
  simp [restartedState_eq, State.drive]

/-- A warm restart makes no drive where there was none. -/
theorem restartedDrive_none {s : State} {a : Fin 64} (h : s.drive a = .none) : restartedDrive s a = .none := by
  simp [restartedDrive, h]

theorem scanEmptied_record (s : State) (a : Fin 64) : (scanEmptied s).record a = s.record a := by
  simp only [scanEmptied, State.record]

theorem scanEmptied_drive (s : State) (a : Fin 64) : (scanEmptied s).drive a = s.drive a := by
  simp only [scanEmptied, State.drive]

theorem restartedState_record (s : State) (a : Fin 64) : (restartedState s).record a = s.record a := by
  simp only [restartedState, State.record]

theorem drivesSound_restartedState {s : State} (h : DrivesSound s) : DrivesSound (restartedState s) := by
  obtain ⟨sound, fault, filters⟩ := h
  refine ⟨fun a => ?_, fun e => ⟨fun a => ?_, (fault e).2⟩, filters⟩
  · rw [restartedState_drive, restartedState_record, ← scanEmptied_record]
    exact driveSound_restarted (by rw [scanEmptied_record, scanEmptied_drive]; exact sound a)
  · rw [restartedState_drive]
    exact restartedDrive_none (by rw [scanEmptied_drive]; exact (fault e).1 a)

theorem drivesSound_reenterZone (z : Fin 24) {s : State} (h : DrivesSound s) : DrivesSound (reenterZone s z) := by
  unfold reenterZone
  simp only []
  split
  · exact h
  · exact h

theorem drivesSound_endWarmRestart {s : State} (h : DrivesSound s) : DrivesSound (endWarmRestart s) := by
  rw [endWarmRestart_eq]
  refine drivesSound_work.engineLoop _ ?_
  unfold restartEndWork
  dsimp only
  refine foldl_work_keeps _ (fun w c hw => ?_) _ (foldl_work_keeps _ (fun _ i => drivesSound_work.handInput i) _ ?_)
  · unfold noticeRestarted
    split
    · exact drivesSound_work.channelNotice c hw
    · exact hw
  · rw [Work.map_st]
    exact foldl_keeps _ (fun _ z => drivesSound_reenterZone z) _ (drivesSound_restartedState h)

theorem drivesSound_exec {c : Instr} {s t : State} (h : DrivesSound s) (e : exec c s = .next t) : DrivesSound t := by
  cases routine : c.routine with
  | true => exact drivesSound_rule.command.exec routine h e
  | false =>
    cases c with
    | coldStart =>
      obtain rfl := Host.Outcome.next.inj e
      exact drivesSound_coldStart _ s
    | powerLoss =>
      obtain rfl := Host.Outcome.next.inj e
      exact drivesSound_losePower s
    | warmRestartStart cause =>
      obtain rfl := Host.Outcome.next.inj e
      exact drivesSound_startWarmRestart h
    | supervisor =>
      obtain rfl := Host.Outcome.next.inj e
      exact drivesSound_startWarmRestart (cause := .supervisor) h
    | warmRestartEnd =>
      obtain rfl := Host.Outcome.next.inj e
      split
      · exact drivesSound_endWarmRestart h
      · exact h
    | speedFrameBoundary o =>
      obtain rfl := Host.Outcome.next.inj e
      unfold whileRunning
      split
      · exact h
      · exact h
    | _ => cases routine

/-- An invariant that is blind to the queue and the clock holds after a step where it holds after every command. -/
theorem step_keeps {P : State → Prop} {s t : State} (h : P s) (e : step s = .next t)
    (tick : ∀ s, P s → P s.tick) (queue : ∀ s cs, P s → P { s with pending := cs })
    (command : ∀ c s t, P s → exec c s = .next t → P t) : P t := by
  unfold step at e
  split at e
  · obtain rfl := Host.Outcome.next.inj e
    exact tick s h
  · exact command _ _ t (queue s _ h) e

/-- Settles O7: the rule of the routine commands for the drives' soundness, and the commands of power one by one. -/
theorem drivesStaySound : Obligations.DrivesStaySound :=
  fun _ _ h e => step_keeps h e (fun _ h => h) (fun _ _ h => h) (fun _ _ _ => drivesSound_exec)

end Sys2Proof.Machine
end

/-! # Answers as frames, and the restart that follows one (R14, R164, R165, R169, R172, R190) -/

section

namespace Sys2Proof.Machine

/-! ## The layout of an answer's items -/

/-- What stands before some items is laid out before them. -/
theorem layOut_append (body : AnswerBody) (xs ys : List Item) (place room : Nat) :
    ∃ free place' room', layOut body place room (xs ++ ys) = free ++ layOut body place' room' ys := by
  induction xs generalizing place room with
  | nil => exact ⟨[], place, room, rfl⟩
  | cons item xs ih =>
    cases item with
    | coded bytes =>
      obtain ⟨free, place', room', e⟩ := ih place room
      exact ⟨bytes ++ free, place', room', by rw [List.cons_append, layOut, e, List.append_assoc]⟩
    | uncoded =>
      obtain ⟨free, place', room', e⟩ := ih (place + 1) (room - min (Config.answerItemCount body place) room)
      refine ⟨(List.range (min (Config.answerItemCount body place) room)).map (Config.answerItemByte body place) ++ free,
        place', room', ?_⟩
      rw [List.cons_append, layOut, e, List.append_assoc]

theorem layOut_coded (body : AnswerBody) (place room : Nat) (bytes : List Byte) :
    layOut body place room [.coded bytes] = bytes := by simp [layOut]

theorem layOut_free_coded (body : AnswerBody) (place room : Nat) (bytes : List Byte) :
    ∃ free, layOut body place room [.uncoded, .coded bytes] = free ++ bytes := by
  obtain ⟨free, _, _, e⟩ := layOut_append body [.uncoded] [.coded bytes] place room
  rw [layOut_coded] at e
  exact ⟨free, e⟩

theorem codedOf_append (xs ys : List Item) : codedOf (xs ++ ys) = codedOf xs ++ codedOf ys := List.flatMap_append

/-- A target's items begin with its command's code, and a RUN's are its code and speed (R168). -/
theorem carriesTarget_layOut (target : Option Command) (body : AnswerBody) (place room : Nat) :
    CarriesTarget target (layOut body place room (targetItems target)) := by
  cases target with
  | none => trivial
  | some c =>
    cases c with
    | openPos => exact ⟨_, rfl⟩
    | closedPos => exact ⟨_, rfl⟩
    | off => exact ⟨_, rfl⟩
    | run v => simp [CarriesTarget, targetItems, commandItems, layOut, twoByteField]

theorem targetItems_coded_length (target : Option Command) : (codedOf (targetItems target)).length ≤ 3 := by
  cases target with
  | none => simp [targetItems]
  | some c => cases c <;> simp [targetItems, commandItems, twoByteField]

/-! ## The items of an answer -/

theorem coded_sublist_itemBytes {body : AnswerBody} (h : (codedBytes body).length ≤ 119) :
    (codedBytes body).Sublist (itemBytes body) := by
  rw [itemBytes_eq body h, codedBytes_eq]
  exact codedOf_sublist _ _ _ _

theorem itemBytes_target (target : Option Command) : CarriesTarget target (itemBytes (.target target)) := by
  have coded := targetItems_coded_length target
  rw [itemBytes_eq (.target target) (by rw [codedBytes_eq, answerItems, itemRoom]; omega)]
  exact carriesTarget_layOut target _ _ _

theorem itemBytes_normalSet (p : Placement) (target : Option Command) :
    ∃ free x, itemBytes (.normalSet p target) = free ++ x ∧ CarriesTarget target x := by
  have coded := targetItems_coded_length target
  rw [itemBytes_eq (.normalSet p target) (by rw [codedBytes_eq, answerItems, codedOf_uncoded, itemRoom]; omega)]
  exact ⟨_, _, rfl, carriesTarget_layOut target _ _ _⟩

theorem itemBytes_overrideSet (p : Placement) (shed : Option Source) (target : Option Command) :
    ∃ free x, itemBytes (.overrideSet p shed target) = free ++ x ∧ CarriesTarget target x := by
  have coded := targetItems_coded_length target
  have source : (codedOf ((shed.map sourceItems).getD [])).length ≤ 1 := by
    cases shed with
    | none => simp
    | some src => cases src <;> simp [sourceItems, byteItem]
  rw [itemBytes_eq (.overrideSet p shed target)
    (by simp only [codedBytes_eq, answerItems, codedOf_uncoded, codedOf_append, List.length_append, List.cons_append, itemRoom]
        omega)]
  obtain ⟨free, place, room, e⟩ :=
    layOut_append (.overrideSet p shed target) (.uncoded :: ((shed.map sourceItems).getD []) ++ [.uncoded]) (targetItems target)
      0 (itemRoom - (codedBytes (.overrideSet p shed target)).length)
  refine ⟨free, _, ?_, carriesTarget_layOut target (.overrideSet p shed target) place room⟩
  rw [← e, answerItems]
  simp only [List.cons_append, List.append_assoc, List.nil_append]

theorem itemBytes_standDown (set : Bool) (option : Option StandDownOption) (held : Nat) :
    ∃ free x, itemBytes (.standDown set option held) = free ++ (x ++ [BitVec.ofNat 8 held]) ∧
      (option = some .resumeOnly → x = [0x01]) ∧ (option = some .resumeOnNewAlarm → x = [0x02]) := by
  rw [itemBytes_eq (.standDown set option held)
    (by cases option <;> simp [codedBytes_eq, answerItems, optionalItem, byteItem, itemRoom])]
  cases option with
  | none => exact ⟨_, _, rfl, by simp, by simp⟩
  | some o => exact ⟨_, [o.code], rfl, (fun h => by obtain rfl := Option.some.inj h; rfl),
      fun h => by obtain rfl := Option.some.inj h; rfl⟩

theorem itemBytes_fanPart (state : RunState) (fault : Option FanFault) (attempts : Nat) :
    ∃ free, itemBytes (.fanPart state fault attempts) = free ++ [BitVec.ofNat 8 attempts] := by
  rw [itemBytes_eq (.fanPart state fault attempts) (by simp [codedBytes, answerItems, byteItem, itemRoom])]
  exact layOut_free_coded _ _ _ _

theorem itemBytes_configRead {valid : Bool} {act : Activation} {bytes : List Byte} (h : bytes.length ≤ 119) :
    ∃ free, itemBytes (.configRead valid act bytes) = free ++ bytes := by
  rw [itemBytes_eq (.configRead valid act bytes) (by simpa [codedBytes, answerItems, itemRoom] using h)]
  exact layOut_free_coded _ _ _ _

/-- An answer of one coded part and nothing else is laid out as that part. -/
theorem itemBytes_coded {body : AnswerBody} {bytes : List Byte} (h : answerItems body = [.coded bytes])
    (fits : bytes.length ≤ itemRoom) : itemBytes body = bytes := by
  rw [itemBytes_eq body (by simpa [codedBytes, h] using fits), h]
  exact layOut_coded _ _ _ _

theorem itemBytes_writing (sec : Sector) : ∃ free, itemBytes (.writing sec) = sec.code :: free := by
  rw [itemBytes_eq (.writing sec) (by simp [codedBytes, answerItems, itemRoom])]
  exact ⟨_, rfl⟩

/-! ## The frame of an answer -/

/-- The CRC's two bytes, high byte first. -/
theorem twoByteField_toNat (h : BitVec 16) : twoByteField h.toNat = [(h >>> 8).setWidth 8, h.setWidth 8] := by
  simp only [twoByteField, List.cons.injEq, and_true]
  constructor <;> apply BitVec.eq_of_toNat_eq <;> simp [Nat.shiftRight_eq_div_pow]

theorem itemBytes_length_lt (a : Answer) : (BitVec.ofNat 8 (answerBodyBytes a).length).toNat = (itemBytes a.body).length + 1 := by
  have fits := itemBytes_length a.body
  simp only [itemRoom] at fits
  rw [answerBodyBytes, List.length_cons, BitVec.toNat_ofNat]
  omega

/-- The frame that a port builds carries its answer (R164, R168, R169, R190). -/
theorem answerFrame_carries (line : Line) (a : Answer) : FrameCarries line a (answerFrame line a) := by
  refine ⟨BitVec.ofNat 8 (answerBodyBytes a).length, a.result.code, itemBytes a.body, ?_, itemBytes_length_lt a,
    itemBytes_length a.body, ?_, ?_⟩
  · rw [answerFrame, twoByteField_toNat]
    rfl
  · cases a.result <;> rfl
  · obtain ⟨kind, result, body⟩ := a
    cases body with
    | plain => exact rfl
    | target target => exact itemBytes_target target
    | normalSet p target => exact itemBytes_normalSet p target
    | overrideSet p shed target => exact itemBytes_overrideSet p shed target
    | standDown set option held => exact itemBytes_standDown set option held
    | fanPart state fault attempts => exact itemBytes_fanPart state fault attempts
    | configRead valid act bytes => exact fun h => itemBytes_configRead h
    | writing sec => cases sec <;> exact itemBytes_writing _
    | failingPair i => exact itemBytes_coded rfl (by simp [itemRoom])
    | released n => exact itemBytes_coded rfl (by simp [itemRoom])
    | configWrite sec offset length => cases sec <;> exact itemBytes_coded rfl (by simp [itemRoom])
    | invalid item reason => cases reason <;> exact itemBytes_coded rfl (by simp [itemRoom])
    | _ => exact coded_sublist_itemBytes

/-! ## RESTART and the answer's end -/

theorem takeRestart_eq (s : State) :
    takeRestart s = (s, { result := if s.key.debounced = .on then .done else .refusedKey, body := .plain }) := by
  unfold takeRestart State.keyOn
  by_cases h : s.key.debounced = .on <;> simp [h, refuse, Reply.bare]

theorem restartFollows_iff (x : Option Answer) :
    restartFollows x = true ↔ ∃ body, x = some { kind := 0x43, result := .done, body := body } := by
  cases x with
  | none => simp [restartFollows]
  | some a =>
    obtain ⟨kind, result, body⟩ := a
    simp only [restartFollows, Bool.and_eq_true, beq_iff_eq, Option.some.injEq, Answer.mk.injEq]
    exact ⟨fun ⟨k, r⟩ => ⟨body, k, r, rfl⟩, fun ⟨_, k, r, _⟩ => ⟨k, r⟩⟩

theorem beginAnswer_taking {l : Line} {s : State} (h : (s.port l).reception = .taking) :
    beginAnswer l s = (s.reach ((s.port l).takenAt + answerLead)).setPort l
      { s.port l with reception := .answering, sending := (s.port l).answerBytes l } := by
  simp only [beginAnswer, if_pos h]

theorem beginAnswer_other {l : Line} {s : State} (h : (s.port l).reception ≠ .taking) : beginAnswer l s = s := by
  simp only [beginAnswer, if_neg h]

/-- The port after its answer's last byte (R165). -/
def Port.answered (now : Nat) (p : Port) : Port := { p.discard now with answer := none, sending := [] }

theorem endAnswer_answering {l : Line} {s : State} (h : (s.port l).reception = .answering) :
    endAnswer l s = { s.setPort l ((s.port l).answered s.now) with
      power := if restartFollows (s.port l).answer then .restartDue else s.power } := by
  simp only [endAnswer, if_pos h]
  split <;> rfl

theorem endAnswer_other {l : Line} {s : State} (h : (s.port l).reception ≠ .answering) : endAnswer l s = s := by
  simp only [endAnswer, if_neg h]

/-- Settles O45: the frame built at the answer's begin carries it, and the answer's end makes the restart due after a RESTART. -/
theorem theRestartFollowsItsAnswer : Obligations.TheRestartFollowsItsAnswer := by
  refine ⟨fun s h => ?_, fun l s run => ⟨fun taking => ?_, fun h => ?_, fun h => ?_, fun answering => ?_⟩⟩
  · refine (request_taken h _ _).trans ?_
    rw [answered, takeRestart_eq]
  · refine ⟨(s.port l).answerBytes l, ?_, fun a e => ?_⟩
    · exact (event_running run _).trans (congrArg _ (beginAnswer_taking taking))
    · rw [Port.answerBytes, e]
      exact answerFrame_carries l a
  · exact (event_running run _).trans (congrArg _ (beginAnswer_other h))
  · exact (event_running run _).trans (congrArg _ (endAnswer_other h))
  · refine ⟨_, (event_running run _).trans (congrArg _ (endAnswer_answering answering)), rfl, ?_, ?_⟩
    · rw [← restartFollows_iff]
      cases restartFollows (s.port l).answer <;> simp [run]
    · cases restartFollows (s.port l).answer <;> simp [run]

end Sys2Proof.Machine
end
/-! # How a drive is created and takes a target (R29, R87, R88, R93, R107, R113, R118, R123, R130) -/

section

namespace Sys2Proof.Machine

/-! ## A damper drive -/

/-- The end of an event judges the position and the timers of R96 and R100, and leaves the movement of the drive. -/
theorem damperFinish_eq (ctx : DamperCtx) (before d : DamperDrive) :
    ∃ timer leftFrom, damperFinish ctx before d =
      { d with
        position := judgePosition ctx d, keptPosition := d.keptPosition && ctx.anyUnknown,
        leftTimer := timer, leftFrom := leftFrom } := by
  unfold damperFinish judgeLeft
  split
  · exact ⟨_, _, rfl⟩
  · split
    · exact ⟨_, _, rfl⟩
    · exact ⟨_, _, rfl⟩

theorem judgePosition_driving {ctx : DamperCtx} {d : DamperDrive} {side : Side} (h : d.state = side.driving) :
    judgePosition ctx d = .moving := by
  cases side <;> simp [judgePosition, h, Side.driving, drivingSide]

/-- A movement that starts is still that movement at the end of the event (R85, R86, R95). -/
theorem startsToward_finish (ctx : DamperCtx) (side : Side) (ms : Nat) (before d : DamperDrive) :
    StartsToward ctx side ms (damperFinish ctx before (driveFor ctx side ms d)) := by
  obtain ⟨timer, leftFrom, h⟩ := damperFinish_eq ctx before (driveFor ctx side ms d)
  have moving : judgePosition ctx (driveFor ctx side ms d) = .moving := judgePosition_driving (side := side) (by simp [driveFor])
  rw [h]
  refine ⟨by simp [driveFor], by simp [driveFor], moving, fun both => by simp [driveFor, both], ?_⟩
  cases kind : ctx.kind <;> simp [driveFor, kind]

theorem waitsDeadTime_finish (ctx : DamperCtx) (ms : Nat) (side : Side) (mark : Bool) (before d : DamperDrive) :
    WaitsDeadTime ctx ms side mark (damperFinish ctx before (toDeadTime ctx ms side mark d)) := by
  obtain ⟨timer, leftFrom, h⟩ := damperFinish_eq ctx before (toDeadTime ctx ms side mark d)
  rw [h]
  simp [WaitsDeadTime, OutputsOff, toDeadTime, outputsOff]

/-- An interrupted movement loses a TIMED position (R88, R95). -/
theorem interrupted_finish (ctx : DamperCtx) (ms : Nat) (side : Side) (before d : DamperDrive) :
    WaitsDeadTime ctx ms side true (damperFinish ctx before (loseTimed ctx (toDeadTime ctx ms side true d))) ∧
      (ctx.mode = .timed →
        (damperFinish ctx before (loseTimed ctx (toDeadTime ctx ms side true d))).position = .unknown) := by
  obtain ⟨timer, leftFrom, h⟩ := damperFinish_eq ctx before (loseTimed ctx (toDeadTime ctx ms side true d))
  rw [h]
  by_cases m : ctx.mode = .timed
  · simp [WaitsDeadTime, OutputsOff, toDeadTime, outputsOff, loseTimed, m, judgePosition, drivingSide]
  · simp [WaitsDeadTime, OutputsOff, toDeadTime, outputsOff, loseTimed, m]

/-- What a target change leaves unchanged: no act on a target records a reversal or sets a restart bar (R91). -/
theorem toTarget_frame (ctx : DamperCtx) (d : DamperDrive) :
    (toTarget ctx d).target = d.target ∧ (toTarget ctx d).history = d.history ∧
      (toTarget ctx d).restartBar = d.restartBar ∧ (toTarget ctx d).fault = d.fault := by
  cases kind : ctx.kind with
  | reversing deadTime limit =>
    cases state : d.state <;>
      simp only [toTarget, kind, reversingToTarget, state, reversingFromIdle, loseTimed, toDeadTime, toSuspended, toIdle,
        driveToward, driveFor, outputsOff] <;>
      grind
  | spring fail =>
    simp only [toTarget, kind, springToTarget, driveToward, driveFor]
    split_ifs <;> simp

/-- A reversing drive in travel goes on toward its target, and is interrupted otherwise (R88). -/
theorem reversingToTarget_driving {ctx : DamperCtx} {deadTime : Nat} {d : DamperDrive} (h : d.state = d.target.driving) :
    reversingToTarget ctx deadTime d = d := by
  cases t : d.target <;> simp [reversingToTarget, h, t, Side.driving]

theorem reversingToTarget_interrupted {ctx : DamperCtx} {deadTime : Nat} {d : DamperDrive}
    (h : d.state = d.target.other.driving) :
    reversingToTarget ctx deadTime d = loseTimed ctx (toDeadTime ctx deadTime d.target true d) := by
  cases t : d.target <;> simp [reversingToTarget, h, t, Side.driving, Side.other]

theorem reversingToTarget_idle {ctx : DamperCtx} {deadTime : Nat} {d : DamperDrive} (h : d.state = .idle) :
    reversingToTarget ctx deadTime d = reversingFromIdle ctx deadTime d := by
  simp only [reversingToTarget, h]

theorem reversingToTarget_deadTime {ctx : DamperCtx} {deadTime : Nat} {d : DamperDrive} (h : d.state = .deadTime) :
    reversingToTarget ctx deadTime d = { d with pending := some d.target } := by
  simp only [reversingToTarget, h]

theorem reversingToTarget_cooldown {ctx : DamperCtx} {deadTime : Nat} {d : DamperDrive} (h : d.state = .cooldown) :
    reversingToTarget ctx deadTime d =
      if atTarget ctx d then toIdle ctx d else driveToward ctx (d.lastDirection.getD d.target) d := by
  simp only [reversingToTarget, h]

theorem reversingToTarget_suspended {ctx : DamperCtx} {deadTime : Nat} {d : DamperDrive} (h : d.state = .suspended) :
    reversingToTarget ctx deadTime d = d := by
  simp only [reversingToTarget, h]

/-- The run states of a drive, seen from a side (R85). -/
theorem damperState_cases (side : Side) (x : DamperState) :
    x = .idle ∨ x = side.driving ∨ x = side.other.driving ∨ x = .deadTime ∨ x = .cooldown ∨ x = .suspended := by
  cases side <;> cases x <;> simp [Side.driving, Side.other]

/-- The pause that R87 case 3 asks for, as a Boolean. -/
theorem pauses_iff (offSince : Option Nat) (now deadTime : Nat) :
    (offSince.map (fun t => decide (now - t < deadTime))).getD false = true ↔
      ∃ t, offSince = some t ∧ now - t < deadTime := by
  cases offSince <;> simp

theorem stays_finish (ctx : DamperCtx) (before d : DamperDrive) (h : Stays before d) :
    Stays before (damperFinish ctx before d) := by
  obtain ⟨timer, leftFrom, e⟩ := damperFinish_eq ctx before d
  rw [e]
  exact h

/-- A reversing drive sent from IDLE: the four cases of R87. -/
theorem reversingFromIdle_acts (ctx : DamperCtx) (deadTime : Nat) (side : Side) (d : DamperDrive) (idle : d.state = .idle) :
    ReversingActs ctx deadTime side d
      (damperFinish ctx d (reversingFromIdle ctx deadTime { d with target := side, fault := none })) := by
  have driving : ∀ x : Side, d.state ≠ x.driving := by intro x; cases x <;> simp [idle, Side.driving]
  refine ⟨fun _ => ?_, fun h => absurd h (driving _), fun h => absurd h (driving _), fun h => by simp [idle] at h,
    fun h => by simp [idle] at h, fun h => by simp [idle] at h⟩
  simp only [reversingFromIdle, atTarget, pauses_iff]
  by_cases proven : positionProves ctx.mode d.position side = true
  · simp only [proven, if_true]
    exact ⟨fun _ => stays_finish _ _ _ ⟨rfl, rfl, rfl, rfl, rfl⟩, by simp, by simp, by simp⟩
  · simp only [proven, if_false, Bool.false_eq_true]
    refine ⟨by simp, fun _ low => ?_, fun _ ok pause => ?_, fun _ ok noPause => ?_⟩
    · obtain ⟨timer, leftFrom, e⟩ := damperFinish_eq ctx d
        (toSuspended ctx side ctx.travelLimit false { d with target := side, fault := none })
      rw [if_pos low, e]
      simp [toSuspended, outputsOff, OutputsOff]
    · rw [if_neg (by simp [ok]), if_pos pause]
      exact waitsDeadTime_finish ..
    · rw [if_neg (by simp [ok]), if_neg noPause]
      exact startsToward_finish ..

/-- A reversing drive acts on its target by its state (R87, R88). -/
theorem reversing_acts (ctx : DamperCtx) (deadTime : Nat) (side : Side) (d : DamperDrive) :
    ReversingActs ctx deadTime side d
      (damperFinish ctx d (reversingToTarget ctx deadTime { d with target := side, fault := none })) := by
  rcases damperState_cases side d.state with state | state | state | state | state | state
  · rw [reversingToTarget_idle (d := { d with target := side, fault := none }) state]
    exact reversingFromIdle_acts ctx deadTime side d state
  · rw [reversingToTarget_driving (d := { d with target := side, fault := none }) state]
    have stays := stays_finish ctx d { d with target := side, fault := none } ⟨rfl, rfl, rfl, rfl, rfl⟩
    cases side <;> simp_all [ReversingActs, Side.driving, Side.other]
  · rw [reversingToTarget_interrupted (d := { d with target := side, fault := none }) state]
    have waits := interrupted_finish ctx deadTime side d { d with target := side, fault := none }
    cases side <;> simp_all [ReversingActs, Side.driving, Side.other]
  · obtain ⟨timer, leftFrom, e⟩ := damperFinish_eq ctx d { d with target := side, fault := none, pending := some side }
    rw [reversingToTarget_deadTime (d := { d with target := side, fault := none }) state, e]
    cases side <;> simp [ReversingActs, state, Stays, Side.driving, Side.other]
  · have driving : d.state ≠ side.driving ∧ d.state ≠ side.other.driving := by
      cases side <;> simp [state, Side.driving, Side.other]
    refine ⟨by simp [state], fun h => absurd h driving.1, fun h => absurd h driving.2, by simp [state], fun _ => ?_,
      by simp [state]⟩
    constructor <;> intro proven
    · obtain ⟨timer, leftFrom, e⟩ := damperFinish_eq ctx d (toIdle ctx { d with target := side, fault := none })
      rw [reversingToTarget_cooldown (d := { d with target := side, fault := none }) state, if_pos (by exact proven), e]
      exact ⟨rfl, rfl, rfl, rfl⟩
    · obtain ⟨timer, leftFrom, e⟩ := damperFinish_eq ctx d
        (driveToward ctx (d.lastDirection.getD side) { d with target := side, fault := none })
      rw [reversingToTarget_cooldown (d := { d with target := side, fault := none }) state, if_neg (by exact proven)]
      refine ⟨startsToward_finish .., ?_⟩
      dsimp only
      rw [e]
      simp [driveToward, driveFor]
  · obtain ⟨timer, leftFrom, e⟩ := damperFinish_eq ctx d { d with target := side, fault := none }
    rw [reversingToTarget_suspended (d := { d with target := side, fault := none }) state, e]
    cases side <;> simp [ReversingActs, state, Stays, Side.driving, Side.other]

/-- A spring drive acts on its target (R93). -/
theorem spring_acts (ctx : DamperCtx) (fail side : Side) (d : DamperDrive) :
    SpringActs ctx fail side d (damperFinish ctx d (springToTarget ctx fail { d with target := side, fault := none })) := by
  simp only [springToTarget, atTarget, SpringActs]
  by_cases stays : d.state = .idle ∧ positionProves ctx.mode d.position side = true
  · obtain ⟨timer, leftFrom, e⟩ := damperFinish_eq ctx d
      { d with target := side, fault := none, driveOut := side != fail }
    rw [if_pos stays, e]
    exact ⟨rfl, fun _ => ⟨stays.1, rfl⟩, fun h => absurd stays h, fun h => absurd stays h⟩
  · rw [if_neg stays]
    by_cases low : d.supply = .low
    · obtain ⟨timer, leftFrom, e⟩ := damperFinish_eq ctx d
        { d with target := side, fault := none, driveOut := side != fail, state := .suspended, travel := .stopped }
      rw [if_pos low, e]
      exact ⟨rfl, fun h => absurd h stays, fun _ _ => ⟨rfl, rfl⟩, fun _ ok => by simp [low] at ok⟩
    · rw [if_neg low]
      refine ⟨?_, fun h => absurd h stays, fun _ h => absurd h low, fun _ _ => startsToward_finish ..⟩
      obtain ⟨timer, leftFrom, e⟩ := damperFinish_eq ctx d
        (driveToward ctx side { d with target := side, fault := none, driveOut := side != fail })
      rw [e]
      cases kind : ctx.kind <;> simp [driveToward, driveFor, kind]

/-- A damper drive of either kind takes a target change (R87, R88, R93, R102). -/
theorem damperTarget_targeted (ctx : DamperCtx) (side : Side) (d : DamperDrive) :
    DamperTargeted ctx side d (damperFinish ctx d (damperTarget side ctx d)) := by
  obtain ⟨target, history, bar, fault⟩ := toTarget_frame ctx { d with target := side, fault := none }
  obtain ⟨timer, leftFrom, e⟩ := damperFinish_eq ctx d (damperTarget side ctx d)
  have frame : (damperFinish ctx d (damperTarget side ctx d)).fault = none ∧
      (damperFinish ctx d (damperTarget side ctx d)).target = side ∧
      (damperFinish ctx d (damperTarget side ctx d)).history = d.history ∧
      (damperFinish ctx d (damperTarget side ctx d)).restartBar = d.restartBar := by
    rw [e]; exact ⟨fault, target, history, bar⟩
  refine ⟨frame.1, frame.2.1, frame.2.2.1, frame.2.2.2, ?_⟩
  cases kind : ctx.kind with
  | reversing deadTime limit => simpa only [damperTarget, toTarget, kind] using reversing_acts ctx deadTime side d
  | spring fail => simpa only [damperTarget, toTarget, kind] using spring_acts ctx fail side d

theorem oneSwitch_singleSwitch (side : Side) (x : Option Debounced) (arrival : Bool) :
    OneSwitch side x arrival (singleSwitchPosition side x arrival) := by
  rcases x with _ | x
  · simp [OneSwitch, singleSwitchPosition]
  · cases x <;> simp [OneSwitch, singleSwitchPosition]

theorem switchesShow_switchPosition (ctx : DamperCtx) (arrival : Bool) :
    SwitchesShow ctx arrival (switchPosition ctx arrival) := by
  cases mode : ctx.mode with
  | timed => simp [SwitchesShow, mode]
  | openSwitch => simpa [SwitchesShow, switchPosition, mode] using oneSwitch_singleSwitch ..
  | closedSwitch => simpa [SwitchesShow, switchPosition, mode] using oneSwitch_singleSwitch ..
  | bothSwitches =>
    simp only [SwitchesShow, switchPosition, mode]
    rcases ctx.openSwitch with _ | x <;> rcases ctx.closedSwitch with _ | y
    · simp [OneSwitch, singleSwitchPosition]
    · cases y <;> simp [OneSwitch, singleSwitchPosition]
    · cases x <;> simp [OneSwitch, singleSwitchPosition]
    · cases x <;> cases y <;> simp [OneSwitch, singleSwitchPosition]

/-- A new controller is one that has been handed its REST value (R107). -/
theorem createDamper_created (ctx : DamperCtx) (rest : Side) (supply : SupplyState) (since : Option Nat) :
    DamperCreated ctx rest supply since (createDamper ctx rest supply since) := by
  refine ⟨newDamper ctx rest supply since, rfl, ⟨rfl, rfl⟩, rfl, rfl, rfl, rfl, rfl, rfl, rfl, fun timed => ?_, ?_, ?_,
    damperTarget_targeted ctx rest (newDamper ctx rest supply since)⟩
  · simp [newDamper, timed]
  · by_cases timed : ctx.mode = .timed
    · simp [SwitchesShow, timed]
    · simpa [newDamper, timed] using switchesShow_switchPosition ctx false
  · cases kind : ctx.kind <;> simp [newDamper, kind]

/-! ## A fan drive -/

/-- A fan drive that is created stops (R119, R130). -/
theorem createFan_created (ctx : FanCtx) : FanCreated ctx (createFan ctx) := by
  have clamped : ∀ sd : SpeedDef, clampSpeed sd 0 = sd.smin := by
    intro sd; unfold clampSpeed; split_ifs <;> omega
  have unavailable : proofUnavailable (ctx.channel.map (·.1)) = true ↔
      ∃ status value, ctx.channel = some (status, value) ∧ status ≠ .valid := by
    rcases ctx.channel with _ | ⟨status, value⟩ <;> simp [proofUnavailable]
  cases evidence : ctx.evidence <;>
    simp +contextual [FanCreated, FanStops, createFan, judgeFan, toStopped, evidence, clamped, unavailable]

theorem setDemand_eq (ctx : FanCtx) (f : FanDrive) :
    setDemand ctx f = { f with demand := (setDemand ctx f).demand, clamped := (setDemand ctx f).clamped } := by
  unfold setDemand
  split
  · rfl
  · split <;> rfl

/-- The demand of a target, held within the limits of the fan (R123). -/
theorem setDemand_taken (ctx : FanCtx) (target : Command) (f x : FanDrive)
    (demand : x.demand = (setDemand ctx { f with target := target }).demand)
    (clamped : x.clamped = (setDemand ctx { f with target := target }).clamped) : SpeedTaken ctx target f x := by
  unfold SpeedTaken
  unfold setDemand at demand clamped
  cases speed : ctx.definition.speed with
  | none => simp_all
  | some sd =>
    simp only [speed] at demand clamped
    cases target with
    | run v =>
      dsimp only at demand clamped ⊢
      unfold clampSpeed at clamped
      grind
    | openPos => simp_all [clampSpeed]
    | closedPos => simp_all [clampSpeed]
    | off => simp_all [clampSpeed]

/-- A start (R113). -/
theorem startFan_starts (ctx : FanCtx) (before x : FanDrive) (out : x.runOut = before.runOut) (r : x.ramped = before.ramped)
    (q : x.preload = before.preload) (ramp : x.rampTimer = before.rampTimer) : FanStarts ctx before (startFan ctx x) := by
  cases on : before.runOut <;> by_cases shown : ctx.evidence = .runningShown <;>
    simp_all [FanStarts, startFan, judgeFan, switchOn, stopTimers, toRunning, rampTime]

/-- A stop (R118, R119). -/
theorem stopFan_stops (ctx : FanCtx) (x : FanDrive) : FanStops ctx (stopFan ctx x) := by
  cases shown : ctx.evidence <;> simp_all [FanStops, stopFan, judgeFan, switchOff, stopTimers, toStopped]

/-- A start or a stop keeps the target and the speeds that it was handed. -/
theorem startFan_speeds (ctx : FanCtx) (x : FanDrive) :
    (startFan ctx x).target = x.target ∧ (startFan ctx x).demand = x.demand ∧ (startFan ctx x).clamped = x.clamped := by
  cases on : x.runOut <;> by_cases shown : ctx.evidence = .runningShown <;>
    simp_all [startFan, judgeFan, switchOn, stopTimers, toRunning]

theorem stopFan_speeds (ctx : FanCtx) (x : FanDrive) :
    (stopFan ctx x).target = x.target ∧ (stopFan ctx x).demand = x.demand ∧ (stopFan ctx x).clamped = x.clamped := by
  by_cases shown : ctx.evidence = .stoppedShown ∨ ctx.evidence = .noSource <;>
    simp_all [stopFan, judgeFan, switchOff, stopTimers, toStopped]

/-- A target change by what becomes of RUN (R29, R117, R118, R128). -/
theorem fanTarget_cases (ctx : FanCtx) (target : Command) (f : FanDrive) :
    (f.target.isRun = false → target.isRun = true →
      fanTarget target ctx f = startFan ctx (setDemand ctx { f with target := target })) ∧
    (f.target.isRun = true → target.isRun = false →
      fanTarget target ctx f = stopFan ctx (setDemand ctx { f with target := target })) ∧
    (f.target.isRun = target.isRun → fanTarget target ctx f = setDemand ctx { f with target := target }) := by
  cases target <;> simp +contextual [fanTarget, runStopChange, Command.isRun]

/-- A fan drive takes a target change (R113, R117, R118, R121, R123, R128). -/
theorem fanTarget_targeted (ctx : FanCtx) (target : Command) (f : FanDrive) :
    FanTargeted ctx target f (fanTarget target ctx f) := by
  obtain ⟨starts, stops, feeds⟩ := fanTarget_cases ctx target f
  have speeds := setDemand_eq ctx { f with target := target }
  have kept : (setDemand ctx { f with target := target }).target = target := by rw [speeds]
  have taken : (fanTarget target ctx f).target = target ∧
      (fanTarget target ctx f).demand = (setDemand ctx { f with target := target }).demand ∧
      (fanTarget target ctx f).clamped = (setDemand ctx { f with target := target }).clamped := by
    cases old : f.target.isRun <;> cases new : target.isRun
    · rw [feeds (old.trans new.symm)]; exact ⟨kept, rfl, rfl⟩
    · rw [starts old new]; simpa only [kept] using startFan_speeds ctx (setDemand ctx { f with target := target })
    · rw [stops old new]; simpa only [kept] using stopFan_speeds ctx (setDemand ctx { f with target := target })
    · rw [feeds (old.trans new.symm)]; exact ⟨kept, rfl, rfl⟩
  refine ⟨taken.1, setDemand_taken ctx target f _ taken.2.1 taken.2.2, fun old new => ?_, fun old new => ?_, fun same => ?_⟩
  · rw [starts old new]
    exact startFan_starts ctx f _ (by rw [speeds]) (by rw [speeds]) (by rw [speeds]) (by rw [speeds])
  · rw [stops old new]
    exact stopFan_stops ctx _
  · rw [feeds same]
    exact speeds

/-! ## A target handed to a drive, and the drives of a state -/

/-- What a notice of a drive changes of the state: change flags alone (R98, R122). -/
theorem handNotice_st (a : Fin 64) (before after : Drive) (w : Work) :
    ∃ ps, (handNotice a before after w).st = { w.st with ports := ps } := by
  have raised : ∃ ps, (if before.fault = after.fault then w else w.map State.raiseFlags).st = { w.st with ports := ps } := by
    split
    · exact ⟨w.st.ports, rfl⟩
    · exact ⟨_, rfl⟩
  unfold handNotice
  dsimp only
  split
  · exact raised
  · exact raised

/-- The drive of an actuator after an act of a damper drive. -/
def damperActed (s : State) (a : Fin 64) (act : DamperCtx → DamperDrive → DamperDrive) : Drive :=
  match s.drive a, s.damperCtx a with
  | .damper d, some ctx => .damper (damperFinish ctx d (act ctx d))
  | d, _ => d

/-- The drive of an actuator after an act of a fan drive. -/
def fanActed (s : State) (a : Fin 64) (act : FanCtx → FanDrive → FanDrive) : Drive :=
  match s.drive a, s.fanCtx a with
  | .fan f, some ctx => .fan (act ctx f)
  | d, _ => d

theorem State.set_drive (s : State) (a : Fin 64) : s.drives.set a (s.drive a) = s.drives := by
  simp [State.drive]

/-- A damper event writes the drive of its actuator and change flags. -/
theorem damperEvent_st (a : Fin 64) (act : DamperCtx → DamperDrive → DamperDrive) (w : Work) :
    ∃ ps, (damperEvent a act w).st = { w.st with drives := w.st.drives.set a (damperActed w.st a act), ports := ps } := by
  cases hd : w.st.drive a with
  | damper d =>
    cases hctx : w.st.damperCtx a with
    | none =>
      simp only [damperEvent, damperActed, hd, hctx]
      exact ⟨w.st.ports, by rw [← hd, State.set_drive]⟩
    | some ctx =>
      simp only [damperEvent, damperActed, hd, hctx]
      exact handNotice_st _ _ _ (w.map _)
  | _ =>
    simp only [damperEvent, damperActed, hd]
    exact ⟨w.st.ports, by rw [← hd, State.set_drive]⟩

/-- A fan event writes the drive of its actuator and change flags. -/
theorem fanEvent_st (a : Fin 64) (act : FanCtx → FanDrive → FanDrive) (w : Work) :
    ∃ ps, (fanEvent a act w).st = { w.st with drives := w.st.drives.set a (fanActed w.st a act), ports := ps } := by
  cases hd : w.st.drive a with
  | fan d =>
    cases hctx : w.st.fanCtx a with
    | none =>
      simp only [fanEvent, fanActed, hd, hctx]
      exact ⟨w.st.ports, by rw [← hd, State.set_drive]⟩
    | some ctx =>
      simp only [fanEvent, fanActed, hd, hctx]
      exact handNotice_st _ _ _ (w.map _)
  | _ =>
    simp only [fanEvent, fanActed, hd]
    exact ⟨w.st.ports, by rw [← hd, State.set_drive]⟩

/-- The drive of an actuator that is handed a target (R29). -/
def targetActed (s : State) (a : Fin 64) (c : Command) : Drive :=
  match s.drive a with
  | .none => .none
  | .damper d =>
    match sideOf c with
    | some side => damperActed s a (damperTarget side)
    | none => .damper d
  | .fan _ => fanActed s a (fanTarget c)

theorem damperActed_damper {s : State} {a : Fin 64} {d : DamperDrive} (h : s.drive a = .damper d)
    (act : DamperCtx → DamperDrive → DamperDrive) : ∃ d', damperActed s a act = .damper d' := by
  unfold damperActed
  rw [h]
  cases s.damperCtx a with
  | none => exact ⟨d, rfl⟩
  | some ctx => exact ⟨_, rfl⟩

theorem fanEvent_damper {w : Work} {a : Fin 64} {d : DamperDrive} (h : w.st.drive a = .damper d)
    (act : FanCtx → FanDrive → FanDrive) : fanEvent a act w = w := by
  simp [fanEvent, h]

/-- Handing a target writes the drive of its actuator and change flags. -/
theorem handTarget_st (a : Fin 64) (c : Command) (w : Work) :
    ∃ ps, (handTarget a c w).st = { w.st with drives := w.st.drives.set a (targetActed w.st a c), ports := ps } := by
  have same : ∃ ps, w.st = { w.st with drives := w.st.drives.set a (w.st.drive a), ports := ps } :=
    ⟨w.st.ports, by rw [State.set_drive]⟩
  cases hd : w.st.drive a with
  | none =>
    have idle : targetActed w.st a c = w.st.drive a := by simp [targetActed, hd]
    cases side : sideOf c <;> simpa [handTarget, fanEvent, damperEvent, hd, side, idle] using same
  | damper d =>
    cases toward : sideOf c with
    | none =>
      have idle : targetActed w.st a c = w.st.drive a := by simp [targetActed, hd, toward]
      simpa [handTarget, fanEvent, hd, toward, idle] using same
    | some side =>
      obtain ⟨ps, e⟩ := damperEvent_st a (damperTarget side) w
      obtain ⟨d', acted⟩ := damperActed_damper hd (damperTarget side)
      have notFan : fanEvent a (fanTarget c) (damperEvent a (damperTarget side) w) = damperEvent a (damperTarget side) w :=
        fanEvent_damper (d := d') (by rw [e]; simp [State.drive, acted]) _
      refine ⟨ps, ?_⟩
      simp only [handTarget, toward]
      rw [notFan, e]
      simp [targetActed, hd, toward]
  | fan f =>
    have idle : ∀ act, damperEvent a act w = w := by intro act; simp [damperEvent, hd]
    have acted : targetActed w.st a c = fanActed w.st a (fanTarget c) := by simp [targetActed, hd]
    cases side : sideOf c <;> simpa only [handTarget, side, idle, acted] using fanEvent_st a (fanTarget c) w

/-- A drive takes the target that it is handed (R29, R87, R88, R93, R113, R118, R123). -/
theorem targetActed_taken (s : State) (a : Fin 64) (c : Command) : TargetTaken s a c (s.drive a) (targetActed s a c) := by
  unfold TargetTaken targetActed
  cases drive : s.drive a with
  | none => rfl
  | damper d =>
    dsimp only
    cases hctx : s.damperCtx a with
    | none => cases sideOf c <;> simp [damperActed, drive, hctx]
    | some ctx =>
      cases toward : sideOf c with
      | none => rfl
      | some side =>
        simp only [damperActed, drive, hctx]
        exact ⟨_, rfl, damperTarget_targeted ctx side d⟩
  | fan f =>
    dsimp only
    cases hctx : s.fanCtx a with
    | none => simp [fanActed, drive, hctx]
    | some ctx =>
      simp only [fanActed, drive, hctx]
      exact ⟨_, rfl, fanTarget_targeted ctx c f⟩

end Sys2Proof.Machine

end
/-! # Cold start and loss of power (R12, R16, R37, R58, R137, R145, R149, R162, R175, R181, R188) -/

section

namespace Sys2Proof.Machine

/-! ## Created drives -/

theorem damperCtx_fan {s : State} {a : Fin 64} {ctx : FanCtx} (h : s.fanCtx a = some ctx) : s.damperCtx a = none := by
  unfold State.fanCtx at h
  unfold State.damperCtx
  cases record : s.record a <;> simp_all

/-- A new drive is created as its record's chapter says (R1, R107, R130). -/
theorem freshDrive_created (s : State) (since : Option Nat) (a : Fin 64) : DriveCreated s since a (s.freshDrive since a) := by
  refine ⟨fun unused => ?_, fun ctx rest hctx hrest => ?_, fun ctx hctx => ?_⟩
  · simp [State.freshDrive, State.damperCtx, State.fanCtx, unused]
  · refine ⟨_, ?_, createDamper_created ctx rest s.supply.state since⟩
    cases rest <;> simp [State.freshDrive, hctx, hrest, Side.command, sideOf]
  · refine ⟨_, ?_, createFan_created ctx⟩
    simp [State.freshDrive, damperCtx_fan hctx, hctx]

/-- Every configured record has a new drive, and no other (R12). -/
theorem freshDrive_none_iff (s : State) (since : Option Nat) (a : Fin 64) :
    s.freshDrive since a = .none ↔ s.record a = .unused := by
  cases record : s.record a with
  | unused => simp [State.freshDrive, State.damperCtx, State.fanCtx, record]
  | fan d => simp [State.freshDrive, State.damperCtx, State.fanCtx, record]
  | reversing d => cases rest : d.rest <;> simp [State.freshDrive, State.damperCtx, record, restCommand, rest, Side.command, sideOf]
  | spring d => cases rest : d.rest <;> simp [State.freshDrive, State.damperCtx, record, restCommand, rest, Side.command, sideOf]

/-! ## The state after a cold start -/

/-- A cold start is the loaded state, in CONFIG-FAULT or with its drives by the two marks (R12, R13). -/
theorem coldStart_eq (cause : StartCause) (s : State) :
    coldStart cause s = { loadedState cause s with
      configFault := !(s.store.plant.valid && s.store.sequences.valid)
      drives := if (s.store.plant.valid && s.store.sequences.valid) = true then (loadedState cause s).freshDrives none
        else State.reset.drives } := by
  have marks : ((loadedState cause s).store.plant.valid && (loadedState cause s).store.sequences.valid) =
      (s.store.plant.valid && s.store.sequences.valid) := rfl
  unfold coldStart
  dsimp only
  rw [marks]
  cases s.store.plant.valid && s.store.sequences.valid <;> rfl

theorem losePower_sector (cut : Nat) (st : Store) (sec : Sector) :
    (st.losePower cut).sector sec = (st.sector sec).losePower sec cut := by
  cases sec <;> rfl

theorem loadedState_store (cause : StartCause) (s : State) : (loadedState cause s).store = s.store.losePower s.cutWrites := rfl

theorem emptyLists_claimList (s : State) (a : Fin 64) (h : s.lists = emptyLists s.plant) :
    (s.claimList a).claims = [] ∧ (s.claimList a).target = restCommand (s.record a) ∧ (s.claimList a).normalShed = false := by
  have list : s.claimList a = emptyList s.plant.acts[a] := by simp [State.claimList, h, emptyLists]
  rw [list]
  exact ⟨rfl, rfl, rfl⟩

theorem judgeChannel_window (sc : Option Scaling) (c : Channel) : (judgeChannel sc c).window = c.window := by
  unfold judgeChannel
  split
  · rfl
  · split
    · rfl
    · split_ifs <;> rfl

/-- A channel with an empty window holds no value (R139, R142, R145). -/
theorem judgeChannel_atReset (sc : Option Scaling) :
    judgeChannel sc channelAtReset =
      { channelAtReset with status := if sc = none then .unused else .unknown } := by
  cases sc <;> simp [judgeChannel, channelAtReset, windowAverage, windowSize]

theorem loadedState_port (cause : StartCause) (s : State) (l : Line) :
    (loadedState cause s).port l = portAtReset ((s.store.losePower s.cutWrites).startTime l) := by
  cases l <;> rfl

theorem DriveCreated.congr {s t : State} {since : Option Nat} {a : Fin 64} {d : Drive} (h : DriveCreated s since a d)
    (record : t.record a = s.record a) (damper : t.damperCtx a = s.damperCtx a) (fan : t.fanCtx a = s.fanCtx a)
    (supply : t.supply = s.supply) : DriveCreated t since a d := by
  unfold DriveCreated at h ⊢
  rwa [record, damper, fan, supply]

/-- A cold start leaves the part as its stored images give (R12, R16, R37, R58, R137, R145, R149, R162, R175, R177, R181). -/
theorem coldStart_startedCold (cause : StartCause) (s : State) : StartedCold cause s (coldStart cause s) := by
  rw [coldStart_eq]
  refine ⟨rfl, rfl, rfl, fun a => emptyLists_claimList _ a rfl, fun z => ?_, rfl, rfl, rfl, rfl, fun i => ?_, fun i => ?_, rfl,
    rfl, rfl, rfl, fun c => ?_, fun o => ?_, fun l => ?_, fun sec => ?_, rfl, fun fault a => ?_, fun fault a => ?_⟩
  · simp [State.zone, loadedState, loseWorking, State.reset]
  · simp [loadedState, loseWorking, State.reset]
  · simp [loadedState, State.filterCount, PlantImage.filters]
  · have channel : (loadedState cause s).channel c = judgeChannel (loadedState cause s).plant.scalings[c] channelAtReset := by
      simp [loadedState, State.channel]
    show ((loadedState cause s).channel c).window = [] ∧ ((loadedState cause s).channel c).lastValid = none
    rw [channel, judgeChannel_atReset]
    exact ⟨rfl, rfl⟩
  · simp [loadedState, loseWorking, State.reset]
  · have port := loadedState_port cause s l
    simp only [State.port] at port ⊢
    rw [port]
    exact ⟨rfl, rfl, rfl, rfl⟩
  · have sector := losePower_sector s.cutWrites s.store sec
    rw [← loadedState_store cause s] at sector
    dsimp only
    rw [sector]
    exact ⟨rfl, rfl, rfl⟩
  · have notBoth : ¬ (s.store.plant.valid && s.store.sequences.valid) = true := by simp at fault; grind
    simp only [State.drive]
    rw [if_neg notBoth]
    simp [State.reset]
  · have both : (s.store.plant.valid && s.store.sequences.valid) = true := by simpa using fault
    have fresh : State.drive { loadedState cause s with
        configFault := !(s.store.plant.valid && s.store.sequences.valid)
        drives := if (s.store.plant.valid && s.store.sequences.valid) = true then (loadedState cause s).freshDrives none
          else State.reset.drives } a = (loadedState cause s).freshDrive none a := by
      simp [State.drive, both, State.freshDrives]
    rw [fresh]
    exact (freshDrive_created (loadedState cause s) none a).congr rfl rfl rfl rfl

theorem coldStart_drive {cause : StartCause} {s : State} (h : (coldStart cause s).configFault = false) (a : Fin 64) :
    (coldStart cause s).drive a = (loadedState cause s).freshDrive none a := by
  rw [coldStart_eq] at h ⊢
  have both : (s.store.plant.valid && s.store.sequences.valid) = true := by simpa using h
  simp [State.drive, both, State.freshDrives]

/-- The stored image of a sector that is not WRITING outlives a loss of the working memory (R181, R188). -/
theorem losePower_stored {sec : Sector} {cut : Nat} {x : SectorState} (h : x.activation ≠ .writing) :
    (x.losePower sec cut).stored = x.stored := by
  simp [SectorState.losePower, h]

theorem writing_none_iff (st : Store) : st.writing = none ↔ ∀ sec, (st.sector sec).activation ≠ .writing := by
  simp only [Store.writing, List.find?_eq_none]
  refine ⟨fun h sec => ?_, fun h sec _ => by simpa using h sec⟩
  simpa using h sec (by cases sec <;> simp)

theorem losePower_relayOn (s : State) (r : Fin 96) : (losePower s).relayOn r = false := by
  simp [State.relayOn, losePower, loseWorking, State.drive, State.reset, energizedOutputs]

/-! ## The reset state -/

theorem readByte_nil (sec : Sector) (o : Nat) : readByte sec [] o = blankByte sec o := rfl

theorem blankByte_record (a : Fin 64) : blankByte .plant (actuatorBase a) = 0x00 := by
  have low : actuatorBase a < 1600 := by unfold actuatorBase; omega
  have first : actuatorBase a % 25 = 0 := by unfold actuatorBase; omega
  unfold blankByte
  exact (if_pos low).trans (if_pos first)

theorem blankByte_zone (z : Fin 24) : blankByte .sequences (zoneBase z) = 0x00 := by
  have low : zoneBase z < 456 := by unfold zoneBase; omega
  have first : zoneBase z % 19 = 0 := by unfold zoneBase; omega
  unfold blankByte
  exact (if_pos low).trans (if_pos first)

theorem blankByte_stage (n : Fin 256) : blankByte .sequences (stageBase n) = 0x00 := by
  have high : ¬ stageBase n < 456 := by unfold stageBase; omega
  have first : (stageBase n - 456) % 63 = 0 := by unfold stageBase; omega
  unfold blankByte
  exact (if_neg high).trans (if_pos first)

theorem actuatorDefAt_nil (a : Fin 64) : actuatorDefAt [] a = .unused := by
  have code : actByte [] a 0 = some 0 := by
    simp [actByte, byteField, readByte_nil, blankByte_record]
  simp [actuatorDefAt, code]

theorem scalingAt_nil (c : Fin 16) : scalingAt [] c = none := by
  have absent : unsignedField .plant [] (1600 + 8 * c) = none := by
    have high : blankByte .plant (1600 + 8 * c) = 0xFF := by
      simp only [blankByte]
      rw [if_neg (by omega), if_pos (by omega)]
    have low : blankByte .plant (1600 + 8 * c + 1) = 0xFF := by
      simp only [blankByte]
      rw [if_neg (by omega), if_pos (by omega)]
    simp [unsignedField, halfField, readByte_nil, high, low]
  simp [scalingAt, absent]

theorem zoneDefAt_nil (z : Fin 24) : zoneDefAt [] z = none := by
  simp [zoneDefAt, zoneByte, readByte_nil, blankByte_zone]

theorem stageDefAt_nil (n : Fin 256) : stageDefAt [] n = none := by
  simp [stageDefAt, stageCount, readByte_nil, blankByte_stage]

/-- The blank images lay out what the reset state has in force (R183, log 2). -/
theorem plantOf_nil : plantOf [] = State.reset.plant := by
  simp only [plantOf, actuatorDefAt_nil, scalingAt_nil, State.reset, PlantImage.mk.injEq]
  constructor <;> (ext i hi; simp)

theorem sequencesOf_nil : sequencesOf [] = State.reset.sequences := by
  simp only [sequencesOf, zoneDefAt_nil, stageDefAt_nil, State.reset, SequenceImage.mk.injEq]
  constructor <;> (ext i hi; simp)

/-- The reset state without power, which a cold start takes to the reset state. -/
def unpoweredReset : State := { State.reset with power := .unpowered }

theorem loadedState_reset : loadedState .power unpoweredReset = State.reset := by
  have plant : unpoweredReset.store.plant.stored = [] := rfl
  have base : (loseWorking unpoweredReset) = State.reset := rfl
  have startPlant : State.reset.store.startPlant = State.reset.plant := plantOf_nil
  have startSequences : State.reset.store.startSequences = State.reset.sequences := sequencesOf_nil
  have acts : ∀ a : Fin 64, State.reset.plant.acts[a] = .unused := by simp [State.reset]
  have scalings : ∀ c : Fin 16, State.reset.plant.scalings[c] = none := by simp [State.reset]
  have filters : State.reset.plant.filters = State.reset.filters := by
    have count : State.reset.plant.filterCount = fun _ => 1 := by
      funext i
      have unnamed : State.reset.plant.namingRecord i = none := by
        simp [PlantImage.namingRecord, acts, namedInputs]
      simp [PlantImage.filterCount, unnamed]
    have reset : State.reset.filters = Vector.replicate 128 1 := rfl
    rw [PlantImage.filters, count, reset]
    ext i hi
    simp
  have lists : emptyLists State.reset.plant = State.reset.lists := by
    have reset : State.reset.lists = Vector.replicate 64 (emptyList .unused) := rfl
    simp only [emptyLists, acts, reset]
    ext i hi
    simp
  have channels : Vector.ofFn (fun c : Fin 16 => judgeChannel State.reset.plant.scalings[c] channelAtReset) =
      State.reset.channels := by
    have reset : State.reset.channels = Vector.replicate 16 channelAtReset := rfl
    simp only [scalings, judgeChannel_atReset, reset]
    ext i hi
    simp [channelAtReset]
  unfold loadedState
  dsimp only
  rw [base, startPlant, startSequences, filters, lists, channels]
  rfl

theorem freshDrives_reset : State.reset.freshDrives none = State.reset.drives := by
  have record : ∀ a : Fin 64, State.reset.record a = .unused := by simp [State.record, State.reset]
  have fresh : State.reset.freshDrive none = fun _ => .none := by
    funext a
    exact (freshDrive_none_iff _ _ _).2 (record a)
  have drives : State.reset.drives = Vector.replicate 64 .none := rfl
  rw [State.freshDrives, fresh, drives]
  ext i hi
  simp

/-- Settles O4: the blank images under VALID marks load the definitions and the times that the reset state has. -/
theorem resetIsAColdStart : Obligations.ResetIsAColdStart := by
  have loaded : coldStart .power unpoweredReset = State.reset := by
    rw [coldStart_eq, loadedState_reset, freshDrives_reset]
    rfl
  refine ⟨?_, congrArg Host.Outcome.next loaded, fun r => ?_, fun o => ?_⟩
  · have started := coldStart_startedCold .power unpoweredReset
    rwa [loaded] at started
  · simp [State.relayOn, State.drive, State.reset, energizedOutputs]
  · have none : (List.finRange 64).find? (fun a => namesSpeedOutput o (State.reset.record a)) = none := by
      simp [List.find?_eq_none, State.record, State.reset, namesSpeedOutput]
    simp only [State.preloadOf, none]

/-- Settles O47, by the state that each command leaves. -/
theorem powerLossAndColdStart : Obligations.PowerLossAndColdStart := by
  refine ⟨fun s => ?_, fun s => ?_⟩
  · have stored : (coldStart .power s).store = s.store.losePower s.cutWrites := by rw [coldStart_eq]; rfl
    have port : ∀ l, (coldStart .power s).port l = portAtReset ((s.store.losePower s.cutWrites).startTime l) := by
      intro l; rw [coldStart_eq]; exact loadedState_port .power s l
    refine ⟨coldStart .power s, rfl, coldStart_startedCold _ s, fun idle sec => ?_, fun valid => ?_, fun valid => ?_,
      fun valid => ⟨?_, fun l => ?_⟩, fun invalid => ⟨?_, fun l supervised => ?_⟩, fun fault a => ?_⟩
    · rw [stored, losePower_sector, losePower_stored ((writing_none_iff _).1 idle sec)]
    · rw [stored] at valid ⊢
      rw [coldStart_eq]
      exact if_pos valid
    · rw [stored] at valid ⊢
      rw [coldStart_eq]
      exact if_pos valid
    · rw [stored] at valid ⊢
      rw [coldStart_eq]
      exact if_pos valid
    · rw [stored] at valid ⊢
      rw [port]
      exact if_pos valid
    · rw [stored] at invalid
      rw [coldStart_eq]
      have notValid : ¬ (s.store.losePower s.cutWrites).identity.valid = true := by simp [invalid]
      exact if_neg notValid
    · rw [stored] at invalid
      rw [port]
      simp [portAtReset, Store.startTime, invalid, supervised, defaultSupervisionTime]
    · rw [coldStart_drive fault, freshDrive_none_iff, coldStart_eq]
      rfl
  · refine ⟨losePower s, rfl, rfl, rfl, losePower_relayOn s, fun o => ?_, fun l => ?_, fun z => ?_, fun a => ?_, fun sec => ?_⟩
    · simp [losePower, loseWorking, State.reset]
    · cases l <;> rfl
    · simp [losePower, loseWorking, State.zone, State.reset]
    · simp [losePower, loseWorking, State.claimList, State.reset]
    · have sector := losePower_sector s.cutWrites s.store sec
      have stored : (losePower s).store = s.store.losePower s.cutWrites := rfl
      rw [stored, sector]
      exact ⟨rfl, rfl, rfl, losePower_stored⟩

end Sys2Proof.Machine

end
/-! # The check of kept state (R14, R38, R59, R84, R108, R131, R162) -/

section

namespace Sys2Proof.Machine

/-! ## Each check in the terms of the manual -/

theorem listKept_iff (s : State) (a : Fin 64) : listKept s a = true ↔ ListRetained s a := by
  unfold listKept ListRetained
  dsimp only
  by_cases unused : s.record a = .unused
  · simp [unused]
  · simp only [unused, if_false, Bool.and_eq_true, decide_eq_true_iff, sourcesDistinct_iff, rankOrdered_iff, List.all_eq_true,
      sourceActive_iff, beq_iff_eq, false_implies, true_and, and_assoc]
    exact ⟨fun h _ => h, fun h => h unused⟩

theorem zonesDistinct_iff (l : List (Fin 24)) : zonesDistinct l = true ↔ l.Nodup := by
  induction l with
  | nil => simp [zonesDistinct]
  | cons z rest ih => simp [zonesDistinct, ih]

theorem sourcesKept_iff (s : State) (z : Fin 24) :
    sourcesKept s z = true ↔
      ((s.zone z).mode = .fire ↔ (s.zone z).sourceA = true ∨ (s.zone z).sourceB = true) ∧
        ((s.zone z).sourceA = true → ∃ d, s.zoneDef z = some d ∧ d.panelA = true) ∧
        ((s.zone z).sourceB = true → ∃ d, s.zoneDef z = some d ∧ d.panelB = true) := by
  unfold sourcesKept
  dsimp only
  cases (s.zone z).sourceA <;> cases (s.zone z).sourceB <;> cases s.zoneDef z <;> cases (s.zone z).mode <;> simp

theorem entriesKept_iff (s : State) (z : Fin 24) :
    (List.finRange 64).all (entryKept s z) = true ↔ ∀ a, EntryAgrees s z a := by
  simp [entryKept_iff]

/-- At most one element of a list without repetitions meets a test exactly where two that meet it are the same. -/
theorem countP_le_one_iff {α : Type} [DecidableEq α] {l : List α} (h : l.Nodup) (p : α → Bool) :
    l.countP p ≤ 1 ↔ ∀ x ∈ l, p x = true → ∀ y ∈ l, p y = true → x = y := by
  rw [List.countP_eq_length_filter, ← List.toFinset_card_of_nodup (h.filter p), Finset.card_le_one]
  simp

theorem modesKept_iff (s : State) :
    modesKept s = true ↔ ∀ z y, (s.zone z).mode = .test → (s.zone y).mode ≠ .none → y = z := by
  simp only [modesKept, Bool.and_eq_true, Bool.or_eq_true, decide_eq_true_iff, beq_iff_eq, List.countP_eq_zero,
    countP_le_one_iff (List.nodup_finRange 24)]
  simp only [List.mem_finRange, forall_const]
  constructor
  · rintro ⟨once, apart⟩ z y test active
    cases mode : (s.zone y).mode with
    | none => exact absurd mode active
    | test => exact (once z test y mode).symm
    | fire =>
      rcases apart with noTest | noFire
      · exact absurd test (noTest z)
      · exact absurd mode (noFire y)
  · intro alone
    refine ⟨fun z test y test' => (alone z y test (by simp [test'])).symm, ?_⟩
    by_cases noTest : ∀ z, (s.zone z).mode ≠ .test
    · exact .inl noTest
    · obtain ⟨z, test⟩ := not_forall_not.1 noTest
      refine .inr fun y fire => ?_
      have same := alone z y test (by simp [fire])
      rw [same, test] at fire
      cases fire

theorem zoneKept_iff (s : State) (z : Fin 24) :
    zoneKept s z = true ↔
      (z ∈ s.activation ↔ (s.zone z).mode ≠ .none) ∧ sourcesKept s z = true ∧
        ((s.zone z).mode ≠ .none → (s.zoneDef z).isSome = true ∧
          ∀ cs, (s.zone z).stage = some cs → cs.position < (s.sequenceOf z).length) ∧
        ∀ a, EntryAgrees s z a := by
  have active : ((s.zone z).mode != .none) = s.activation.contains z ↔ (z ∈ s.activation ↔ (s.zone z).mode ≠ .none) := by
    rw [Bool.eq_iff_iff, bne_iff_ne, List.contains_iff_mem]
    exact iff_comm
  have defined : ((s.zone z).mode == .none || ((s.zoneDef z).isSome &&
        ((s.zone z).stage.map (fun cs => decide (cs.position < (s.sequenceOf z).length))).getD true)) = true ↔
      ((s.zone z).mode ≠ .none → (s.zoneDef z).isSome = true ∧
        ∀ cs, (s.zone z).stage = some cs → cs.position < (s.sequenceOf z).length) := by
    cases (s.zone z).stage <;> simp [or_iff_not_imp_left]
  unfold zoneKept
  dsimp only
  rw [Bool.and_eq_true, Bool.and_eq_true, Bool.and_eq_true, beq_iff_eq, active, defined, entriesKept_iff]
  simp only [and_assoc]

theorem zonesKept_iff (s : State) :
    (activationKept s && modesKept s && (List.finRange 24).all (zoneKept s)) = true ↔ ZonesRetained s := by
  have all : (List.finRange 24).all (zoneKept s) = true ↔ ∀ z, zoneKept s z = true := by simp
  rw [Bool.and_eq_true, Bool.and_eq_true, modesKept_iff, all, activationKept, Bool.and_eq_true, zonesDistinct_iff,
    decide_eq_true_iff]
  simp only [zoneKept_iff, sourcesKept_iff, ZonesRetained]
  constructor
  · rintro ⟨⟨⟨once, short⟩, alone⟩, kept⟩
    exact ⟨once, short, fun z => (kept z).1, alone, fun z => by
      obtain ⟨-, ⟨fire, a, b⟩, rest⟩ := kept z
      exact ⟨fire, a, b, rest⟩⟩
  · rintro ⟨once, short, active, alone, kept⟩
    exact ⟨⟨⟨once, short⟩, alone⟩, fun z => by
      obtain ⟨fire, a, b, rest⟩ := kept z
      exact ⟨active z, ⟨fire, a, b⟩, rest⟩⟩

/-- The phase of a zone against its current stage (R84). -/
theorem phaseKept_iff (s : State) (z : Fin 24) (r : ZoneRecord) (cs : CurrentStage) :
    phaseKept s z r cs = true ↔
      r.phase ≠ .normal ∧ (r.phase = .running ↔ cs.phase ≠ .finished) ∧
        (r.phase = .complete → (s.sequenceOf z).length ≤ cs.position + 1) ∧
        (r.phase = .stopped → CommandOutcome.failed ∈ cs.outcomes ∧ (s.stageOf cs).policy = .stop) := by
  unfold phaseKept
  cases r.phase <;> simp [State.isLast, and_assoc]

/-- The outcomes of a current stage against its phase (R84). -/
theorem outcomesKept_iff (s : State) (cs : CurrentStage) :
    outcomesKept s cs = true ↔
      (cs.phase = .due ∨ cs.phase = .gated → cs.outcomes = []) ∧
        (cs.phase ≠ .due → cs.phase ≠ .gated → cs.outcomes.length = (s.stageOf cs).commands.length) ∧
        (cs.phase ≠ .finished → CommandOutcome.skipped ∉ cs.outcomes) ∧
        (CommandOutcome.skipped ∈ cs.outcomes → ∀ o ∈ cs.outcomes, o = .skipped) := by
  unfold outcomesKept
  cases cs.phase <;> simp <;> grind

/-- The commands of a stage that is SETTLING or PROVING stand in the map (R84). -/
theorem commandsKept_iff (s : State) (r : ZoneRecord) (cs : CurrentStage) :
    commandsKept s r cs = true ↔
      (cs.phase = .settling ∨ cs.phase = .proving →
        ∀ c ∈ (s.stageOf cs).commands, ∃ e, r.map[c.actuator] = some e ∧ e.cmd = c.cmd) := by
  have commands : commandsKept s r cs = true ↔
      (cs.phase.live = true → ∀ c ∈ (s.stageOf cs).commands, ∃ e, r.map[c.actuator] = some e ∧ e.cmd = c.cmd) := by
    unfold commandsKept
    rw [Bool.or_eq_true, Bool.not_eq_true', List.all_eq_true, ← Bool.not_eq_true, ← imp_iff_not_or]
    refine imp_congr_right fun _ => forall₂_congr fun c _ => ?_
    cases r.map[c.actuator] <;> simp
  rw [commands]
  cases cs.phase <;> simp [StagePhase.live]

theorem stageKept_iff (s : State) (z : Fin 24) : stageKept s z = true ↔ StageRetained s z := by
  unfold stageKept StageRetained
  dsimp only
  cases stage : (s.zone z).stage with
  | none => simp
  | some cs =>
    rw [Bool.and_eq_true, Bool.and_eq_true, Bool.and_eq_true, Bool.and_eq_true, phaseKept_iff]
    simp only [Bool.and_eq_true, outcomesKept_iff, commandsKept_iff, decide_eq_true_iff, bne_iff_ne, beq_iff_eq,
      reduceCtorEq, iff_false, Option.some.injEq, forall_eq']
    constructor
    · rintro ⟨⟨⟨⟨⟨⟨active, place⟩, defined⟩, normal, running, complete, stopped⟩, shape⟩, failed⟩, commands⟩
      exact ⟨active, place, defined, normal, running, complete, shape.1, shape.2.1, shape.2.2.1, shape.2.2.2, stopped, failed,
        commands⟩
    · rintro ⟨active, place, defined, normal, running, complete, o1, o2, o3, o4, stopped, failed, commands⟩
      exact ⟨⟨⟨⟨⟨⟨active, place⟩, defined⟩, normal, running, complete, stopped⟩, o1, o2, o3, o4⟩, failed⟩, commands⟩

/-- The run output of a fan by its run state (R110). -/
theorem runOutputKept_iff (f : FanDrive) :
    runOutputKept f = true ↔
      (f.runOut = true ↔ f.state = .starting ∨ f.state = .running ∨
        (f.state = .failed ∧ f.fault = some .inputFault ∧ f.target.isRun = true)) := by
  unfold runOutputKept
  cases f.state <;> simp
  cases f.runOut <;> simp

theorem speedKept_iff (sd : SpeedDef) (f : FanDrive) :
    speedKept sd f = true ↔
      sd.smin ≤ f.clamped ∧ f.clamped ≤ sd.smax ∧ f.ramped ≤ sd.smax ∧ (f.runOut = false → f.ramped = 0) ∧ f.preload ≤ 1023 := by
  unfold speedKept
  cases f.runOut <;> simp [and_assoc]

theorem fanKept_iff (d : FanDef) (f : FanDrive) :
    fanKept d f = true ↔
      (f.runOut = true ↔ f.state = .starting ∨ f.state = .running ∨
        (f.state = .failed ∧ f.fault = some .inputFault ∧ f.target.isRun = true)) ∧
      (f.state = .failed ↔ f.fault.isSome = true) ∧ f.attempts ≤ d.restartAttempts ∧
      (f.lastFailure.isSome = true → f.state = .restartWait) ∧
      ∀ sd, d.speed = some sd → sd.smin ≤ f.clamped ∧ f.clamped ≤ sd.smax ∧ f.ramped ≤ sd.smax ∧
        (f.runOut = false → f.ramped = 0) ∧ f.preload ≤ 1023 := by
  have last : (f.lastFailure.isNone || f.state == .restartWait) = true ↔
      (f.lastFailure.isSome = true → f.state = .restartWait) := by
    cases f.lastFailure <;> simp
  have fault : ((f.state == .failed) = f.fault.isSome) ↔ (f.state = .failed ↔ f.fault.isSome = true) := by
    rw [Bool.eq_iff_iff, beq_iff_eq]
  unfold fanKept
  rw [Bool.and_eq_true, Bool.and_eq_true, last, Bool.and_eq_true, decide_eq_true_iff, Bool.and_eq_true, runOutputKept_iff,
    beq_iff_eq, fault]
  simp only [and_assoc]
  cases d.speed with
  | none => simp
  | some sd => simp [speedKept_iff]

theorem reversingKept_iff (limit now : Nat) (d : DamperDrive) :
    reversingKept limit now d = true ↔
      ¬ (d.openOut = true ∧ d.closeOut = true) ∧ (d.openOut = true → d.state = .drivingOpen) ∧
        (d.closeOut = true → d.state = .drivingClose) ∧
        (d.history.filter (fun t => decide (now - t < 60000))).length ≤ limit := by
  have young : youngerThanWindow now = fun t => decide (now - t < 60000) := rfl
  unfold reversingKept
  rw [young]
  cases d.openOut <;> cases d.closeOut <;> simp

theorem springKept_iff (fail : Side) (d : DamperDrive) :
    springKept fail d = true ↔
      (d.driveOut = true ↔ d.target ≠ fail) ∧ d.state ≠ .deadTime ∧ d.state ≠ .cooldown := by
  unfold springKept
  rw [Bool.and_eq_true, Bool.and_eq_true, beq_iff_eq, Bool.eq_iff_iff, bne_iff_ne, bne_iff_ne, bne_iff_ne, and_assoc]

theorem driveKept_iff (s : State) (a : Fin 64) : driveKept s a = true ↔ DriveRetained s a := by
  unfold driveKept DriveRetained
  cases s.drive a with
  | none => cases s.record a <;> simp
  | damper d =>
    cases s.record a with
    | reversing r => exact reversingKept_iff _ _ _
    | spring r => exact springKept_iff _ _
    | _ => simp
  | fan f =>
    cases s.record a with
    | fan r => exact fanKept_iff _ _
    | _ => simp

theorem overridesKept_iff (s : State) : overridesKept s = true ↔ OverridesRetained s := by
  simp only [overridesKept, OverridesRetained, heldKept, Bool.and_eq_true, beq_iff_eq, List.all_eq_true, List.mem_finRange,
    forall_const, Bool.or_eq_true, Bool.not_eq_true', bne_iff_ne, and_assoc]
  refine and_congr_right fun _ => and_congr ?_ (forall_congr' fun z => ?_)
  · cases s.standDown <;> cases s.standDownOption.isSome <;> simp
  · cases (s.zone z).held <;> simp

/-- The check of the model is the check of the manual. -/
theorem retainedOk_iff (s : State) : retainedOk s = true ↔ Retained s := by
  have regroup : retainedOk s = ((List.finRange 64).all (listKept s) &&
      (activationKept s && modesKept s && (List.finRange 24).all (zoneKept s)) &&
      (List.finRange 24).all (stageKept s) && (List.finRange 64).all (driveKept s) && overridesKept s) := by
    simp only [retainedOk, Bool.and_assoc]
  rw [regroup, Bool.and_eq_true, Bool.and_eq_true, Bool.and_eq_true, Bool.and_eq_true, zonesKept_iff, overridesKept_iff]
  simp [Retained, listKept_iff, stageKept_iff, driveKept_iff, and_assoc]

/-! ## The begin of a warm restart (R14, R16, R170) -/

theorem mapPorts_port (s : State) (f : Port → Port) (l : Line) :
    State.port { s with ports := s.ports.map f } l = f (s.port l) := by
  simp [State.port]

/-- The commands that begin a restart where one is due (R14, R16, R172). -/
theorem exec_beginsRestart {c : Instr} {cause : StartCause} {s : State}
    (h : (c = .warmRestartStart .request ∧ cause = .request ∧ s.power = .restartDue) ∨
      ((c = .supervisor ∨ c = .warmRestartStart .supervisor) ∧ cause = .supervisor ∧ s.power ≠ .unpowered)) :
    exec c s = .next (beginWarmRestart cause s) := by
  rcases h with ⟨rfl, rfl, due⟩ | ⟨rfl | rfl, rfl, powered⟩
  · have begins : startWarmRestart .request s = beginWarmRestart .request s := by simp [startWarmRestart, due]
    exact congrArg Host.Outcome.next begins
  · have begins : supervisorRestart s = beginWarmRestart .supervisor s := by simp [supervisorRestart, powered]
    exact congrArg Host.Outcome.next begins
  · have begins : startWarmRestart .supervisor s = beginWarmRestart .supervisor s := by
      simp [startWarmRestart, supervisorRestart, powered]
    exact congrArg Host.Outcome.next begins

/-- Settles O48, by the checks in the terms of the manual and the two ends of a begin. -/
theorem warmRestartKeepsOrStartsCold : Obligations.WarmRestartKeepsOrStartsCold := by
  refine ⟨retainedOk_iff, fun c cause s begins => ⟨fun kept => ?_, fun failed => ?_⟩, fun s =>
    ⟨fun notDue => ?_, fun unpowered => ⟨?_, ?_⟩, fun notRestarting => ?_⟩⟩
  · rw [exec_beginsRestart begins, beginWarmRestart_kept ((retainedOk_iff s).2 kept)]
    exact ⟨_, rfl, ⟨_, rfl⟩, fun l => mapPorts_port _ _ _⟩
  · have check : retainedOk s = false := by
      rw [← Bool.not_eq_true, retainedOk_iff]; exact failed
    rw [exec_beginsRestart begins, beginWarmRestart_cold check]
    exact ⟨_, rfl, coldStart_startedCold _ s⟩
  · have idle : startWarmRestart .request s = s := by simp [startWarmRestart, notDue]
    exact congrArg Host.Outcome.next idle
  · have idle : supervisorRestart s = s := by simp [supervisorRestart, unpowered]
    exact congrArg Host.Outcome.next idle
  · have idle : startWarmRestart .supervisor s = s := by simp [startWarmRestart, supervisorRestart, unpowered]
    exact congrArg Host.Outcome.next idle
  · exact congrArg Host.Outcome.next (if_neg notRestarting)

end Sys2Proof.Machine

end
/-! # Refused requests (R13, R32 to R34, R43, R46, R48, R50, R152, R154, R182, R183, R185) -/

section

namespace Sys2Proof.Machine

/-- A request is answered with what its block makes of it. -/
theorem request_answers {l : Line} {k : Byte} {take : State → State × Reply} {s t : State} {r : Reply} (h : s.takes l)
    (e : take s = (t, r)) : request l k take s = .next (deliver l k r t) := by
  rw [request_taken h, answered, e]

/-- A refused request is answered with its result and changes nothing else. -/
theorem request_refused {l : Line} {k : Byte} {take : State → State × Reply} {s : State} {r : Result} (h : s.takes l)
    (e : take s = refuse s r) : request l k take s = .next (deliver l k (Reply.bare r) s) :=
  request_answers h e

theorem keyOn_iff (s : State) : s.keyOn = true ↔ s.key.debounced = .on := by simp [State.keyOn]

theorem allZonesNormal_iff (s : State) : s.allZonesNormal = true ↔ ∀ z, (s.zone z).mode = .none := by
  simp only [State.allZonesNormal, List.all_eq_true, beq_iff_eq, State.zone]
  constructor
  · exact fun h z => h _ (by simp)
  · intro h r hr
    obtain ⟨i, hi, rfl⟩ := List.getElem_of_mem hr
    have lt : i < 24 := by simpa using hi
    exact h ⟨i, lt⟩

/-! ## The panels (R43, R46) -/

theorem takeZoneAlarm_fault {s : State} (fault : s.configFault = true) (p : Panel) (b : Byte) :
    takeZoneAlarm p b s = refuse s .refusedConfig := by
  simp [takeZoneAlarm, fault]

theorem takeZoneAlarm_unreported {s : State} {p : Panel} {b : Byte} (fault : s.configFault = false)
    (none : s.reportedZone p b = none) : takeZoneAlarm p b s = refuse s .refusedRange := by
  simp [takeZoneAlarm, fault, none]

theorem takeZoneReset_unreported {s : State} {p : Panel} {b : Byte} (none : s.reportedZone p b = none) :
    takeZoneReset p b s = refuse s .refusedRange := by
  simp [takeZoneReset, none]

theorem reportedZone_unconfigured {s : State} {p : Panel} {b : Byte} (h : s.configuredZone b = none) :
    s.reportedZone p b = none := by
  simp [State.reportedZone, h]

theorem reportedZone_unreported {s : State} {p : Panel} {b : Byte} {z : Fin 24} {d : ZoneDef} (number : zoneOf b = some z)
    (defined : s.zoneDef z = some d) (h : d.reportedBy p = false) : s.reportedZone p b = none := by
  simp [State.reportedZone, State.configuredZone, number, defined, h]

/-! ## The Override Line (R152, R154, R171) -/

theorem takeOverrideSet_fault {s : State} (fault : s.configFault = true) (a c : Byte) (v : Half) :
    takeOverrideSet a c v s = refuse s .refusedConfig := by
  simp [takeOverrideSet, fault]

theorem takeOverrideSet_unconfigured {s : State} {b : Byte} (fault : s.configFault = false)
    (none : s.configuredActuator b = none) (c : Byte) (v : Half) : takeOverrideSet b c v s = refuse s .refusedRange := by
  simp [takeOverrideSet, fault, none]

theorem takeOverrideSet_mismatched {s : State} {b c : Byte} {v : Half} {a : Fin 64} (fault : s.configFault = false)
    (configured : s.configuredActuator b = some a) (none : matchingCommand (s.record a) c v = none) :
    takeOverrideSet b c v s = refuse s .refusedForm := by
  simp [takeOverrideSet, fault, configured, none]

theorem takeOverrideSet_tooFast {s : State} {b c : Byte} {v : Half} {a : Fin 64} {n : Nat} (fault : s.configFault = false)
    (configured : s.configuredActuator b = some a) (run : matchingCommand (s.record a) c v = some (.run n)) (fast : 1000 < n) :
    takeOverrideSet b c v s = refuse s .refusedRange := by
  simp [takeOverrideSet, fault, configured, run, speedInRange, fast]

theorem takeOverrideRelease_unconfigured {s : State} {b : Byte} (all : b ≠ 0xFF) (none : s.configuredActuator b = none) :
    takeOverrideRelease b s = refuse s .refusedRange := by
  rw [takeOverrideRelease, if_neg all]
  simp [takeReleaseOne, none]

theorem takeFaultClear_unconfigured {s : State} {l : Line} {b : Byte} (line : l = .override ∨ l = .building)
    (none : s.configuredActuator b = none) : takeFaultClear l b s = refuse s .refusedRange := by
  have may : lineMaySend l 0x24 = true := by rcases line with rfl | rfl <;> decide
  rw [takeFaultClear, if_neg (by simp only [may, reduceCtorEq, not_false_eq_true])]
  simp [none]

/-! ## The Building Line (R32 to R34, R48, R50) -/

theorem takeNormalSet_fault {s : State} (fault : s.configFault = true) (a c : Byte) (v : Half) :
    takeNormalSet a c v s = refuse s .refusedConfig := by
  simp [takeNormalSet, fault]

theorem takeNormalSet_unconfigured {s : State} {b : Byte} (fault : s.configFault = false)
    (none : s.configuredActuator b = none) (c : Byte) (v : Half) : takeNormalSet b c v s = refuse s .refusedRange := by
  simp [takeNormalSet, fault, none]

theorem takeNormalSet_mismatched {s : State} {b c : Byte} {v : Half} {a : Fin 64} (fault : s.configFault = false)
    (configured : s.configuredActuator b = some a) (none : matchingCommand (s.record a) c v = none) :
    takeNormalSet b c v s = refuse s .refusedForm := by
  simp [takeNormalSet, fault, configured, none]

theorem takeNormalRelease_unconfigured {s : State} {b : Byte} (none : s.configuredActuator b = none) :
    takeNormalRelease b s = refuse s .refusedRange := by
  simp [takeNormalRelease, none]

theorem takeNormalGroup_fault {s : State} (fault : s.configFault = true) (body : List Byte) :
    takeNormalGroup body s = refuse s .refusedConfig := by
  simp [takeNormalGroup, fault]

theorem takeTestStart_fault {s : State} (fault : s.configFault = true) (z r : Byte) :
    takeTestStart z r s = refuse s .refusedConfig := by
  simp [takeTestStart, fault]

theorem takeTestStart_unconfigured {s : State} {b : Byte} (fault : s.configFault = false) (none : s.configuredZone b = none)
    (r : Byte) : takeTestStart b r s = refuse s .refusedRange := by
  simp [takeTestStart, fault, none]

theorem takeTestStart_noReason {s : State} {b code : Byte} {z : Fin 24} (fault : s.configFault = false)
    (configured : s.configuredZone b = some z) (none : testReasonOf code = none) :
    takeTestStart b code s = refuse s .refusedForm := by
  simp [takeTestStart, fault, configured, none]

theorem takeTestStart_keyOff {s : State} {b code : Byte} {z : Fin 24} (fault : s.configFault = false)
    (configured : s.configuredZone b = some z) (reason : testReasonOf code = some .commissioning)
    (key : s.key.debounced ≠ .on) : takeTestStart b code s = refuse s .refusedKey := by
  have off : s.keyOn = false := by rw [← Bool.not_eq_true, keyOn_iff]; exact key
  simp [takeTestStart, fault, configured, reason, off]

theorem takeTestStart_active {s : State} {b code : Byte} {z : Fin 24} {why : TestReason} (fault : s.configFault = false)
    (configured : s.configuredZone b = some z) (reason : testReasonOf code = some why)
    (key : why ≠ .commissioning ∨ s.key.debounced = .on) (active : ∃ y, (s.zone y).mode ≠ .none) :
    takeTestStart b code s = refuse s .refusedState := by
  have passes : ¬ (why = .commissioning ∧ s.keyOn = false) := by
    rw [← Bool.not_eq_true, keyOn_iff]
    rintro ⟨commissioning, off⟩
    exact key.elim (absurd commissioning) off
  have notNormal : s.allZonesNormal = false := by
    rw [← Bool.not_eq_true, allZonesNormal_iff]
    simpa using active
  simp only [takeTestStart, fault, configured, reason, notNormal, if_neg passes, Bool.false_eq_true, if_false]

theorem takeTestEnd_unconfigured {s : State} {b : Byte} (none : s.configuredZone b = none) :
    takeTestEnd b s = refuse s .refusedRange := by
  simp [takeTestEnd, none]

/-! ## The configuration requests (R182, R183, R185) -/

theorem takeConfigRead_length {body : List Byte} (h : body.length ≠ 5) (s : State) :
    takeConfigRead body s = refuse s .refusedForm := by
  unfold takeConfigRead
  split
  · exact absurd rfl h
  · rfl

theorem takeConfigRead_fields {code source hi lo len : Byte} {s : State} {r : Result}
    (e : configReadFields code source (hi ++ lo : BitVec 16).toNat len.toNat s = Reply.bare r) :
    takeConfigRead [code, source, hi, lo, len] s = refuse s r :=
  congrArg (unchanged s) e

theorem configReadFields_unknown {s : State} {code : Byte} (idle : s.store.writing = none) (unknown : sectorOf code = none)
    (source : Byte) (offset length : Nat) : configReadFields code source offset length s = Reply.bare .refusedRange := by
  simp [configReadFields, idle, unknown]

theorem configReadFields_beyond {s : State} {code : Byte} {sec : Sector} {offset length : Nat} (idle : s.store.writing = none)
    (known : sectorOf code = some sec) (beyond : sectorSize sec < offset + length) (source : Byte) :
    configReadFields code source offset length s = Reply.bare .refusedRange := by
  simp [configReadFields, idle, known, beyond]

theorem configReadFields_form {s : State} {code source : Byte} {sec : Sector} {offset length : Nat}
    (idle : s.store.writing = none) (known : sectorOf code = some sec) (inside : offset + length ≤ sectorSize sec)
    (form : (source ≠ 0x01 ∧ source ≠ 0x02) ∨ length < 1 ∨ 96 < length) :
    configReadFields code source offset length s = Reply.bare .refusedForm := by
  unfold configReadFields
  rw [if_neg (by simp [idle]), known]
  dsimp only
  rw [if_neg (Nat.not_lt.2 inside)]
  exact if_pos form

theorem takeConfigWrite_length {body : List Byte} (h : body.length < 4 ∨ 99 < body.length) (s : State) :
    takeConfigWrite body s = refuse s .refusedForm := by
  unfold takeConfigWrite
  split
  · rename_i sector hi lo chunk
    rw [if_neg]
    simp only [List.length_cons, maxChunk] at h ⊢
    omega
  · rfl

theorem takeConfigWrite_fields {chunk : List Byte} (low : 1 ≤ chunk.length) (high : chunk.length ≤ 96) (code hi lo : Byte)
    (s : State) :
    takeConfigWrite (code :: hi :: lo :: chunk) s = configWriteFields code (hi ++ lo : BitVec 16).toNat chunk s :=
  if_pos ⟨low, high⟩

theorem configWriteFields_busy {s : State} (busy : s.store.writing ≠ none) (code : Byte) (offset : Nat) (chunk : List Byte) :
    configWriteFields code offset chunk s = refuse s .busy := by
  simp [configWriteFields, Option.isSome_iff_ne_none, busy]

theorem configWriteFields_unknown {s : State} {code : Byte} (idle : s.store.writing = none) (unknown : sectorOf code = none)
    (offset : Nat) (chunk : List Byte) : configWriteFields code offset chunk s = refuse s .refusedRange := by
  simp [configWriteFields, idle, unknown]

theorem configWriteFields_beyond {s : State} {code : Byte} {sec : Sector} {offset : Nat} {chunk : List Byte}
    (idle : s.store.writing = none) (known : sectorOf code = some sec) (beyond : sectorSize sec < offset + chunk.length) :
    configWriteFields code offset chunk s = refuse s .refusedRange := by
  simp [configWriteFields, idle, known, beyond]

theorem takeConfigActivate_unknown {s : State} {code : Byte} (idle : s.store.writing = none) (unknown : sectorOf code = none)
    (action : Byte) : takeConfigActivate [code, action] s = refuse s .refusedRange := by
  simp [takeConfigActivate, idle, unknown]

/-- Settles O29, by the failing check of each request. -/
theorem refusalsChangeNothing : Obligations.RefusalsChangeNothing := by
  refine ⟨fun s p takes => ⟨?_, ?_, ?_⟩, fun s takes => ⟨?_, ?_, ?_⟩, ?_, fun s takes => ⟨?_, ?_, ?_, ?_, ?_, ?_, ?_, ?_, ?_⟩⟩
  · exact fun fault z => request_refused takes (takeZoneAlarm_fault fault p z)
  · intro b none
    have unreported := reportedZone_unconfigured (p := p) none
    exact ⟨fun fault => request_refused takes (takeZoneAlarm_unreported fault unreported),
      request_refused takes (takeZoneReset_unreported unreported)⟩
  · intro b z d number defined notReported
    have unreported := reportedZone_unreported number defined notReported
    exact ⟨fun fault => request_refused takes (takeZoneAlarm_unreported fault unreported),
      request_refused takes (takeZoneReset_unreported unreported)⟩
  · exact fun fault a c v => request_refused takes (takeOverrideSet_fault fault a c v)
  · exact fun b none => ⟨fun fault c v => request_refused takes (takeOverrideSet_unconfigured fault none c v),
      fun all => request_refused takes (takeOverrideRelease_unconfigured all none)⟩
  · exact fun b a c v configured fault =>
      ⟨fun none => request_refused takes (takeOverrideSet_mismatched fault configured none),
        fun n run fast => request_refused takes (takeOverrideSet_tooFast fault configured run fast)⟩
  · exact fun s l takes line b none => request_refused takes (takeFaultClear_unconfigured line none)
  · exact fun fault => ⟨fun z r => request_refused takes (takeTestStart_fault fault z r),
      fun a c v => request_refused takes (takeNormalSet_fault fault a c v),
      fun body => request_refused takes (takeNormalGroup_fault fault body)⟩
  · exact fun b none => ⟨fun fault c v => request_refused takes (takeNormalSet_unconfigured fault none c v),
      request_refused takes (takeNormalRelease_unconfigured none)⟩
  · exact fun b a c v configured fault none => request_refused takes (takeNormalSet_mismatched fault configured none)
  · exact fun b none => ⟨fun fault r => request_refused takes (takeTestStart_unconfigured fault none r),
      request_refused takes (takeTestEnd_unconfigured none)⟩
  · exact fun b z code configured fault =>
      ⟨fun none => request_refused takes (takeTestStart_noReason fault configured none),
        fun reason key => request_refused takes (takeTestStart_keyOff fault configured reason key),
        fun why reason key active => request_refused takes (takeTestStart_active fault configured reason key active)⟩
  · exact fun body length => request_refused takes (takeConfigRead_length length s)
  · exact fun body length => request_refused takes (takeConfigWrite_length length s)
  · exact fun code hi lo chunk low high busy =>
      request_refused takes ((takeConfigWrite_fields low high code hi lo s).trans (configWriteFields_busy busy _ _ _))
  · intro idle code
    refine ⟨fun unknown => ⟨?_, ?_, ?_, ?_⟩, fun sec hi lo known => ⟨?_, ?_, ?_⟩⟩
    · exact fun source hi lo len => request_refused takes
        (takeConfigRead_fields (configReadFields_unknown idle unknown source _ _))
    · exact fun hi lo chunk low high => request_refused takes
        ((takeConfigWrite_fields low high code hi lo s).trans (configWriteFields_unknown idle unknown _ _))
    · exact request_refused takes (takeConfigActivate_unknown idle unknown _)
    · exact request_refused takes (takeConfigActivate_unknown idle unknown _)
    · exact fun source len beyond => request_refused takes
        (takeConfigRead_fields (configReadFields_beyond idle known beyond source))
    · exact fun source len inside form => request_refused takes
        (takeConfigRead_fields (configReadFields_form idle known inside form))
    · exact fun chunk low high beyond => request_refused takes
        ((takeConfigWrite_fields low high code hi lo s).trans (configWriteFields_beyond idle known beyond))

end Sys2Proof.Machine

end
/-! # What the reads show (R13, R36, R57, R81, R106, R129, R180) -/

section

namespace Sys2Proof.Machine

/-! ## Times and timers -/

theorem shownTenths_shown (ms : Nat) : ShownTenths ms (shownTenths ms) := by
  unfold ShownTenths shownTenths
  split_ifs <;> omega

theorem shownTimer_shows (now : Nat) (timer : Timer) : ShowsTimer now timer (shownTimer now timer) := by
  cases timer with
  | stopped => rfl
  | running e => exact ⟨_, rfl, shownTenths_shown _⟩
  | frozen ms => exact ⟨_, rfl, shownTenths_shown _⟩

theorem damperTimer_shows (now : Nat) (d : DamperDrive) : ShowsDamperTimer now d (damperTimer now d) := by
  unfold ShowsDamperTimer damperTimer
  cases d.travel with
  | running e => exact ⟨_, rfl, shownTenths_shown _⟩
  | frozen ms => exact ⟨_, rfl, shownTenths_shown _⟩
  | stopped =>
    cases d.deadTimer with
    | some e => exact ⟨_, rfl, shownTenths_shown _⟩
    | none =>
      cases d.coolTimer with
      | some e => exact ⟨_, rfl, shownTenths_shown _⟩
      | none => rfl

theorem fanTimer_shows (now : Nat) (f : FanDrive) : ShowsFanTimer now f (fanTimer now f) := by
  unfold ShowsFanTimer fanTimer
  refine ⟨fun waiting => if_pos waiting, fun waiting => ?_⟩
  rw [if_neg (by simp [waiting])]
  cases f.startTimer with
  | some e => exact ⟨_, rfl, shownTenths_shown _⟩
  | none =>
    cases f.stopTimer with
    | some e => exact ⟨_, rfl, shownTenths_shown _⟩
    | none =>
      cases f.lossTimer with
      | some e => exact ⟨_, rfl, shownTenths_shown _⟩
      | none =>
        cases f.restartTimer with
        | some e => exact ⟨_, rfl, shownTenths_shown _⟩
        | none => rfl

/-! ## READ-ZONE -/

theorem zoneOf_val {b : Byte} {z : Fin 24} (h : b.toNat = z.val) : zoneOf b = some z := by
  unfold zoneOf
  rw [dif_pos (h ▸ z.isLt)]
  exact congrArg some (Fin.ext h)

theorem zoneOf_none {b : Byte} (h : 24 ≤ b.toNat) : zoneOf b = none := dif_neg (Nat.not_lt.2 h)

theorem zonePart_none (s : State) (z : Fin 24) {part : Nat} (h : 7 ≤ part) : s.zonePart z part = none := by
  obtain ⟨n, rfl⟩ := Nat.exists_eq_add_of_le' h
  rfl

theorem takeReadZone_refused {s : State} {zone part : Byte} (h : 24 ≤ zone.toNat ∨ 7 ≤ part.toNat) :
    takeReadZone zone part s = refuse s .refusedRange := by
  unfold takeReadZone
  cases number : zoneOf zone with
  | none => rfl
  | some z =>
    rcases h with above | above
    · rw [zoneOf_none above] at number
      cases number
    · dsimp only
      rw [zonePart_none s z above]

theorem takeReadZone_shows {s : State} {zone part : Byte} {z : Fin 24} {body : AnswerBody} (number : zone.toNat = z.val)
    (shown : s.zonePart z part.toNat = some body) :
    takeReadZone zone part s = (s, { result := .done, body := body }) := by
  simp [takeReadZone, zoneOf_val number, shown, unchanged]

theorem stageCommands_get (s : State) (cs : CurrentStage) (i : Nat) :
    (stageCommands s cs)[i]? = ((s.stageOf cs).commands[i]?).map (fun c => (c, cs.outcomes[i]?)) := by
  have outcome (n : Nat) (h : i < n) :
      (cs.outcomes.map some ++ List.replicate (n - cs.outcomes.length) none)[i]? = some cs.outcomes[i]? := by
    by_cases issued : i < cs.outcomes.length
    · simp [List.getElem?_append_left, issued]
    · rw [List.getElem?_append_right (by simpa using issued), List.getElem?_replicate_of_lt (by simp; omega),
        List.getElem?_eq_none (by omega)]
  simp only [stageCommands, List.zip, List.getElem?_zipWith']
  by_cases h : i < (s.stageOf cs).commands.length
  · rw [outcome _ h, List.getElem?_eq_getElem h]
    rfl
  · rw [List.getElem?_eq_none (by omega)]
    rfl

theorem activationPlace_get {s : State} {z : Fin 24} {i : Nat} (h : s.activationPlace z = some i) :
    s.activation[i]? = some z := by
  unfold State.activationPlace at h
  split at h
  · rename_i mem
    obtain rfl := Option.some.inj h
    have mem : z ∈ s.activation := by simpa using mem
    rw [List.getElem?_eq_getElem (List.idxOf_lt_length_of_mem mem), List.getElem_idxOf]
  · cases h

theorem activationPlace_none (s : State) (z : Fin 24) : s.activationPlace z = none ↔ z ∉ s.activation := by
  simp [State.activationPlace]

theorem mem_mapEntries (r : ZoneRecord) (low high : Nat) (a : Fin 64) (e : MapEntry) :
    (a, e) ∈ mapEntries r low high ↔ r.map[a] = some e ∧ low ≤ a.val ∧ a.val ≤ high := by
  simp only [mapEntries, List.mem_filterMap, List.mem_filter, List.mem_finRange, true_and, decide_eq_true_iff,
    Option.map_eq_some_iff, Prod.mk.injEq]
  constructor
  · rintro ⟨b, inside, f, entry, rfl, rfl⟩
    exact ⟨entry, inside⟩
  · rintro ⟨entry, inside⟩
    exact ⟨a, inside, e, entry, rfl, rfl⟩

theorem mapEntries_ascending (r : ZoneRecord) (low high : Nat) : (mapEntries r low high).Pairwise (fun x y => x.1 < y.1) := by
  have sorted : ((List.finRange 64).filter (fun a => decide (low ≤ a.val ∧ a.val ≤ high))).Pairwise (· < ·) :=
    (List.pairwise_lt_finRange 64).filter _
  refine List.Pairwise.filterMap _ (fun a b less x hx y hy => ?_) sorted
  simp only [Option.map_eq_some_iff] at hx hy
  obtain ⟨_, -, rfl⟩ := hx
  obtain ⟨_, -, rfl⟩ := hy
  exact less

theorem testPart_entries (r : ZoneRecord) (start : Nat) (t : TestRecord) (h : r.lastTest = some t) :
    ∃ entries, testPart r start =
        some ({ reason := t.reason, ended := t.ended, finalPhase := t.finalPhase, failed := t.failed }, entries) ∧
      ∀ i, entries[i]? = if i < 4 then t.entries[start + i]? else none := by
  refine ⟨(t.entries.drop start).take 4, by simp [testPart, h, testHeader], fun i => ?_⟩
  rw [List.getElem?_take, List.getElem?_drop]

theorem testPart_none (r : ZoneRecord) (start : Nat) : testPart r start = none ↔ r.lastTest = none := by
  simp [testPart]

theorem zonePart_test (s : State) (z : Fin 24) {part : Nat} (low : 3 ≤ part) (high : part ≤ 6) :
    s.zonePart z part = some (.testPart (testPart (s.zone z) (4 * (part - 3)))) := by
  interval_cases part <;> rfl

/-! ## READ-ACTUATOR -/

theorem takeReadActuator_refused {s : State} {b : Byte} (none : s.configuredActuator b = none) :
    takeReadActuator b s = refuse s .refusedRange := by
  simp [takeReadActuator, none]

theorem takeReadActuator_shows {s : State} {b : Byte} {a : Fin 64} (configured : s.configuredActuator b = some a) :
    takeReadActuator b s = (s, { result := .done, body := .actuator (s.actuatorView a) }) := by
  simp [takeReadActuator, configured, unchanged]

theorem driveView_damper {s : State} {a : Fin 64} {d : DamperDrive} {ctx : DamperCtx} (drive : s.drive a = .damper d)
    (hctx : s.damperCtx a = some ctx) : s.driveView a = .damper (damperView ctx d) := by
  simp [State.driveView, drive, hctx]

theorem driveView_fan {s : State} {a : Fin 64} {f : FanDrive} {ctx : FanCtx} (drive : s.drive a = .fan f)
    (hctx : s.fanCtx a = some ctx) : s.driveView a = .fan (fanView ctx (fun o => s.applied[o]) f) := by
  simp [State.driveView, drive, hctx]

theorem driveView_noDamper {s : State} {a : Fin 64} {ctx : DamperCtx} (drive : s.drive a = .none)
    (hctx : s.damperCtx a = some ctx) : s.driveView a = .damper (damperViewAtFault ctx) := by
  simp [State.driveView, drive, hctx]

theorem driveView_noFan {s : State} {a : Fin 64} {ctx : FanCtx} (drive : s.drive a = .none)
    (hctx : s.fanCtx a = some ctx) : s.driveView a = .fan (fanViewAtFault ctx) := by
  simp [State.driveView, drive, hctx, damperCtx_fan hctx]

theorem damperCtx_now {s : State} {a : Fin 64} {ctx : DamperCtx} (h : s.damperCtx a = some ctx) : ctx.now = s.now := by
  unfold State.damperCtx at h
  cases record : s.record a <;> simp_all <;> rw [← h]

theorem fanCtx_now {s : State} {a : Fin 64} {ctx : FanCtx} (h : s.fanCtx a = some ctx) : ctx.now = s.now := by
  unfold State.fanCtx at h
  cases record : s.record a <;> simp_all
  rw [← h]

/-- The pressure channel that a fan sees is the one its record names (R3, R111). -/
theorem fanCtx_channel {s : State} {a : Fin 64} {ctx : FanCtx} (h : s.fanCtx a = some ctx) :
    ctx.channel = ctx.definition.pressure.map (fun p => ((s.channel p.channel).status, (s.channel p.channel).value)) := by
  unfold State.fanCtx at h
  cases record : s.record a <;> simp_all
  rw [← h]

/-- What is shown of a restart bar (R106). -/
theorem shownBar (now : Nat) (bar : Option Nat) :
    (let shown := (bar.filter (youngerThanWindow now)).map (fun t => shownUntil now (t + reversalWindow))
     ((∀ t, bar = some t → 60000 ≤ now - t) → shown = none) ∧
      ∀ t, bar = some t → now - t < 60000 → ∃ n, shown = some n ∧ ShownTenths (t + 60000 - now) n) := by
  cases bar with
  | none => simp
  | some t =>
    by_cases young : now - t < 60000
    · have young' : youngerThanWindow now t = true := decide_eq_true young
      refine ⟨fun old => absurd (old t rfl) (by omega), fun u e _ => ?_⟩
      obtain rfl := Option.some.inj e
      refine ⟨shownUntil now (t + reversalWindow), ?_, shownTenths_shown _⟩
      rw [Option.filter_some_pos young']
      rfl
    · have old' : youngerThanWindow now t = false := decide_eq_false young
      refine ⟨fun _ => ?_, fun u e lt => absurd lt (by obtain rfl := Option.some.inj e; exact young)⟩
      rw [Option.filter_some_neg (by simp [old'])]
      rfl

/-- A pending direction and the interruption mark are shown in DEAD-TIME and COOLDOWN alone (R106). -/
theorem damperView_pending (ctx : DamperCtx) (d : DamperDrive) :
    (let waits := d.state = .deadTime ∨ d.state = .cooldown
     (waits → (damperView ctx d).pending = d.pending ∧ (damperView ctx d).interrupted = d.interrupted) ∧
      (¬ waits → (damperView ctx d).pending = none ∧ (damperView ctx d).interrupted = false)) := by
  have shown : showsPending d = true ↔ d.state = .deadTime ∨ d.state = .cooldown := by simp [showsPending]
  refine ⟨fun waits => ?_, fun waits => ?_⟩
  · simp [damperView, shown.2 waits]
  · have hidden : showsPending d = false := by rwa [← Bool.not_eq_true, shown]
    simp [damperView, hidden]

/-- Settles O23, part by part of the two reads. -/
theorem readsShowTheRecords : Obligations.ReadsShowTheRecords := by
  refine ⟨fun l zone part s takes => ⟨fun above => ?_, fun z number => ⟨?_, ?_, ?_⟩⟩, fun l b s takes =>
    ⟨fun none => ?_, fun a configured => ?_⟩⟩
  · exact request_refused takes (takeReadZone_refused above)
  · rintro rfl
    refine ⟨s.zoneView z, request_answers takes (takeReadZone_shows number rfl), rfl, rfl, rfl, rfl, rfl, rfl, rfl, rfl, rfl,
      rfl, rfl, fun i place => activationPlace_get place, activationPlace_none s z, fun noStage => ?_, fun cs stage => ?_⟩
    · simp [State.zoneView, noStage]
    · exact ⟨stageView s cs, by simp [State.zoneView, stage], rfl, rfl, rfl, rfl, shownTimer_shows _ _, shownTimer_shows _ _,
        shownTimer_shows _ _, stageCommands_get s cs⟩
  · rintro (rfl | rfl)
    · refine ⟨_, request_answers takes (takeReadZone_shows number rfl), fun a e => ?_, mapEntries_ascending ..⟩
      rw [mem_mapEntries]
      refine and_congr_right fun _ => ?_
      show 0 ≤ a.val ∧ a.val ≤ 31 ↔ a.val / 32 + 1 = 1
      omega
    · refine ⟨_, request_answers takes (takeReadZone_shows number rfl), fun a e => ?_, mapEntries_ascending ..⟩
      rw [mem_mapEntries]
      refine and_congr_right fun _ => ?_
      show 32 ≤ a.val ∧ a.val ≤ 63 ↔ a.val / 32 + 1 = 2
      omega
  · exact fun low high => ⟨_, request_answers takes (takeReadZone_shows number (zonePart_test s z low high)),
      testPart_none _ _, fun t record => testPart_entries _ _ t record⟩
  · exact request_refused takes (takeReadActuator_refused none)
  · refine ⟨s.actuatorView a, request_answers takes (takeReadActuator_shows configured), rfl, rfl, rfl, ?_, ?_, ?_, ?_, ?_, ?_⟩
    · simp [State.actuatorView]
    · simp [State.actuatorView, claimView]
    · intro c mem
      obtain ⟨x, -, rfl⟩ := List.mem_map.1 mem
      exact ⟨rfl, rfl⟩
    · intro d ctx drive hctx
      refine ⟨damperView ctx d, driveView_damper drive hctx, rfl, rfl, rfl, rfl, rfl, rfl, rfl, ?_, ?_, rfl, rfl, ?_, ?_⟩
      · rw [← damperCtx_now hctx]; rfl
      · rw [← damperCtx_now hctx]; exact damperTimer_shows _ _
      · exact damperView_pending ctx d
      · rw [← damperCtx_now hctx]; exact shownBar _ _
    · intro f ctx drive hctx
      refine ⟨fanView ctx (fun o => s.applied[o]) f, driveView_fan drive hctx, rfl, rfl, rfl, rfl, rfl, rfl, rfl, ?_, rfl,
        ?_, ?_, ?_, ?_⟩
      · rw [← fanCtx_now hctx]; exact fanTimer_shows _ _
      · intro unnamed; simp [fanView, pressureView, unnamed]
      · intro p named; simp [fanView, pressureView, fanCtx_channel hctx, named]
      · intro fixed; simp [fanView, speedView, fixed]
      · intro sd speed
        simp only [fanView, speedView, speed, Option.map_some, extensionCount_eq, baseCount]
    · intro drive
      refine ⟨fun damper => ?_, fun fan => ?_⟩
      · obtain ⟨ctx, hctx⟩ := Option.isSome_iff_exists.1 damper
        exact ⟨_, driveView_noDamper drive hctx, rfl, rfl, rfl, rfl, rfl, rfl⟩
      · obtain ⟨ctx, hctx⟩ := Option.isSome_iff_exists.1 fan
        obtain ⟨stops, -⟩ := createFan_created ctx
        refine ⟨_, driveView_noFan drive hctx, rfl, stops.1, stops.2.2.2.1, fun y speed => ?_⟩
        simp only [fanViewAtFault, fanView, speedView, Option.map_eq_some_iff] at speed
        obtain ⟨sd, -, rfl⟩ := speed
        rfl

end Sys2Proof.Machine

end
/-! # What a pass of validation clears leaves the definitions (R184) -/

section

namespace Sys2Proof.Machine

/-! ## The bytes of a cleared image -/

theorem listedByte_filter (p : Nat → Bool) (img : Image) (o : Nat) :
    listedByte (img.filter (fun c => p c.1)) o = if p o then listedByte img o else none := by
  induction img with
  | nil => simp [listedByte]
  | cons cell rest ih =>
    obtain ⟨off, b⟩ := cell
    by_cases keep : p off = true
    · rw [List.filter_cons_of_pos (by exact keep)]
      by_cases same : off = o
      · subst same; simp [listedByte, keep]
      · simp [listedByte, same, ih]
    · rw [List.filter_cons_of_neg (by exact keep), ih]
      by_cases same : off = o
      · subst same; simp [keep]
      · simp [listedByte, same]

/-- Every byte of no record is cleared to the blank image's, and every other stands (R184). -/
theorem readByte_clearForeign (sec : Sector) (img : Image) (o : Nat) :
    readByte sec (clearForeign sec img) o = if byteBelongs sec img o then readByte sec img o else blankByte sec o := by
  unfold readByte clearForeign
  rw [listedByte_filter]
  split <;> rfl

theorem readByte_kept {sec : Sector} {img : Image} {o : Nat} (h : byteBelongs sec img o = true) :
    readByte sec (clearForeign sec img) o = readByte sec img o := by
  rw [readByte_clearForeign, if_pos h]

/-! ## PLANT -/

theorem byteBelongs_actuator {img : Image} {a f : Nat} (ha : a < 64) (hf : f < 25) :
    byteBelongs .plant img (actuatorBase a + f) = actuatorFieldBelongs img a f := by
  have low : actuatorBase a + f < 1600 := by unfold actuatorBase; omega
  have number : (actuatorBase a + f) / 25 = a := by unfold actuatorBase; omega
  have field : (actuatorBase a + f) % 25 = f := by unfold actuatorBase; omega
  simp only [byteBelongs, low, number, field, if_true]

theorem actByte_kept {img : Image} {a f : Nat} (ha : a < 64) (hf : f < 25) (h : actuatorFieldBelongs img a f = true) :
    actByte (clearForeign .plant img) a f = actByte img a f := by
  have kept := readByte_kept ((byteBelongs_actuator ha hf).trans h)
  simp only [actByte, byteField, kept]

theorem actHalf_kept {img : Image} {a f : Nat} (ha : a < 64) (hf : f < 24) (h : actuatorFieldBelongs img a f = true)
    (h' : actuatorFieldBelongs img a (f + 1) = true) :
    actHalf (clearForeign .plant img) a f = actHalf img a f := by
  have high := readByte_kept ((byteBelongs_actuator ha (by omega)).trans h)
  have low := readByte_kept ((byteBelongs_actuator ha (by omega)).trans h')
  simp only [actHalf, unsignedField, halfField, Nat.add_assoc, high, low]

theorem inputField_kept {img : Image} {a f : Nat} (ha : a < 64) (hf : f < 24) (h : actuatorFieldBelongs img a f = true)
    (h' : (actByte img a f).isSome = true → actuatorFieldBelongs img a (f + 1) = true) :
    inputField (clearForeign .plant img) a f = inputField img a f := by
  unfold inputField
  rw [actByte_kept ha (by omega) h]
  cases number : actByte img a f with
  | none => rfl
  | some n => rw [actByte_kept ha (by omega) (h' (by simp [number]))]

theorem switchField_kept {img : Image} {a f : Nat} {required : Bool} (ha : a < 64) (hf : f < 24)
    (h : required = true → actuatorFieldBelongs img a f = true ∧ actuatorFieldBelongs img a (f + 1) = true) :
    switchField required (clearForeign .plant img) a f = switchField required img a f := by
  cases required with
  | false => rfl
  | true => simp only [switchField, if_true, inputField_kept ha hf (h rfl).1 (fun _ => (h rfl).2)]

theorem fanField_kept {img : Image} {a : Nat} (ha : a < 64) (kind : actByte img a 0 = some 1) :
    fanField (clearForeign .plant img) a = fanField img a := by
  have mem : ∀ f ∈ [0, 1, 2, 4, 6, 10, 11, 12, 13, 14, 15, 16, 17, 18, 20, 21, 22, 23],
      actuatorFieldBelongs img a f = true := by
    intro f hf
    simp only [actuatorFieldBelongs, kind, hf, decide_true, Bool.true_or]
  have input : (actByte img a 6).isSome = true → actuatorFieldBelongs img a (6 + 1) = true := by
    intro some
    simp [actuatorFieldBelongs, kind, some]
  have byte : ∀ f ∈ [2, 4, 10, 11, 18], actByte (clearForeign .plant img) a f = actByte img a f := by
    intro f hf
    exact actByte_kept ha (by fin_cases hf <;> decide) (mem f (by fin_cases hf <;> decide))
  have half : ∀ f ∈ [12, 14, 16, 20, 22], actHalf (clearForeign .plant img) a f = actHalf img a f := by
    intro f hf
    exact actHalf_kept ha (by fin_cases hf <;> decide) (mem f (by fin_cases hf <;> decide))
      (mem (f + 1) (by fin_cases hf <;> decide))
  simp only [fanField, speedField, pressureField, byte 2 (by decide), byte 4 (by decide), byte 10 (by decide),
    byte 11 (by decide), byte 18 (by decide), half 12 (by decide), half 14 (by decide), half 16 (by decide),
    half 20 (by decide), half 22 (by decide), inputField_kept ha (by omega) (mem 6 (by decide)) input]

theorem reversingField_kept {img : Image} {a : Nat} (ha : a < 64) (kind : actByte img a 0 = some 2) :
    reversingField (clearForeign .plant img) a = reversingField img a := by
  have mem : ∀ f ∈ [0, 1, 2, 3, 5, 11, 20, 21, 22, 23], actuatorFieldBelongs img a f = true := by
    intro f hf
    simp only [actuatorFieldBelongs, kind, hf, decide_true, Bool.true_or]
  have byte : ∀ f ∈ [1, 2, 3, 5, 11], actByte (clearForeign .plant img) a f = actByte img a f := by
    intro f hf
    exact actByte_kept ha (by fin_cases hf <;> decide) (mem f (by fin_cases hf <;> decide))
  have half : ∀ f ∈ [20, 22], actHalf (clearForeign .plant img) a f = actHalf img a f := by
    intro f hf
    exact actHalf_kept ha (by fin_cases hf <;> decide) (mem f (by fin_cases hf <;> decide))
      (mem (f + 1) (by fin_cases hf <;> decide))
  have openSwitch := switchField_kept (img := img) (f := 6) (required := needsOpenSwitch (actByte img a 5)) ha (by omega)
    (fun required => by simp [actuatorFieldBelongs, kind, required])
  have closedSwitch := switchField_kept (img := img) (f := 8) (required := needsClosedSwitch (actByte img a 5)) ha (by omega)
    (fun required => by simp [actuatorFieldBelongs, kind, required])
  simp only [reversingField, byte 1 (by decide), byte 2 (by decide), byte 3 (by decide), byte 5 (by decide),
    byte 11 (by decide), half 20 (by decide), half 22 (by decide), openSwitch, closedSwitch]

theorem springField_kept {img : Image} {a : Nat} (ha : a < 64) (kind : actByte img a 0 = some 3) :
    springField (clearForeign .plant img) a = springField img a := by
  have mem : ∀ f ∈ [0, 1, 2, 5, 19, 20, 21], actuatorFieldBelongs img a f = true := by
    intro f hf
    simp only [actuatorFieldBelongs, kind, hf, decide_true, Bool.true_or]
  have byte : ∀ f ∈ [1, 2, 5, 19], actByte (clearForeign .plant img) a f = actByte img a f := by
    intro f hf
    exact actByte_kept ha (by fin_cases hf <;> decide) (mem f (by fin_cases hf <;> decide))
  have half := actHalf_kept (img := img) (f := 20) ha (by omega) (mem 20 (by decide)) (mem 21 (by decide))
  have openSwitch := switchField_kept (img := img) (f := 6) (required := needsOpenSwitch (actByte img a 5)) ha (by omega)
    (fun required => by simp [actuatorFieldBelongs, kind, required])
  have closedSwitch := switchField_kept (img := img) (f := 8) (required := needsClosedSwitch (actByte img a 5)) ha (by omega)
    (fun required => by simp [actuatorFieldBelongs, kind, required])
  simp only [springField, byte 1 (by decide), byte 2 (by decide), byte 5 (by decide), byte 19 (by decide), half, openSwitch,
    closedSwitch]

/-- An actuator record is of one of the three kinds, or its bytes lay out none (R1, R190). -/
theorem actuatorKind_cases (img : Image) (a : Nat) :
    actByte img a 0 = some 1 ∨ actByte img a 0 = some 2 ∨ actByte img a 0 = some 3 ∨
      (actuatorDefAt img a = .unused ∧ actuatorFieldBelongs img a 0 = false) := by
  unfold actuatorDefAt actuatorFieldBelongs
  split <;> simp_all

theorem actuatorDefAt_kept {img : Image} {a : Nat} (ha : a < 64) :
    actuatorDefAt (clearForeign .plant img) a = actuatorDefAt img a := by
  rcases actuatorKind_cases img a with kind | kind | kind | ⟨unused, foreign⟩
  · have same : actByte (clearForeign .plant img) a 0 = some 1 := by
      rw [actByte_kept ha (by omega) (by simp [actuatorFieldBelongs, kind]), kind]
    simp only [actuatorDefAt, kind, same, fanField_kept ha kind]
  · have same : actByte (clearForeign .plant img) a 0 = some 2 := by
      rw [actByte_kept ha (by omega) (by simp [actuatorFieldBelongs, kind]), kind]
    simp only [actuatorDefAt, kind, same, reversingField_kept ha kind]
  · have same : actByte (clearForeign .plant img) a 0 = some 3 := by
      rw [actByte_kept ha (by omega) (by simp [actuatorFieldBelongs, kind]), kind]
    simp only [actuatorDefAt, kind, same, springField_kept ha kind]
  · have cleared : actByte (clearForeign .plant img) a 0 = some 0 := by
      have blank : readByte .plant (clearForeign .plant img) (actuatorBase a + 0) = 0x00 := by
        rw [readByte_clearForeign, byteBelongs_actuator ha (by omega), foreign]
        exact blankByte_record ⟨a, ha⟩
      simp only [actByte, byteField, blank]
      rfl
    rw [unused]
    simp only [actuatorDefAt, cleared]

theorem plantByte_kept {img : Image} {o : Nat} (h : 1600 ≤ o) :
    readByte .plant (clearForeign .plant img) o = readByte .plant img o :=
  readByte_kept (by simp [byteBelongs, Nat.not_lt.2 h])

theorem scalingAt_kept (img : Image) (c : Nat) : scalingAt (clearForeign .plant img) c = scalingAt img c := by
  have byte : ∀ k, readByte .plant (clearForeign .plant img) (1600 + k) = readByte .plant img (1600 + k) :=
    fun k => plantByte_kept (by omega)
  simp only [scalingAt, unsignedField, signedField, halfField, Nat.add_assoc, byte]

/-- A pass leaves the PLANT definitions that the image lays out (R184). -/
theorem plantOf_clearForeign (img : Image) : plantOf (clearForeign .plant img) = plantOf img := by
  have acts : ∀ a : Fin 64, actuatorDefAt (clearForeign .plant img) a = actuatorDefAt img a :=
    fun a => actuatorDefAt_kept a.isLt
  simp only [plantOf, acts, scalingAt_kept]

/-! ## SEQUENCES -/

theorem zoneByte_kept {img : Image} {z f : Nat} (hz : z < 24) (hf : f < 19) :
    readByte .sequences (clearForeign .sequences img) (zoneBase z + f) = readByte .sequences img (zoneBase z + f) := by
  have low : zoneBase z + f < 456 := by unfold zoneBase; omega
  exact readByte_kept (by simp [byteBelongs, low])

theorem zoneDefAt_kept {img : Image} {z : Nat} (hz : z < 24) (short : zoneByte img z 0 = 1 → zoneByte img z 2 ≤ 16) :
    zoneDefAt (clearForeign .sequences img) z = zoneDefAt img z := by
  have byte : ∀ f < 19, zoneByte (clearForeign .sequences img) z f = zoneByte img z f :=
    fun f hf => congrArg BitVec.toNat (zoneByte_kept hz hf)
  unfold zoneDefAt
  rw [byte 0 (by omega), byte 1 (by omega)]
  by_cases configured : zoneByte img z 0 = 1
  · have stages : zoneStages (clearForeign .sequences img) z = zoneStages img z := by
      unfold zoneStages
      rw [byte 2 (by omega)]
      refine List.map_congr_left fun i hi => Fin.ext ?_
      have lt : 3 + i < 19 := by have := List.mem_range.1 hi; have := short configured; omega
      simp only [Nat.add_assoc, zoneByte_kept hz lt]
    rw [stages]
  · simp only [configured, if_false]

theorem byteBelongs_stage {img : Image} {n f : Nat} (hf : f < 63) :
    byteBelongs .sequences img (stageBase n + f) = stageFieldBelongs img n f := by
  have high : ¬ stageBase n + f < 456 := by unfold stageBase; omega
  have number : (stageBase n + f - 456) / 63 = n := by unfold stageBase; omega
  have field : (stageBase n + f - 456) % 63 = f := by unfold stageBase; omega
  simp only [byteBelongs, high, number, field, if_false]

theorem stageByte_kept {img : Image} {n f : Nat} (hf : f < 63) (h : stageFieldBelongs img n f = true) :
    readByte .sequences (clearForeign .sequences img) (stageBase n + f) = readByte .sequences img (stageBase n + f) :=
  readByte_kept ((byteBelongs_stage hf).trans h)

theorem stageCount_kept {img : Image} {n : Nat} (hn : n < 256) :
    stageCount (clearForeign .sequences img) n = stageCount img n := by
  unfold stageCount
  rw [readByte_clearForeign]
  split
  · rfl
  · rename_i foreign
    have zero : stageCount img n = 0 := by
      by_contra some
      refine foreign ?_
      rw [← Nat.add_zero (stageBase n), byteBelongs_stage (by omega)]
      simp [stageFieldBelongs, some]
    have blank : blankByte .sequences (stageBase n) = 0x00 := blankByte_stage ⟨n, hn⟩
    rw [blank]
    exact zero.symm

theorem entryAt_kept {img : Image} {n i : Nat} (some : stageCount img n ≠ 0) (short : stageCount img n ≤ 12)
    (hi : i < stageCount img n) : entryAt (clearForeign .sequences img) n i = entryAt img n i := by
  have byte : ∀ k < 4, readByte .sequences (clearForeign .sequences img) (stageBase n + (15 + 4 * i + k)) =
      readByte .sequences img (stageBase n + (15 + 4 * i + k)) := by
    intro k hk
    refine stageByte_kept (by omega) ?_
    have high : 15 ≤ 15 + 4 * i + k := by omega
    simp only [stageFieldBelongs, some, high, if_true, if_false, decide_eq_true_iff]
    omega
  have b0 := byte 0 (by omega)
  have b1 := byte 1 (by omega)
  have b2 := byte 2 (by omega)
  have b3 := byte 3 (by omega)
  simp only [Nat.add_zero] at b0
  simp only [entryAt, entryActuator, entryCommand, halfField, Nat.add_assoc] at *
  rw [b0, b1, b2, b3]

theorem stageField_kept {img : Image} {n f : Nat} (hf : f < 63) (h : stageFieldBelongs img n f = true) :
    stageByte (clearForeign .sequences img) n f = stageByte img n f := by
  simp only [stageByte, byteField, stageByte_kept hf h]

theorem stageHalf_kept {img : Image} {n f : Nat} (hf : f < 62) (h : stageFieldBelongs img n f = true)
    (h' : stageFieldBelongs img n (f + 1) = true) : stageHalf (clearForeign .sequences img) n f = stageHalf img n f := by
  have low := stageByte_kept (by omega) h'
  simp only [stageHalf, unsignedField, halfField, Nat.add_assoc, stageByte_kept (by omega) h, low]

/-- The fields of a configured stage that stand whatever its gate mode (R60, R184). -/
theorem stageField_belongs {img : Image} {n f : Nat} (configured : stageCount img n ≠ 0) (hf : f ∈ [1, 2, 5, 6, 7, 8]) :
    stageFieldBelongs img n f = true := by
  fin_cases hf <;> simp [stageFieldBelongs, configured]

theorem gateAt_kept {img : Image} {n : Nat} (configured : stageCount img n ≠ 0) :
    gateAt (clearForeign .sequences img) n = gateAt img n := by
  have mode : stageByte (clearForeign .sequences img) n 2 = stageByte img n 2 :=
    stageField_kept (by omega) (stageField_belongs configured (by decide))
  by_cases gated : stageByte img n 2 = some 1 ∨ stageByte img n 2 = some 2
  · have belongs : ∀ f ∈ [3, 4, 9, 10, 11, 12], stageFieldBelongs img n f = true := by
      intro f hf
      fin_cases hf <;> simpa [stageFieldBelongs, configured] using gated
    have value : signedField .sequences (clearForeign .sequences img) (stageBase n + 9) =
        signedField .sequences img (stageBase n + 9) := by
      have low := stageByte_kept (img := img) (n := n) (f := 9 + 1) (by omega) (belongs 10 (by decide))
      simp only [signedField, halfField, Nat.add_assoc, stageByte_kept (by omega) (belongs 9 (by decide)), low]
    have channel := stageField_kept (by omega) (belongs 3 (by decide))
    have comparison := stageField_kept (by omega) (belongs 4 (by decide))
    have tolerance := stageHalf_kept (by omega) (belongs 11 (by decide)) (belongs 12 (by decide))
    have wait (waits : stageByte img n 2 = some 2) : stageHalf (clearForeign .sequences img) n 13 = stageHalf img n 13 :=
      stageHalf_kept (by omega) (by simp [stageFieldBelongs, configured, waits])
        (by simp [stageFieldBelongs, configured, waits])
    rcases gated with skips | waits
    · simp only [gateAt, mode, channel, comparison, tolerance, value, skips]
      rfl
    · simp only [gateAt, mode, channel, comparison, tolerance, value, wait waits]
  · have noMode : ∀ image, stageByte image n 2 = stageByte img n 2 → gateAt image n = none := by
      intro image same
      unfold gateAt
      rw [same]
      split <;> simp_all
    rw [noMode _ mode, noMode _ rfl]

theorem stageDefAt_kept {img : Image} {n : Nat} (hn : n < 256) (short : stageCount img n ≤ 12) :
    stageDefAt (clearForeign .sequences img) n = stageDefAt img n := by
  unfold stageDefAt
  rw [stageCount_kept hn]
  by_cases unused : stageCount img n = 0
  · rw [if_pos unused, if_pos unused]
  · have entries : (List.range (stageCount img n)).filterMap (entryAt (clearForeign .sequences img) n) =
        (List.range (stageCount img n)).filterMap (entryAt img n) :=
      List.filterMap_congr fun i hi => entryAt_kept unused short (List.mem_range.1 hi)
    have belongs := fun f hf => stageField_belongs (f := f) unused hf
    rw [if_neg unused, if_neg unused, entries, gateAt_kept unused, stageField_kept (by omega) (belongs 1 (by decide)),
      stageHalf_kept (by omega) (belongs 5 (by decide)) (belongs 6 (by decide)),
      stageHalf_kept (by omega) (belongs 7 (by decide)) (belongs 8 (by decide))]

end Sys2Proof.Machine

end
/-! # What a passing validation establishes (R10, R140, R184) -/

section

namespace Sys2Proof.Machine

/-! ## The parts of a validation -/

theorem orElseFail_none {x : Option (Nat × Reason)} {y : Unit → Option (Nat × Reason)} :
    orElseFail x y = none ↔ x = none ∧ y () = none := by
  cases x <;> simp [orElseFail]

theorem firstFailing_none {reason : Nat → Option Reason} {base : Nat} {l : List Nat} :
    firstFailing reason base l = none ↔ ∀ i ∈ l, reason i = none := by
  induction l with
  | nil => simp [firstFailing]
  | cons i rest ih =>
    unfold firstFailing
    cases h : reason i <;> simp [h, ih]

theorem noneTwice_iff {α : Type} [DecidableEq α] (l : List α) : noneTwice l = true ↔ l.Nodup := by
  induction l with
  | nil => simp [noneTwice]
  | cons x xs ih => simp [noneTwice, ih]

theorem within_iff {low high : Nat} {v : Option Nat} : within low high v = true ↔ ∃ n, v = some n ∧ low ≤ n ∧ n ≤ high := by
  cases v <;> simp [within]

theorem absentOrWithin_iff {low high : Nat} {v : Option Nat} :
    absentOrWithin low high v = true ↔ ∀ n, v = some n → low ≤ n ∧ n ≤ high := by
  cases v <;> simp [absentOrWithin, within]

theorem pressureInRange_iff {v : Option Int} : pressureInRange v = true ↔ ∃ n, v = some n ∧ -2000 ≤ n ∧ n ≤ 2000 := by
  cases v <;> simp [pressureInRange]

theorem finOf_some {n : Nat} {v : Option Nat} {k : Fin n} (h : finOf n v = some k) : v = some k.val := by
  unfold finOf at h
  cases v with
  | none => cases h
  | some m =>
    dsimp only at h
    split at h
    · cases h; rfl
    · cases h

/-! ## The fields that a record is laid out from -/

theorem inputField_some {img : Image} {a f : Nat} {x : InputRef} (h : inputField img a f = some x) :
    actByte img a f = some x.input.val ∧ actByte img a (f + 1) = some x.count := by
  simp only [inputField, bind, Option.bind_eq_some_iff, pure, Option.some.injEq] at h
  obtain ⟨i, hi, n, hn, rfl⟩ := h
  exact ⟨finOf_some hi, hn⟩

theorem speedField_some {img : Image} {a : Nat} {sd : SpeedDef} (h : speedField img a = some sd) :
    actByte img a 4 = some sd.output.val ∧ actHalf img a 14 = some sd.smin ∧ actHalf img a 16 = some sd.smax ∧
      actByte img a 18 = some sd.rate := by
  simp only [speedField, bind, Option.bind_eq_some_iff, pure, Option.some.injEq] at h
  obtain ⟨o, ho, low, hlow, high, hhigh, rate, hrate, rfl⟩ := h
  exact ⟨finOf_some ho, hlow, hhigh, hrate⟩

theorem pressureField_some {img : Image} {a : Nat} {p : PressureDef} (h : pressureField img a = some p) :
    actByte img a 10 = some p.channel.val ∧ actHalf img a 12 = some p.threshold := by
  simp only [pressureField, bind, Option.bind_eq_some_iff, pure, Option.some.injEq] at h
  obtain ⟨c, hc, t, ht, rfl⟩ := h
  exact ⟨finOf_some hc, ht⟩

theorem fanField_some {img : Image} {a : Nat} {d : FanDef} (h : fanField img a = some d) :
    actByte img a 2 = some d.runOutput.val ∧ actHalf img a 20 = some d.startProofTime ∧
      actHalf img a 22 = some d.stopProofTime ∧ actByte img a 11 = some d.restartAttempts ∧ d.speed = speedField img a ∧
      d.proofInput = inputField img a 6 ∧ d.pressure = pressureField img a := by
  simp only [fanField, bind, Option.bind_eq_some_iff, pure, Option.some.injEq] at h
  obtain ⟨o, ho, start, hstart, stop, hstop, n, hn, rfl⟩ := h
  exact ⟨finOf_some ho, hstart, hstop, hn, rfl, rfl, rfl⟩

/-- A switch stands in a record exactly where the proof mode requires it, and is then the input laid out there (R7). -/
theorem switchField_some {img : Image} {a f : Nat} {required : Bool} {x : Option InputRef}
    (h : switchField required img a f = some x) : x.isSome = required ∧ ∀ y, x = some y → inputField img a f = some y := by
  cases required with
  | false => simp only [switchField, Bool.false_eq_true, if_false, Option.some.injEq] at h; subst h; simp
  | true =>
    simp only [switchField, if_true, Option.map_eq_some_iff] at h
    obtain ⟨y, hy, rfl⟩ := h
    exact ⟨rfl, fun z e => by cases e; exact hy⟩

theorem needsOpenSwitch_iff {v : Option Nat} {mode : ProofMode} (h : modeField v = some mode) :
    needsOpenSwitch v = true ↔ mode = .bothSwitches ∨ mode = .openSwitch := by
  unfold modeField at h
  split_ifs at h with h1 h2 h3 h4 <;> cases h <;> simp [needsOpenSwitch, *]

theorem needsClosedSwitch_iff {v : Option Nat} {mode : ProofMode} (h : modeField v = some mode) :
    needsClosedSwitch v = true ↔ mode = .bothSwitches ∨ mode = .closedSwitch := by
  unfold modeField at h
  split_ifs at h with h1 h2 h3 h4 <;> cases h <;> simp [needsClosedSwitch, *]

theorem reversingField_some {img : Image} {a : Nat} {d : ReversingDef} (h : reversingField img a = some d) :
    actByte img a 2 = some d.openOutput.val ∧ actByte img a 3 = some d.closeOutput.val ∧
      modeField (actByte img a 5) = some d.mode ∧
      switchField (needsOpenSwitch (actByte img a 5)) img a 6 = some d.openSwitch ∧
      switchField (needsClosedSwitch (actByte img a 5)) img a 8 = some d.closedSwitch ∧
      actHalf img a 20 = some d.travelLimit ∧ actHalf img a 22 = some d.deadTime ∧ actByte img a 11 = some d.reversalLimit := by
  simp only [reversingField, bind, Option.bind_eq_some_iff, pure, Option.some.injEq] at h
  obtain ⟨r, -, o, ho, c, hc, m, hm, x, hx, y, hy, t, ht, dead, hdead, n, hn, rfl⟩ := h
  exact ⟨finOf_some ho, finOf_some hc, hm, hx, hy, ht, hdead, hn⟩

theorem springField_some {img : Image} {a : Nat} {d : SpringDef} (h : springField img a = some d) :
    actByte img a 2 = some d.driveOutput.val ∧ modeField (actByte img a 5) = some d.mode ∧
      switchField (needsOpenSwitch (actByte img a 5)) img a 6 = some d.openSwitch ∧
      switchField (needsClosedSwitch (actByte img a 5)) img a 8 = some d.closedSwitch ∧
      actHalf img a 20 = some d.travelLimit := by
  simp only [springField, bind, Option.bind_eq_some_iff, pure, Option.some.injEq] at h
  obtain ⟨r, -, o, ho, m, hm, x, hx, y, hy, fail, -, t, ht, rfl⟩ := h
  exact ⟨finOf_some ho, hm, hx, hy, ht⟩

/-- A record in force is the one that its kind's chapter lays out (R1). -/
theorem actuatorDefAt_eq (img : Image) (a : Nat) :
    actuatorDefAt img a = .unused ∨
      (∃ d, actByte img a 0 = some 1 ∧ fanField img a = some d ∧ actuatorDefAt img a = .fan d) ∨
      (∃ d, actByte img a 0 = some 2 ∧ reversingField img a = some d ∧ actuatorDefAt img a = .reversing d) ∨
      ∃ d, actByte img a 0 = some 3 ∧ springField img a = some d ∧ actuatorDefAt img a = .spring d := by
  unfold actuatorDefAt
  split
  · cases field : fanField img a with
    | none => exact .inl rfl
    | some d => exact .inr (.inl ⟨d, by assumption, rfl, rfl⟩)
  · cases field : reversingField img a with
    | none => exact .inl rfl
    | some d => exact .inr (.inr (.inl ⟨d, by assumption, rfl, rfl⟩))
  · cases field : springField img a with
    | none => exact .inl rfl
    | some d => exact .inr (.inr (.inr ⟨d, by assumption, rfl, rfl⟩))
  · exact .inl rfl

/-! ## One actuator record -/

/-- The checks that a record of each kind has passed (R10). -/
theorem fanReason_none {img : Image} {a : Nat} {lower : List Terminal} (h : fanReason img a lower = none) :
    fanInRange img a = true ∧ (actHalf img a 14).getD 0 ≤ (actHalf img a 16).getD 0 ∧ terminalsFree img a lower = true ∧
      channelScaled img a = true := by
  unfold fanReason at h
  split_ifs at h
  simp_all

theorem reversingReason_none {img : Image} {a : Nat} {lower : List Terminal} (h : reversingReason img a lower = none) :
    reversingInRange img a = true ∧ terminalsFree img a lower = true := by
  unfold reversingReason at h
  split_ifs at h
  simp_all

theorem springReason_none {img : Image} {a : Nat} {lower : List Terminal} (h : springReason img a lower = none) :
    springInRange img a = true ∧ terminalsFree img a lower = true := by
  unfold springReason at h
  split_ifs at h
  simp_all

theorem actByte_kind {img : Image} {a k : Nat} (h : actByte img a 0 = some k) :
    readByte .plant img (actuatorBase a) = BitVec.ofNat 8 k := by
  simp only [actByte, byteField, Nat.add_zero] at h
  split at h
  · cases h
  · cases h
    simp

theorem actuatorReason_fan {img : Image} {a : Nat} {lower : List Terminal} (kind : actByte img a 0 = some 1) :
    actuatorReason img a lower = fanReason img a lower := by
  unfold actuatorReason; rw [actByte_kind kind]; rfl

theorem actuatorReason_reversing {img : Image} {a : Nat} {lower : List Terminal} (kind : actByte img a 0 = some 2) :
    actuatorReason img a lower = reversingReason img a lower := by
  unfold actuatorReason; rw [actByte_kind kind]; rfl

theorem actuatorReason_spring {img : Image} {a : Nat} {lower : List Terminal} (kind : actByte img a 0 = some 3) :
    actuatorReason img a lower = springReason img a lower := by
  unfold actuatorReason; rw [actByte_kind kind]; rfl

theorem inputInRange_count {img : Image} {a f : Nat} {x : InputRef} (range : inputInRange img a f = true)
    (field : inputField img a f = some x) : 1 ≤ x.count ∧ x.count ≤ 15 := by
  obtain ⟨-, count⟩ := inputField_some field
  simp only [inputInRange, Bool.and_eq_true, within_iff, count] at range
  obtain ⟨-, n, e, low, high⟩ := range
  cases e
  exact ⟨low, high⟩

/-- The switches of a damper record that has passed (R7, R10). -/
theorem switches_passed {img : Image} {a : Nat} {mode : ProofMode} {openSwitch closedSwitch : Option InputRef}
    (range : switchesInRange img a = true) (hmode : modeField (actByte img a 5) = some mode)
    (hopen : switchField (needsOpenSwitch (actByte img a 5)) img a 6 = some openSwitch)
    (hclosed : switchField (needsClosedSwitch (actByte img a 5)) img a 8 = some closedSwitch) :
    SwitchesPassed mode openSwitch closedSwitch := by
  obtain ⟨openNeeded, openIs⟩ := switchField_some hopen
  obtain ⟨closedNeeded, closedIs⟩ := switchField_some hclosed
  simp only [switchesInRange, Bool.and_eq_true, Bool.or_eq_true, Bool.not_eq_true', ← openNeeded, ← closedNeeded] at range
  refine ⟨by rw [openNeeded]; exact needsOpenSwitch_iff hmode, by rw [closedNeeded]; exact needsClosedSwitch_iff hmode,
    fun x e => ?_, fun x e => ?_⟩
  · exact inputInRange_count (range.1.resolve_left (by simp [e])) (openIs x e)
  · exact inputInRange_count (range.2.resolve_left (by simp [e])) (closedIs x e)

theorem fan_passed {img : Image} {a : Nat} {lower : List Terminal} {d : FanDef} (h : fanReason img a lower = none)
    (field : fanField img a = some d) : RecordPassed (plantOf img) (.fan d) := by
  obtain ⟨range, limits, -, scaled⟩ := fanReason_none h
  obtain ⟨-, start, stop, attempts, speed, input, pressure⟩ := fanField_some field
  simp only [fanInRange, Bool.and_eq_true, within_iff, absentOrWithin_iff, start, stop, attempts, Option.some.injEq,
    exists_eq_left'] at range
  obtain ⟨⟨⟨⟨⟨⟨⟨⟨⟨⟨⟨-, -⟩, -⟩, hinput⟩, -⟩, hthreshold⟩, -⟩, hmax⟩, hrate⟩, hstart⟩, hstop⟩, hattempts⟩ := range
  refine ⟨fun sd e => ?_, fun x e => ?_, fun x e => ?_, hstart.1, hstart.2, hstop.1, hstop.2, hattempts.2⟩
  · obtain ⟨-, smin, smax, rate⟩ := speedField_some (speed ▸ e)
    rw [smin, smax] at limits
    exact ⟨limits, (hmax _ smax).2, hrate _ rate⟩
  · have field := input ▸ e
    have present := (inputField_some field).1
    exact inputInRange_count ((Bool.or_eq_true _ _ ▸ hinput).resolve_left (by simp [present])) field
  · obtain ⟨channel, threshold⟩ := pressureField_some (pressure ▸ e)
    refine ⟨(hthreshold _ threshold).2, ?_⟩
    simpa [channelScaled, channel, plantOf] using scaled

/-- No terminal of a record is named twice by it (R9, R10). -/
theorem terminalsFree_nodup {img : Image} {a : Nat} {lower : List Terminal} (h : terminalsFree img a lower = true) :
    (terminalsOf img a).Nodup ∧ ∀ t ∈ terminalsOf img a, t ∉ lower := by
  simpa [terminalsFree, noneTwice_iff] using h

theorem reversing_passed {img : Image} {a : Nat} {lower : List Terminal} {d : ReversingDef} (kind : actByte img a 0 = some 2)
    (h : reversingReason img a lower = none) (field : reversingField img a = some d) :
    RecordPassed (plantOf img) (.reversing d) := by
  obtain ⟨range, free⟩ := reversingReason_none h
  obtain ⟨openOutput, closeOutput, hmode, hopen, hclosed, travel, dead, limit⟩ := reversingField_some field
  simp only [reversingInRange, Bool.and_eq_true, within_iff, travel, dead, limit, Option.some.injEq, exists_eq_left'] at range
  obtain ⟨⟨⟨⟨⟨⟨⟨-, -⟩, -⟩, -⟩, hlimit⟩, htravel⟩, hdead⟩, switches⟩ := range
  refine ⟨switches_passed switches hmode hopen hclosed, fun same => ?_, htravel.1, htravel.2, hdead.1, hdead.2, hlimit.1,
    hlimit.2⟩
  have once := (terminalsFree_nodup free).1
  simp [terminalsOf, kind, openOutput, closeOutput, same] at once

theorem spring_passed {img : Image} {a : Nat} {lower : List Terminal} {d : SpringDef}
    (h : springReason img a lower = none) (field : springField img a = some d) : RecordPassed (plantOf img) (.spring d) := by
  obtain ⟨range, -⟩ := springReason_none h
  obtain ⟨-, hmode, hopen, hclosed, travel⟩ := springField_some field
  simp only [springInRange, Bool.and_eq_true, within_iff, travel, Option.some.injEq, exists_eq_left'] at range
  obtain ⟨⟨-, htravel⟩, switches⟩ := range
  exact ⟨switches_passed switches hmode hopen hclosed, htravel.1, htravel.2⟩

/-- A record that has passed its checks has every field in its range (R3 to R7, R10). -/
theorem record_passed {img : Image} {a : Nat} {lower : List Terminal} (h : actuatorReason img a lower = none) :
    RecordPassed (plantOf img) (actuatorDefAt img a) := by
  rcases actuatorDefAt_eq img a with e | ⟨d, kind, field, e⟩ | ⟨d, kind, field, e⟩ | ⟨d, kind, field, e⟩ <;> rw [e]
  · trivial
  · exact fan_passed (actuatorReason_fan kind ▸ h) field
  · exact reversing_passed kind (actuatorReason_reversing kind ▸ h) field
  · exact spring_passed (actuatorReason_spring kind ▸ h) field

/-! ## The terminals of an image (R9, R10) -/

theorem terminalsOf_passed {img : Image} {a : Nat} {lower : List Terminal} (h : actuatorReason img a lower = none) :
    (terminalsOf img a).Nodup ∧ ∀ t ∈ terminalsOf img a, t ∉ lower := by
  by_cases fan : actByte img a 0 = some 1
  · exact terminalsFree_nodup (fanReason_none (actuatorReason_fan fan ▸ h)).2.2.1
  by_cases reversing : actByte img a 0 = some 2
  · exact terminalsFree_nodup (reversingReason_none (actuatorReason_reversing reversing ▸ h)).2
  by_cases spring : actByte img a 0 = some 3
  · exact terminalsFree_nodup (springReason_none (actuatorReason_spring spring ▸ h)).2
  have none : terminalsOf img a = [] := by
    unfold terminalsOf
    split <;> simp_all
  simp [none]

/-- Records that have passed in turn name no terminal twice (R9). -/
theorem actuatorItems_none {img : Image} {l : List Nat} {lower : List Terminal} (h : actuatorItems img l lower = none) :
    (∀ a ∈ l, ∃ before, actuatorReason img a before = none) ∧
      (lower.Nodup → (lower ++ l.flatMap (terminalsOf img)).Nodup) := by
  induction l generalizing lower with
  | nil => simp
  | cons a rest ih =>
    unfold actuatorItems at h
    cases reason : actuatorReason img a lower with
    | some r => simp [reason] at h
    | none =>
      rw [reason] at h
      obtain ⟨passed, nodup⟩ := ih h
      obtain ⟨once, free⟩ := terminalsOf_passed reason
      refine ⟨fun b hb => ?_, fun hl => ?_⟩
      · rcases List.mem_cons.1 hb with rfl | hb
        · exact ⟨lower, reason⟩
        · exact passed b hb
      · rw [List.flatMap_cons, ← List.append_assoc]
        exact nodup (List.nodup_append.2 ⟨hl, once, fun x hx y hy e => free y hy (e ▸ hx)⟩)

/-- What is named through a part of each record's terminals is named once (R9). -/
theorem nodup_flatMap_of_sublist {α β γ : Type} {l : List α} {f : α → List β} {g : α → List γ} (φ : γ → β)
    (sub : ∀ x ∈ l, ((g x).map φ).Sublist (f x)) (h : (l.flatMap f).Nodup) : (l.flatMap g).Nodup := by
  rw [List.nodup_flatMap] at h ⊢
  refine ⟨fun x hx => ((h.1 x hx).sublist (sub x hx)).of_map, ?_⟩
  refine h.2.imp_of_mem fun {x y} hx hy apart z hz hz' => ?_
  exact apart ((sub x hx).subset (List.mem_map_of_mem hz)) ((sub y hy).subset (List.mem_map_of_mem hz'))

theorem switchInputs_sublist {img : Image} {a : Nat} {openSwitch closedSwitch : Option InputRef}
    (hopen : switchField (needsOpenSwitch (actByte img a 5)) img a 6 = some openSwitch)
    (hclosed : switchField (needsClosedSwitch (actByte img a 5)) img a 8 = some closedSwitch) :
    (((openSwitch.toList ++ closedSwitch.toList).map (·.input)).map (fun i : Fin 128 => Terminal.input i)).Sublist
      (switchTerminals img a) := by
  have one {f : Nat} {required : Bool} {x : Option InputRef} (h : switchField required img a f = some x) :
      ((x.toList.map (·.input)).map (fun i : Fin 128 => Terminal.input i)).Sublist
        (if required then (actByte img a f).toList.map .input else []) := by
    obtain ⟨needed, field⟩ := switchField_some h
    cases x with
    | none => simp
    | some y =>
      have present := (inputField_some (field y rfl)).1
      have required : required = true := needed.symm
      simp [required, present]
  rw [List.map_append, List.map_append]
  exact (one hopen).append (one hclosed)

theorem relaysOf_sublist (img : Image) (a : Nat) :
    ((relaysOf (actuatorDefAt img a)).map (fun o : Fin 96 => Terminal.relay o)).Sublist (terminalsOf img a) := by
  rcases actuatorDefAt_eq img a with e | ⟨d, kind, field, e⟩ | ⟨d, kind, field, e⟩ | ⟨d, kind, field, e⟩ <;> rw [e]
  · simp [relaysOf]
  · simp [relaysOf, terminalsOf, kind, (fanField_some field).1]
  · obtain ⟨openOutput, closeOutput, -⟩ := reversingField_some field
    simp [relaysOf, terminalsOf, kind, openOutput, closeOutput]
  · simp [relaysOf, terminalsOf, kind, (springField_some field).1]

theorem speedsOf_sublist (img : Image) (a : Nat) :
    ((speedsOf (actuatorDefAt img a)).map (fun o : Fin 16 => Terminal.speed o)).Sublist (terminalsOf img a) := by
  rcases actuatorDefAt_eq img a with e | ⟨d, kind, field, e⟩ | ⟨d, kind, field, e⟩ | ⟨d, kind, field, e⟩ <;> rw [e]
  · simp [speedsOf]
  · obtain ⟨-, -, -, -, speed, -⟩ := fanField_some field
    have part : ((speedsOf (.fan d)).map (fun o : Fin 16 => Terminal.speed o)).Sublist
        ((actByte img a 4).toList.map .speed) := by
      cases hs : d.speed with
      | none => simp [speedsOf, hs]
      | some sd => simp [speedsOf, hs, (speedField_some (speed ▸ hs)).1]
    refine part.trans ?_
    simp only [terminalsOf, kind]
    exact (List.sublist_append_right _ _).trans (List.sublist_append_left _ _)
  · simp [speedsOf]
  · simp [speedsOf]

theorem inputsOf_sublist (img : Image) (a : Nat) :
    (((namedInputs (actuatorDefAt img a)).map (·.input)).map (fun i : Fin 128 => Terminal.input i)).Sublist
      (terminalsOf img a) := by
  rcases actuatorDefAt_eq img a with e | ⟨d, kind, field, e⟩ | ⟨d, kind, field, e⟩ | ⟨d, kind, field, e⟩ <;> rw [e]
  · simp [namedInputs]
  · obtain ⟨-, -, -, -, -, input, -⟩ := fanField_some field
    have part : (((namedInputs (.fan d)).map (·.input)).map (fun i : Fin 128 => Terminal.input i)).Sublist
        ((actByte img a 6).toList.map .input) := by
      cases hi : d.proofInput with
      | none => simp [namedInputs, hi]
      | some x => simp [namedInputs, hi, (inputField_some (input ▸ hi)).1]
    refine part.trans ?_
    simp only [terminalsOf, kind]
    exact List.sublist_append_right _ _
  · obtain ⟨-, -, -, hopen, hclosed, -⟩ := reversingField_some field
    refine (switchInputs_sublist hopen hclosed).trans ?_
    simp only [terminalsOf, kind]
    exact List.sublist_append_right _ _
  · obtain ⟨-, -, hopen, hclosed, -⟩ := springField_some field
    refine (switchInputs_sublist hopen hclosed).trans ?_
    simp only [terminalsOf, kind]
    exact List.sublist_append_right _ _

theorem range_eq_finRange (n : Nat) : List.range n = (List.finRange n).map Fin.val := by simp

/-! ## PLANT -/

/-- A channel's scaling that has passed (R140). -/
theorem scaling_passed {img : Image} {c : Nat} {x : Scaling} (h : scalingReason img c = none) (e : scalingAt img c = some x) :
    x.clo < x.chi ∧ x.chi ≤ 1023 ∧ -2000 ≤ x.elo ∧ x.elo ≤ 2000 ∧ -2000 ≤ x.ehi ∧ x.ehi ≤ 2000 := by
  simp only [scalingAt, bind, Option.bind_eq_some_iff, pure, Option.some.injEq] at e
  obtain ⟨clo, hclo, chi, hchi, elo, helo, ehi, hehi, rfl⟩ := e
  simp only [scalingReason, hclo, hchi, helo, hehi] at h
  split_ifs at h with h1 h2 h3 h4
  · simp at h1
  · simp only [Bool.not_eq_true', Bool.not_eq_false, Bool.and_eq_true, within_iff, pressureInRange_iff, Option.some.injEq,
      exists_eq_left', Option.getD_some] at h3 h4
    obtain ⟨⟨-, lowElo, highElo⟩, lowEhi, highEhi⟩ := h3
    exact ⟨by show clo < chi; omega, h4.2, lowElo, highElo, lowEhi, highEhi⟩

theorem plant_passed {img ref : Image} (h : validate .plant img ref = none) : PlantPassed (plantOf img) (sequencesOf ref) := by
  simp only [validate, orElseFail_none, firstFailing_none] at h
  obtain ⟨acts, scalings, stages⟩ := h
  obtain ⟨passed, once⟩ := actuatorItems_none acts
  have record : ∀ a : Fin 64, (plantOf img).acts[a] = actuatorDefAt img a := by simp [plantOf]
  have scaling : ∀ c : Fin 16, (plantOf img).scalings[c] = scalingAt img c := by simp [plantOf]
  have terminals : ((List.finRange 64).flatMap (fun a : Fin 64 => terminalsOf img a)).Nodup := by
    have nodup := once List.nodup_nil
    rwa [List.nil_append, range_eq_finRange, List.flatMap_map] at nodup
  refine ⟨fun a => ?_, ?_, ?_, ?_, fun c x e => ?_, fun n d e c hc => ?_⟩
  · rw [record]
    obtain ⟨before, passed⟩ := passed a (List.mem_range.2 a.isLt)
    exact record_passed passed
  · exact nodup_flatMap_of_sublist _ (fun a _ => by rw [record]; exact relaysOf_sublist img a) terminals
  · exact nodup_flatMap_of_sublist _ (fun a _ => by rw [record]; exact speedsOf_sublist img a) terminals
  · exact nodup_flatMap_of_sublist _ (fun a _ => by rw [record]; exact inputsOf_sublist img a) terminals
  · rw [scaling] at e
    exact scaling_passed (scalings c (List.mem_range.2 c.isLt)) e
  · have stage : stageDefAt ref n = some d := by simpa [sequencesOf] using e
    have matched := stages n (List.mem_range.2 n.isLt)
    simp only [mismatchReason, stage] at matched
    rw [record]
    by_contra mismatch
    rw [if_neg] at matched
    · cases matched
    · simp only [List.all_eq_true, not_forall]
      exact ⟨c, hc, mismatch⟩

/-! ## SEQUENCES -/

theorem zoneStages_val (img : Image) (z : Nat) :
    (zoneStages img z).map Fin.val = (List.range (zoneByte img z 2)).map (fun i => zoneByte img z (3 + i)) := by
  simp only [zoneStages, List.map_map]
  refine List.map_congr_left fun i _ => ?_
  simp [zoneByte, Nat.add_assoc]

/-- A zone definition that has passed (R40, R184). -/
theorem zone_passed {img : Image} {z : Nat} {d : ZoneDef} (h : zoneReason img z = none) (e : zoneDefAt img z = some d) :
    (d.panelA = true ∨ d.panelB = true) ∧ 1 ≤ d.sequence.length ∧ d.sequence.length ≤ 16 ∧ d.sequence.Nodup ∧
      ∀ n ∈ d.sequence, stageCount img n ≠ 0 := by
  have configured : zoneByte img z 0 = 1 := by
    by_contra unconfigured
    rw [zoneDefAt, if_neg unconfigured] at e
    cases e
  rw [zoneDefAt, if_pos configured] at e
  cases e
  simp only [zoneReason, configured, ← zoneStages_val, one_ne_zero, ne_eq, not_true_eq_false, if_false] at h
  split_ifs at h with range unused twice
  simp only [Bool.not_eq_true', Bool.not_eq_false, Bool.and_eq_true, decide_eq_true_iff, noneTwice_iff] at range twice
  obtain ⟨panels, low, high⟩ := range
  have length : (zoneStages img z).length = zoneByte img z 2 := by simp [zoneStages]
  refine ⟨?_, by dsimp only; omega, by dsimp only; omega, twice.of_map, fun n hn empty => unused ?_⟩
  · simp only [beq_iff_eq]
    omega
  · exact List.any_eq_true.2 ⟨n.val, List.mem_map_of_mem hn, by simp [empty]⟩

/-- Every command entry of a stage that has passed is laid out (R60, R184). -/
theorem entry_passed {plant img : Image} {n i : Nat} (used : entryRecord plant img n i ≠ .unused)
    (h : entryReason plant img n i = none) :
    ∃ c : StageCommand, entryAt img n i = some c ∧ c.actuator.val = (entryActuator img n i).toNat ∧
      kindMatches (plantOf plant).acts[c.actuator] c.cmd = true ∧ speedInRange c.cmd = true := by
  have number : (entryActuator img n i).toNat < 64 := by
    by_contra above
    exact used (if_neg above)
  have record : entryRecord plant img n i = actuatorDefAt plant (entryActuator img n i).toNat := if_pos number
  unfold entryReason at h
  rw [record] at h
  cases cmd : entryCommand img n i with
  | none => simp [cmd] at h
  | some c =>
    rw [cmd] at h
    dsimp only at h
    split_ifs at h with kind speed
    simp only [Bool.not_eq_true', Bool.not_eq_false] at kind speed
    refine ⟨{ actuator := ⟨_, number⟩, cmd := c }, ?_, rfl, by simpa [plantOf] using kind, speed⟩
    simp [entryAt, finOf, number, cmd]

/-- The gate of a stage that has passed (R61, R184). -/
theorem gate_passed {img : Image} {n : Nat} {g : Gate} (h : gateInRange img n = true) (e : gateAt img n = some g) :
    -2000 ≤ g.value ∧ g.value ≤ 2000 ∧ g.tolerance ≤ 500 ∧ (g.mode = .waitUntil → 10 ≤ g.wait ∧ g.wait ≤ 6000) := by
  simp only [gateAt, bind, Option.bind_eq_some_iff, pure, Option.some.injEq] at e
  obtain ⟨mode, hmode, c, hc, cmp, hcmp, v, hv, t, ht, rfl⟩ := e
  unfold gateInRange at h
  split at h
  · simp_all
  · simp_all [within_iff, pressureInRange_iff]
    subst hmode
    simp
  · simp_all [within_iff, pressureInRange_iff]
    obtain ⟨-, wait, hwait, low, high⟩ := h
    simp [hwait, low, high]
  · cases h

/-- What a list gives where every element of it gives something. -/
theorem map_filterMap_of_some {α β γ : Type} {l : List α} {f : α → Option β} (g : β → γ) (k : α → γ)
    (h : ∀ i ∈ l, ∃ c, f i = some c ∧ g c = k i) : (l.filterMap f).map g = l.map k := by
  induction l with
  | nil => rfl
  | cons i rest ih =>
    obtain ⟨c, e, same⟩ := h i (by simp)
    rw [List.filterMap_cons_some e, List.map_cons, List.map_cons, same, ih fun j hj => h j (by simp [hj])]

/-- A stage record that has passed (R60, R61, R184). -/
theorem stage_passed {img plant : Image} {n : Nat} {d : StageDef} (h : stageReason plant img n = none)
    (e : stageDefAt img n = some d) : StagePassed (plantOf plant) d := by
  have configured : stageCount img n ≠ 0 := by
    intro unused
    rw [stageDefAt, if_pos unused] at e
    cases e
  rw [stageDefAt, if_neg configured] at e
  cases e
  simp only [stageReason, if_neg configured] at h
  cases failing : (List.range (stageCount img n)).findSome? (entryReason plant img n) with
  | some r => split_ifs at h <;> simp [failing] at h
  | none =>
    rw [failing] at h
    split_ifs at h with long range settle unused twice
    simp only [Bool.not_eq_true', Bool.not_eq_false, Bool.and_eq_true, within_iff, noneTwice_iff] at range twice
    obtain ⟨⟨⟨-, settleTime, hsettle, -, settleMax⟩, window, hwindow, windowMin, windowMax⟩, gate⟩ := range
    simp only [hsettle, hwindow, Option.getD_some] at settle ⊢
    have entry : ∀ i ∈ List.range (stageCount img n), ∃ c : StageCommand, entryAt img n i = some c ∧
        c.actuator.val = (entryActuator img n i).toNat ∧
        kindMatches (plantOf plant).acts[c.actuator] c.cmd = true ∧ speedInRange c.cmd = true := by
      intro i hi
      refine entry_passed (fun none => unused ?_) (List.findSome?_eq_none_iff.1 failing i hi)
      exact List.any_eq_true.2 ⟨i, hi, by simp [none]⟩
    have length : ((List.range (stageCount img n)).filterMap (entryAt img n)).length = stageCount img n := by
      have same := map_filterMap_of_some (l := List.range (stageCount img n)) (f := entryAt img n) (fun _ => ()) (fun _ => ())
        (fun i hi => (entry i hi).imp fun c hc => ⟨hc.1, rfl⟩)
      simpa using congrArg List.length same
    refine ⟨by dsimp only; omega, by dsimp only; omega, ?_, fun c hc => ?_, settleMax, windowMin, windowMax,
      by show settleTime < window; omega, fun g hg => gate_passed gate hg⟩
    · have same := map_filterMap_of_some (l := List.range (stageCount img n)) (f := entryAt img n)
        (fun c => c.actuator.val) (fun i => (entryActuator img n i).toNat)
        (fun i hi => (entry i hi).imp fun c hc => ⟨hc.1, hc.2.1⟩)
      have once : ((List.range (stageCount img n)).map (fun i => (entryActuator img n i).toNat)).Nodup := by
        have := twice.map (f := BitVec.toNat) (fun x y => BitVec.eq_of_toNat_eq)
        rwa [List.map_map] at this
      rw [← same] at once
      exact List.Nodup.of_map Fin.val (by rwa [List.map_map])
    · obtain ⟨i, hi, e⟩ := List.mem_filterMap.1 hc
      obtain ⟨c', e', -, kind, speed⟩ := entry i hi
      obtain rfl := Option.some.inj (e.symm.trans e')
      refine ⟨kind, fun v run => ?_⟩
      simpa [run, speedInRange] using speed

theorem sequences_passed {img ref : Image} (h : validate .sequences img ref = none) :
    SequencesPassed (sequencesOf img) (plantOf ref) := by
  simp only [validate, orElseFail_none, firstFailing_none] at h
  obtain ⟨zones, stages⟩ := h
  have zone : ∀ z : Fin 24, (sequencesOf img).zones[z] = zoneDefAt img z := by simp [sequencesOf]
  have stage : ∀ n : Fin 256, (sequencesOf img).stages[n] = stageDefAt img n := by simp [sequencesOf]
  refine ⟨fun z d e => ?_, fun n d e => ?_⟩
  · rw [zone] at e
    obtain ⟨panels, low, high, once, used⟩ := zone_passed (zones z (List.mem_range.2 z.isLt)) e
    refine ⟨panels, low, high, once, fun n hn => ?_⟩
    rw [stage]
    simp [stageDefAt, used n hn]
  · rw [stage] at e
    exact stage_passed (stages n (List.mem_range.2 n.isLt)) e

/-! ## The three sectors -/

theorem identity_passed {img ref : Image} (h : validate .identity img ref = none) (l : Line) (supervised : l.supervised = true) :
    20 ≤ supervisionTimeOf img l ∧ supervisionTimeOf img l ≤ 600 := by
  have item : ∀ i ∈ [1, 2, 3], 20 ≤ (halfField .identity img (6 + 2 * i)).toNat ∧
      (halfField .identity img (6 + 2 * i)).toNat ≤ 600 := by
    intro i hi
    by_contra outside
    have passed := firstFailing_none.1 h i hi
    rw [timeReason, if_neg outside] at passed
    cases passed
  cases l with
  | panelA => exact item 1 (by decide)
  | panelB => exact item 2 (by decide)
  | override => exact item 3 (by decide)
  | building => cases supervised

/-- A pass establishes every range and cross-check of the image (R10, R140, R184). -/
theorem validate_passed {sec : Sector} {img ref : Image} (h : validate sec img ref = none) : ImagePassed sec img ref := by
  cases sec with
  | identity => exact identity_passed h
  | plant => exact plant_passed h
  | sequences => exact sequences_passed h

end Sys2Proof.Machine

end
/-! # CONFIG-ACTIVATE (R13, R58, R184, R185) -/

section

namespace Sys2Proof.Machine

/-! ## A cleared image lays out the same definitions -/

theorem zoneCount_passed {img : Image} {z : Nat} (h : zoneReason img z = none) (configured : zoneByte img z 0 = 1) :
    zoneByte img z 2 ≤ 16 := by
  obtain ⟨-, -, high, -⟩ := zone_passed h (if_pos configured)
  simpa [zoneStages] using high

theorem stageCount_passed {img plant : Image} {n : Nat} (h : stageReason plant img n = none) : stageCount img n ≤ 12 := by
  unfold stageReason at h
  dsimp only at h
  split_ifs at h <;> omega

/-- An image that has passed lays out the same definitions once its bytes of no record are cleared (R184). -/
theorem clearForeign_sameDefinitions {sec : Sector} {img ref : Image} (h : validate sec img ref = none) :
    SameDefinitions sec (clearForeign sec img) img := by
  cases sec with
  | identity =>
    have kept : ∀ o, readByte .identity (clearForeign .identity img) o = readByte .identity img o := fun o => readByte_kept rfl
    have half : ∀ o, halfField .identity (clearForeign .identity img) o = halfField .identity img o := by
      intro o; simp only [halfField, kept]
    exact ⟨by simp only [siteCodeOf, readBytes, kept], fun l => by cases l <;> simp only [supervisionTimeOf, half]⟩
  | plant => exact plantOf_clearForeign img
  | sequences =>
    simp only [validate, orElseFail_none, firstFailing_none] at h
    obtain ⟨zones, stages⟩ := h
    have zone : ∀ z : Fin 24, zoneDefAt (clearForeign .sequences img) z = zoneDefAt img z := fun z =>
      zoneDefAt_kept z.isLt (zoneCount_passed (zones z (List.mem_range.2 z.isLt)))
    have stage : ∀ n : Fin 256, stageDefAt (clearForeign .sequences img) n = stageDefAt img n := fun n =>
      stageDefAt_kept n.isLt (stageCount_passed (stages n (List.mem_range.2 n.isLt)))
    show sequencesOf (clearForeign .sequences img) = sequencesOf img
    simp only [sequencesOf, zone, stage]

/-! ## The definitions in CONFIG-FAULT (R13, R58, R82) -/

theorem clampToSpan_eq (sc : Scaling) (v : Int) :
    clampToSpan sc v = max (min sc.elo sc.ehi) (min (max sc.elo sc.ehi) v) := by
  unfold clampToSpan
  split_ifs <;> omega

/-- A channel judged from its window: the first case of R142 that holds. -/
theorem judgeChannel_judged (scaling : Option Scaling) (c : Channel) : ChannelJudged scaling c (judgeChannel scaling c) := by
  refine ⟨judgeChannel_window scaling c, fun none => by subst none; exact ⟨rfl, rfl, rfl⟩, fun sc e => ?_⟩
  subst e
  rw [judgeChannel_window]
  refine ⟨fun short => ?_, fun full => ?_⟩
  · have none : windowAverage c.window = none := if_neg (by unfold windowSize; omega)
    simp [judgeChannel, none]
  · have avg : windowAverage c.window = some (c.window.sum / 4) := if_pos full
    simp only [judgeChannel, avg]
    refine ⟨fun under => ?_, fun inLow above => ?_, fun inLow inHigh => ?_⟩
    · rw [if_pos (by exact under)]; exact ⟨rfl, rfl, rfl⟩
    · rw [if_neg (by exact Nat.not_lt.2 inLow), if_pos (by exact above)]; exact ⟨rfl, rfl, rfl⟩
    · rw [if_neg (by exact Nat.not_lt.2 inLow), if_neg (by exact Nat.not_lt.2 inHigh)]
      exact ⟨rfl, rfl, congrArg some (clampToSpan_eq sc _)⟩

/-- In CONFIG-FAULT the definitions follow the marks of a store (R13, R58, R82). -/
theorem followMarks_follows (s : State) (st : Store) : FollowsMarks s (followMarks { s with store := st }) := by
  refine ⟨fun valid => if_pos valid, fun invalid => if_neg (by simp only [followMarks] at invalid; simp [invalid]),
    fun valid => if_pos valid, fun invalid => if_neg (by simp only [followMarks] at invalid; simp [invalid]), fun a => ?_,
    fun c => ?_, ⟨_, _, _, _, _, rfl⟩⟩
  · obtain ⟨claims, target, -⟩ := emptyLists_claimList (followMarks { s with store := st }) a rfl
    exact ⟨claims, target⟩
  · have channel : (followMarks { s with store := st }).channel c =
        judgeChannel (followMarks { s with store := st }).plant.scalings[c] (s.channel c) := by
      simp [followMarks, State.channel]
    rw [channel]
    exact judgeChannel_judged _ _

/-! ## The request, case by case -/

theorem takeConfigActivate_busy {s : State} (busy : s.store.writing ≠ none) (code action : Byte) :
    takeConfigActivate [code, action] s = refuse s .busy := by
  simp [takeConfigActivate, Option.isSome_iff_ne_none, busy]

theorem takeConfigActivate_apply {s : State} {code : Byte} {sec : Sector} (idle : s.store.writing = none)
    (known : sectorOf code = some sec) : takeConfigActivate [code, 0x01] s = applyStaging sec s := by
  simp [takeConfigActivate, idle, known]

theorem takeConfigActivate_discard {s : State} {code : Byte} {sec : Sector} (idle : s.store.writing = none)
    (known : sectorOf code = some sec) : takeConfigActivate [code, 0x02] s = discardStaging sec s := by
  simp [takeConfigActivate, idle, known]

theorem applyStaging_absent {s : State} {sec : Sector} (absent : (s.store.sector sec).staging = none) :
    applyStaging sec s = refuse s .refusedState := by
  simp [applyStaging, absent]

theorem applyStaging_invalid {s : State} {sec : Sector} {img : Image} {item : Nat} {why : Reason}
    (staging : (s.store.sector sec).staging = some img)
    (fails : validate sec img (s.store.reference sec.crossed) = some (item, why)) :
    applyStaging sec s = (s, { result := .refusedConfig, body := .invalid item why }) := by
  simp [applyStaging, staging, fails]

theorem applyStaging_passed {s : State} {sec : Sector} {img : Image} (staging : (s.store.sector sec).staging = some img)
    (passes : validate sec img (s.store.reference sec.crossed) = none) :
    applyStaging sec s =
      if s.mayActivate sec then (startWrite sec (clearForeign sec img) s, { result := .done, body := .writing sec })
      else ({ s with store := s.store.setSector sec { s.store.sector sec with staging := some (clearForeign sec img) } },
        Reply.bare .refusedState) := by
  simp [applyStaging, staging, passes]

theorem mayActivate_iff (s : State) (sec : Sector) :
    s.mayActivate sec = true ↔ sec = .identity ∨ ((∀ z, (s.zone z).mode = .none) ∧ s.overrides = 0) := by
  simp [State.mayActivate, allZonesNormal_iff]

theorem discardStaging_absent {s : State} {sec : Sector} (absent : (s.store.sector sec).staging = none) :
    discardStaging sec s = refuse s .noChange := by
  simp [discardStaging, absent]

theorem discardStaging_present {s : State} {sec : Sector} {img : Image} (staging : (s.store.sector sec).staging = some img) :
    discardStaging sec s =
      ({ s with store := s.store.setSector sec { s.store.sector sec with staging := none } }, Reply.bare .done) := by
  simp [discardStaging, staging]

/-- What the begin of a write makes of the part (R13, R58, R82, R185). -/
theorem startWrite_effect (sec : Sector) (x : Image) (s : State) :
    (startWrite sec x s).store = s.store.setSector sec ((s.store.sector sec).beginWrite x) ∧
      (sec = .identity ∨ s.configFault = false → startWrite sec x s = { s with store := (startWrite sec x s).store }) ∧
      (sec ≠ .identity → s.configFault = true → FollowsMarks s (startWrite sec x s)) := by
  by_cases identity : sec = .identity
  · subst identity
    rw [startWrite_identity]
    exact ⟨rfl, fun _ => rfl, fun no => absurd rfl no⟩
  · by_cases fault : s.configFault = true
    · rw [startWrite_fault fault identity]
      exact ⟨rfl, fun no => (no.elim identity (by simp [fault])).elim, fun _ _ => followMarks_follows _ _⟩
    · rw [startWrite_noFault (by simpa using fault)]
      exact ⟨rfl, fun _ => rfl, fun _ yes => absurd yes fault⟩

/-- Settles O40, by the checks of R185 in their order, and what a pass of validation establishes. -/
theorem activationBeginsTheWrite : Obligations.ActivationBeginsTheWrite := by
  intro code sec s takes known
  refine ⟨fun busy => ⟨?_, ?_⟩, fun idle absent => ⟨?_, ?_⟩, fun img idle staging => ⟨?_, fun item why fails => ?_,
    fun passes => ⟨validate_passed passes, clearForeign sec img, readByte_clearForeign sec img,
      clearForeign_sameDefinitions passes, fun notIdentity active => ?_, fun may => ?_⟩⟩⟩
  · exact request_refused takes (takeConfigActivate_busy busy code 0x01)
  · exact request_refused takes (takeConfigActivate_busy busy code 0x02)
  · exact request_refused takes ((takeConfigActivate_apply idle known).trans (applyStaging_absent absent))
  · exact request_refused takes ((takeConfigActivate_discard idle known).trans (discardStaging_absent absent))
  · exact request_answers takes ((takeConfigActivate_discard idle known).trans (discardStaging_present staging))
  · exact request_answers takes ((takeConfigActivate_apply idle known).trans (applyStaging_invalid staging fails))
  · have mayNot : ¬ s.mayActivate sec = true := by
      rw [mayActivate_iff]
      rintro (identity | ⟨normal, noOverride⟩)
      · exact notIdentity identity
      · exact active.elim (fun ⟨z, h⟩ => h (normal z)) (fun h => h noOverride)
    have applied := applyStaging_passed staging passes
    rw [if_neg mayNot] at applied
    exact request_answers takes ((takeConfigActivate_apply idle known).trans applied)
  · have applied := applyStaging_passed staging passes
    rw [if_pos ((mayActivate_iff s sec).2 may)] at applied
    exact ⟨_, request_answers takes ((takeConfigActivate_apply idle known).trans applied), startWrite_effect sec _ s⟩

end Sys2Proof.Machine

end
/-! # The completion of a write (R11, R13, R39, R107, R130, R144, R186, R187, R189) -/

section

namespace Sys2Proof.Machine

/-! ## What an application hands to the drives -/

/-- Two states that differ at most in drives and ports, the drives of some actuators apart. -/
def DrivesBut (kept : Fin 64 → Prop) (s t : State) : Prop :=
  (∃ ds ps, t = { s with drives := ds, ports := ps }) ∧ ∀ a, kept a → t.drive a = s.drive a

theorem DrivesBut.refl (kept : Fin 64 → Prop) (s : State) : DrivesBut kept s s := ⟨⟨_, _, rfl⟩, fun _ _ => rfl⟩

theorem DrivesBut.trans {kept : Fin 64 → Prop} {s t u : State} (x : DrivesBut kept s t) (y : DrivesBut kept t u) :
    DrivesBut kept s u := by
  obtain ⟨⟨ds, ps, rfl⟩, same⟩ := x
  obtain ⟨⟨ds', ps', rfl⟩, same'⟩ := y
  exact ⟨⟨_, _, rfl⟩, fun a h => (same' a h).trans (same a h)⟩

theorem drivesBut_foldl {α : Type} {kept : Fin 64 → Prop} {s : State} (f : Work → α → Work) (l : List α)
    (k : ∀ w x, x ∈ l → DrivesBut kept s w.st → DrivesBut kept s (f w x).st) {w : Work} (h : DrivesBut kept s w.st) :
    DrivesBut kept s (l.foldl f w).st := by
  induction l generalizing w with
  | nil => exact h
  | cons x l ih => exact ih (fun w y hy => k w y (List.mem_cons_of_mem _ hy)) (k w x (List.mem_cons_self ..) h)

/-- A drive written in place of another leaves every other drive. -/
theorem drivesBut_set {kept : Fin 64 → Prop} {a : Fin 64} {s t : State} {d : Drive} (no : ¬ kept a)
    (h : ∃ ps, t = { s with drives := s.drives.set a d, ports := ps }) : DrivesBut kept s t := by
  obtain ⟨ps, rfl⟩ := h
  refine ⟨⟨_, _, rfl⟩, fun b hb => ?_⟩
  have other : b ≠ a := fun e => no (e ▸ hb)
  exact State.setDrive_drive_other s d other

/-- The drive of an actuator after its target has been handed where it changed (R11 step 5). -/
def handedDrive (old s : State) (a : Fin 64) : Drive :=
  if old.record a = s.record a ∧ (old.claimList a).target ≠ (s.claimList a).target then
    match (s.claimList a).target with
    | some c => targetActed s a c
    | none => s.drive a
  else s.drive a

theorem handApplied_st (old : State) (w : Work) (a : Fin 64) :
    ∃ ps, (handApplied old w a).st = { w.st with drives := w.st.drives.set a (handedDrive old w.st a), ports := ps } := by
  have same : ∃ ps, w.st = { w.st with drives := w.st.drives.set a (w.st.drive a), ports := ps } :=
    ⟨w.st.ports, by rw [State.set_drive]⟩
  unfold handApplied handedDrive
  split
  · cases (w.st.claimList a).target with
    | some c => exact handTarget_st a c w
    | none => exact same
  · exact same

theorem targetActed_congr {s t : State} {a : Fin 64} (h : ∃ ds ps, t = { s with drives := ds, ports := ps })
    (drive : t.drive a = s.drive a) (c : Command) : targetActed t a c = targetActed s a c := by
  obtain ⟨ds, ps, rfl⟩ := h
  simp only [targetActed, damperActed, fanActed, drive]
  rfl

theorem handedDrive_congr {old s t : State} {a : Fin 64} (h : ∃ ds ps, t = { s with drives := ds, ports := ps })
    (drive : t.drive a = s.drive a) : handedDrive old t a = handedDrive old s a := by
  have acted := targetActed_congr h drive
  obtain ⟨ds, ps, rfl⟩ := h
  simp only [handedDrive, acted, drive]
  rfl

/-- Each actuator of a list is handed its target once. -/
theorem handApplied_foldl (old : State) (l : List (Fin 64)) (once : l.Nodup) (w : Work) :
    (∃ ds ps, (l.foldl (handApplied old) w).st = { w.st with drives := ds, ports := ps }) ∧
      ∀ a, (l.foldl (handApplied old) w).st.drive a = if a ∈ l then handedDrive old w.st a else w.st.drive a := by
  induction l generalizing w with
  | nil => exact ⟨⟨_, _, rfl⟩, fun a => by simp⟩
  | cons b l ih =>
    obtain ⟨notIn, once⟩ := List.nodup_cons.1 once
    obtain ⟨ps, first⟩ := handApplied_st old w b
    obtain ⟨⟨ds', ps', rest⟩, drives⟩ := ih once (handApplied old w b)
    rw [List.foldl_cons]
    have frame : ∃ ds ps, (handApplied old w b).st = { w.st with drives := ds, ports := ps } := ⟨_, _, first⟩
    refine ⟨⟨ds', ps', by rw [rest, first]⟩, fun a => ?_⟩
    rw [drives a]
    by_cases same : a = b
    · subst same
      rw [if_neg notIn, if_pos (List.mem_cons_self ..), first]
      exact State.setDrive_drive_same w.st a _
    · have drive : (handApplied old w b).st.drive a = w.st.drive a := by
        rw [first]; exact State.setDrive_drive_other w.st _ same
      rw [handedDrive_congr frame drive, drive]
      simp [same]

/-- An actuator that no notice of an application reaches: its record has changed, or it is a fan on no channel that has (R11,
R143). -/
def Unnoticed (old s : State) (a : Fin 64) : Prop :=
  old.record a ≠ s.record a ∨ ∀ c, provesOn c (s.record a) = true → old.channel c = s.channel c

theorem Unnoticed.congr (old s : State) (ds : Vector Drive 64) (ps : Vector Port 4) :
    Unnoticed old { s with drives := ds, ports := ps } = Unnoticed old s := rfl

theorem channelChanged_self (c : Channel) : channelChanged c c = false := by simp [channelChanged]

theorem noticeApplied_st (old : State) (c : Fin 16) (w : Work) :
    DrivesBut (Unnoticed old w.st) w.st (noticeApplied old w c).st := by
  unfold noticeApplied
  split
  · rename_i changed
    refine drivesBut_foldl _ _ (fun v a _ h => ?_) (DrivesBut.refl _ _)
    obtain ⟨ds, ps, frame⟩ := h.1
    split
    · rename_i reached
      rw [frame] at reached
      simp only [Bool.and_eq_true, beq_iff_eq] at reached
      obtain ⟨proves, record⟩ := reached
      refine h.trans (drivesBut_set (a := a) ?_ (fanEvent_st a fanChannel v))
      rintro (changedRecord | same)
      · exact changedRecord record
      · rw [same c proves, channelChanged_self] at changed
        cases changed
    · exact h
  · exact DrivesBut.refl _ _

theorem noticeApplied_foldl (old : State) (l : List (Fin 16)) (w : Work) :
    DrivesBut (Unnoticed old w.st) w.st (l.foldl (noticeApplied old) w).st := by
  refine drivesBut_foldl _ _ (fun v c _ h => ?_) (DrivesBut.refl _ _)
  have same : Unnoticed old v.st = Unnoticed old w.st := by
    obtain ⟨ds, ps, frame⟩ := h.1
    rw [frame, Unnoticed.congr]
  exact h.trans (same ▸ noticeApplied_st old c v)

theorem raiseFlags_set (s : State) : FlagsSet s.raiseFlags := by
  intro l
  rw [State.raiseFlags_port]
  rfl

/-- What an application hands after it: each drive that no notice reaches takes its changed target and nothing else (R11, R143). -/
theorem handReplanted_effect (old : State) (w : Work) :
    (∃ ds ps, (handReplanted old w).st = { w.st with drives := ds, ports := ps }) ∧
      ∀ a, Unnoticed old w.st a → (handReplanted old w).st.drive a = handedDrive old w.st a := by
  obtain ⟨⟨ds, ps, handed⟩, drives⟩ := handApplied_foldl old (List.finRange 64) (List.nodup_finRange 64) w
  obtain ⟨⟨ds', ps', frame⟩, kept⟩ :=
    noticeApplied_foldl old (List.finRange 16) ((List.finRange 64).foldl (handApplied old) w)
  have same : Unnoticed old ((List.finRange 64).foldl (handApplied old) w).st = Unnoticed old w.st := by
    rw [handed, Unnoticed.congr]
  unfold handReplanted
  refine ⟨⟨ds', ps', by rw [frame, handed]⟩, fun a unnoticed => ?_⟩
  have drive := drives a
  rw [if_pos (List.mem_finRange a)] at drive
  rw [kept a (by rw [same]; exact unnoticed), drive]

/-- A PLANT application: the definitions, lists and channels under the image, and the drive of each actuator that no notice
reaches as it is created, kept or handed its target (R11, R39, R144, R187). -/
theorem applyPlant_effect (p : PlantImage) (w : Work) :
    (∃ ds ps, (applyPlant p w).st = { replant p w.st w.st with drives := ds, ports := ps }) ∧
      FlagsSet (applyPlant p w).st ∧
      ∀ a, Unnoticed w.st (replant p w.st w.st) a →
        (applyPlant p w).st.drive a = handedDrive w.st (replant p w.st w.st) a := by
  obtain ⟨⟨ds, ps, frame⟩, drives⟩ := handReplanted_effect w.st (w.map (replant p w.st))
  rw [applyPlant_eq]
  rw [Work.map_st] at frame drives ⊢
  refine ⟨⟨ds, ps.map Port.raise, ?_⟩, raiseFlags_set _, fun a unnoticed => drives a unnoticed⟩
  rw [frame]
  rfl

/-! ## The definitions under a new image -/

theorem replant_drive (p : PlantImage) (old s : State) (a : Fin 64) :
    (replant p old s).drive a =
      if old.record a = (replant p old s).record a then old.drive a else (underPlant p s).freshDrive (some s.now) a := by
  have drives : (replant p old s).drives = appliedDrives old (underPlant p s) := by simp only [replant]
  have record : (replant p old s).record a = (underPlant p s).record a := by simp only [replant, State.record]
  have now : s.now = (underPlant p s).now := by simp only [underPlant]
  rw [record, now, State.drive, drives]
  simp only [appliedDrives, Fin.getElem_fin, Vector.getElem_ofFn]

theorem replant_channel (p : PlantImage) (old s : State) (c : Fin 16) :
    (replant p old s).channel c = appliedChannel s.plant.scalings[c] p.scalings[c] (s.channel c) := by
  simp [replant, underPlant, State.channel]

/-- An image whose definitions are in force over empty lists (R39, R134, R187). -/
theorem plantInForce_of {p : PlantImage} {s : State} (plant : s.plant = p) (filters : s.filters = p.filters)
    (lists : s.lists = emptyLists p) : PlantInForce p s := by
  refine ⟨plant, fun i => ?_, fun a => emptyLists_claimList s a (plant ▸ lists)⟩
  simp [State.filterCount, filters, PlantImage.filters]

theorem TargetTaken.congr {s t : State} {a : Fin 64} {c : Command} {x y : Drive} (h : TargetTaken s a c x y)
    (damper : t.damperCtx a = s.damperCtx a) (fan : t.fanCtx a = s.fanCtx a) : TargetTaken t a c x y := by
  unfold TargetTaken at h ⊢
  rwa [damper, fan]

/-- The drive of a changed record is created by the application, and an unchanged one keeps its own until its target is handed
(R11). -/
theorem handedDrive_replant (p : PlantImage) (s : State) (a : Fin 64) :
    (s.record a ≠ (replant p s s).record a →
      handedDrive s (replant p s s) a = (underPlant p s).freshDrive (some s.now) a) ∧
    (s.record a = (replant p s s).record a →
      ((s.claimList a).target = ((replant p s s).claimList a).target ∨ ((replant p s s).claimList a).target = none →
        handedDrive s (replant p s s) a = s.drive a) ∧
      ∀ c, ((replant p s s).claimList a).target = some c → (s.claimList a).target ≠ some c →
        TargetTaken (replant p s s) a c (s.drive a) (handedDrive s (replant p s s) a)) := by
  have drive := replant_drive p s s a
  refine ⟨fun changed => ?_, fun same => ⟨fun stays => ?_, fun c target differs => ?_⟩⟩
  · rw [handedDrive, if_neg (fun h => changed h.1), drive, if_neg changed]
  · rw [if_pos same] at drive
    rcases stays with stays | none
    · rw [handedDrive, if_neg (fun h => h.2 stays), drive]
    · unfold handedDrive
      rw [none, drive, ite_self]
  · rw [if_pos same] at drive
    have differs : (s.claimList a).target ≠ ((replant p s s).claimList a).target := by rw [target]; exact differs
    unfold handedDrive
    rw [if_pos ⟨same, differs⟩, target, ← drive]
    exact targetActed_taken _ a c

end Sys2Proof.Machine

end
/-! # What the completion of a write leaves (R186, R187, R189) -/

section

namespace Sys2Proof.Machine

/-! ## A PLANT image in force -/

section

variable (s : State) (ds : Vector Drive 64) (ps : Vector Port 4) (a : Fin 64)

theorem State.framed_record : ({ s with drives := ds, ports := ps } : State).record a = s.record a := rfl

theorem State.framed_claimList : ({ s with drives := ds, ports := ps } : State).claimList a = s.claimList a := rfl

theorem State.framed_channel (c : Fin 16) : ({ s with drives := ds, ports := ps } : State).channel c = s.channel c := rfl

theorem State.framed_damperCtx : ({ s with drives := ds, ports := ps } : State).damperCtx a = s.damperCtx a := rfl

theorem State.framed_fanCtx : ({ s with drives := ds, ports := ps } : State).fanCtx a = s.fanCtx a := rfl

theorem DriveCreated.withDrives {since : Option Nat} {d : Drive} (h : DriveCreated s since a d) :
    DriveCreated { s with drives := ds } since a d := h.congr rfl rfl rfl rfl

end

/-- The definitions and lists of a PLANT application (R39, R134, R187). -/
theorem applyPlant_inForce (p : PlantImage) (w : Work) : PlantInForce p (applyPlant p w).st := by
  obtain ⟨⟨ds, ps, frame⟩, -⟩ := applyPlant_effect p w
  rw [frame]
  exact plantInForce_of (by simp only [replant, underPlant]) (by simp only [replant, underPlant])
    (by simp only [replant, underPlant])

/-- The drive of a changed record is created at the event of the application (R11, R107, R130). -/
theorem applyPlant_created (p : PlantImage) (w : Work) (a : Fin 64)
    (changed : w.st.record a ≠ (applyPlant p w).st.record a) :
    DriveCreated (applyPlant p w).st (some (applyPlant p w).st.now) a ((applyPlant p w).st.drive a) := by
  obtain ⟨⟨ds, ps, frame⟩, -, drives⟩ := applyPlant_effect p w
  have record : (applyPlant p w).st.record a = (replant p w.st w.st).record a := by
    rw [frame, State.framed_record]
  have now : (applyPlant p w).st.now = w.st.now := by rw [frame]; simp only [replant, underPlant]
  rw [record] at changed
  have drive := (drives a (.inl changed)).trans ((handedDrive_replant p w.st a).1 changed)
  rw [drive, now, frame]
  exact (freshDrive_created (underPlant p w.st) (some w.st.now) a).congr (by simp only [replant]; rfl)
    (by simp only [replant]; rfl) (by simp only [replant]; rfl) (by simp only [replant])

/-- The drive of an unchanged record on no changed channel stays, and takes a changed target (R11). -/
theorem applyPlant_handed (p : PlantImage) (w : Work) (a : Fin 64)
    (same : w.st.record a = (applyPlant p w).st.record a)
    (channels : ∀ c, provesOn c (w.st.record a) = true → (applyPlant p w).st.channel c = w.st.channel c) :
    ((w.st.claimList a).target = ((applyPlant p w).st.claimList a).target ∨
        ((applyPlant p w).st.claimList a).target = none →
      (applyPlant p w).st.drive a = w.st.drive a) ∧
      ∀ c, ((applyPlant p w).st.claimList a).target = some c → (w.st.claimList a).target ≠ some c →
        TargetTaken (applyPlant p w).st a c (w.st.drive a) ((applyPlant p w).st.drive a) := by
  obtain ⟨⟨ds, ps, frame⟩, -, drives⟩ := applyPlant_effect p w
  have record : (applyPlant p w).st.record a = (replant p w.st w.st).record a := by
    rw [frame, State.framed_record]
  have lists : (applyPlant p w).st.claimList a = (replant p w.st w.st).claimList a := by
    rw [frame, State.framed_claimList]
  have channel : ∀ c, (applyPlant p w).st.channel c = (replant p w.st w.st).channel c := fun c => by
    rw [frame, State.framed_channel]
  rw [record] at same
  have unnoticed : Unnoticed w.st (replant p w.st w.st) a :=
    .inr fun c proves => ((channel c).symm.trans (channels c (by rw [same]; exact proves))).symm
  obtain ⟨kept, taken⟩ := (handedDrive_replant p w.st a).2 same
  rw [drives a unnoticed, lists]
  refine ⟨kept, fun c target differs => (taken c target differs).congr ?_ ?_⟩
  · rw [frame, State.framed_damperCtx]
  · rw [frame, State.framed_fanCtx]

/-- A channel whose scaling stays is as it was, and another is judged anew with no last valid value (R144). -/
theorem applyPlant_channel (p : PlantImage) (w : Work) (c : Fin 16) :
    (w.st.plant.scalings[c] = (applyPlant p w).st.plant.scalings[c] → (applyPlant p w).st.channel c = w.st.channel c) ∧
      (w.st.plant.scalings[c] ≠ (applyPlant p w).st.plant.scalings[c] →
        ChannelJudged (applyPlant p w).st.plant.scalings[c] { w.st.channel c with lastValid := none }
          ((applyPlant p w).st.channel c)) := by
  obtain ⟨⟨ds, ps, frame⟩, -⟩ := applyPlant_effect p w
  have plant : (applyPlant p w).st.plant = p := (applyPlant_inForce p w).1
  have channel : (applyPlant p w).st.channel c = appliedChannel w.st.plant.scalings[c] p.scalings[c] (w.st.channel c) := by
    rw [← replant_channel p w.st w.st c, frame, State.framed_channel]
  rw [channel, plant, appliedChannel]
  refine ⟨fun same => if_pos same, fun changed => ?_⟩
  rw [if_neg changed]
  exact judgeChannel_judged _ _

/-! ## The sector written -/

/-- The part with a sector's stored image written under a VALID mark, in an activation state. -/
def storedAs (sec : Sector) (img : Image) (act : Activation) (s : State) : State :=
  { s with store := s.store.setSector sec { valid := true, activation := act, stored := img, staging := none } }

theorem written_eq {s : State} {sec : Sector} {img : Image} (staging : (s.store.sector sec).staging = some img) :
    written sec s = storedAs sec img .none s := by
  simp [written, storedAs, SectorState.endWrite, staging]

theorem Store.setSector_setSector (st : Store) (sec : Sector) (x y : SectorState) :
    (st.setSector sec x).setSector sec y = st.setSector sec y := by
  cases sec <;> rfl

theorem storedAs_sector (sec : Sector) (img : Image) (act : Activation) (s : State) :
    (storedAs sec img act s).store.sector sec = { valid := true, activation := act, stored := img, staging := none } :=
  Store.setSector_same ..

theorem storedAs_setActivation (sec : Sector) (img : Image) (act act' : Activation) (s : State) :
    (storedAs sec img act s).setActivation sec act' = storedAs sec img act' s := by
  rw [State.setActivation, storedAs_sector]
  simp only [storedAs, Store.setSector_setSector]

/-- Both marks of a part are VALID exactly where the one just written and the other are. -/
theorem storedAs_valid {sec : Sector} (h : sec ≠ .identity) (img : Image) (act : Activation) (s : State) :
    ((storedAs sec img act s).store.plant.valid && (storedAs sec img act s).store.sequences.valid) =
      (s.store.sector sec.crossed).valid := by
  cases sec with
  | identity => exact absurd rfl h
  | plant => exact Bool.true_and _
  | sequences => exact Bool.and_true _

/-! ## The end of CONFIG-FAULT -/

theorem faultEnded_sector (s : State) (sec : Sector) :
    ((faultEnded s).store.sector sec) = { s.store.sector sec with activation := .none } := by
  cases sec <;> rfl

/-- What the end of CONFIG-FAULT leaves and ends. -/
theorem endConfigFault_frame (s : State) :
    (endConfigFault s).applied = s.applied ∧ (endConfigFault s).ports = s.ports ∧ (endConfigFault s).configFault = false ∧
      (endConfigFault s).sequences = sequencesOf (endConfigFault s).store.sequences.stored ∧
      ∀ sec, (endConfigFault s).store.sector sec = { s.store.sector sec with activation := .none } :=
  ⟨rfl, rfl, rfl, rfl, faultEnded_sector s⟩

theorem endConfigFault_inForce (s : State) :
    PlantInForce (plantOf (endConfigFault s).store.plant.stored) (endConfigFault s) := by
  rw [endConfigFault_eq]
  exact plantInForce_of rfl rfl rfl

theorem endConfigFault_channel (s : State) (c : Fin 16) :
    ChannelJudged (endConfigFault s).plant.scalings[c] (s.channel c) ((endConfigFault s).channel c) := by
  have channel : (endConfigFault s).channel c = judgeChannel (endConfigFault s).plant.scalings[c] (s.channel c) := by
    rw [endConfigFault_eq]
    simp [faultEnded, channelAtFaultEnd, State.channel]
  rw [channel]
  exact judgeChannel_judged _ _

theorem endConfigFault_drive (s : State) (a : Fin 64) :
    DriveCreated (endConfigFault s) none a ((endConfigFault s).drive a) := by
  have drive : (endConfigFault s).drive a = (faultEnded s).freshDrive none a := by
    rw [endConfigFault_eq]
    simp [State.drive, State.freshDrives]
  rw [drive, endConfigFault_eq]
  exact (freshDrive_created (faultEnded s) none a).withDrives _ _ _

/-! ## IDENTITY -/

theorem takeTimeOf_port_same (img : Image) (s : State) (l : Line) :
    (takeTimeOf img s l).port l = (s.port l).takeTime s.now (supervisionTimeOf img l) := State.setPort_port_same ..

theorem takeTimeOf_port_other (img : Image) (s : State) {l k : Line} (h : k ≠ l) :
    (takeTimeOf img s l).port k = s.port k := State.setPort_port_other s _ h

theorem takeTimeOf_now (img : Image) (s : State) (l : Line) : (takeTimeOf img s l).now = s.now := rfl

/-- The supervised lines take their times one after the other, and nothing else of the part differs (R175, R186). -/
theorem applyIdentity_effect (img : Image) (s : State) :
    (∃ ps, applyIdentity img s = { s with siteCode := some (siteCodeOf img), ports := ps }) ∧
      ∀ l, l.supervised = true →
        (applyIdentity img s).port l = (s.port l).takeTime s.now (supervisionTimeOf img l) := by
  refine ⟨⟨_, rfl⟩, fun l supervised => ?_⟩
  simp only [applyIdentity, List.foldl_cons, List.foldl_nil]
  cases l with
  | panelA =>
    rw [takeTimeOf_port_other _ _ (by decide), takeTimeOf_port_other _ _ (by decide), takeTimeOf_port_same]
    rfl
  | panelB =>
    rw [takeTimeOf_port_other _ _ (by decide), takeTimeOf_port_same, takeTimeOf_port_other _ _ (by decide), takeTimeOf_now]
    rfl
  | override =>
    rw [takeTimeOf_port_same, takeTimeOf_port_other _ _ (by decide), takeTimeOf_port_other _ _ (by decide), takeTimeOf_now,
      takeTimeOf_now]
    rfl
  | building => cases supervised

/-! ## The completion, case by case -/

section

variable {s : State} {sec : Sector} {img : Image} (writing : s.store.writing = some sec)
  (staging : (s.store.sector sec).staging = some img)
include writing staging

theorem completeWrite_ofIdentity (identity : sec = .identity) :
    completeWrite s = applyIdentity img (storedAs sec img .none s) := by
  subst identity
  rw [completeWrite_identity writing, written_eq staging]
  rfl

theorem completeWrite_ofPending (other : sec ≠ .identity) (fault : s.configFault = false) (may : s.mayApply = false) :
    completeWrite s = storedAs sec img .pending s := by
  rw [completeWrite_after writing other, written_eq staging,
    afterWrite_pending (s := storedAs sec img .none s) sec fault may, storedAs_setActivation]

theorem completeWrite_ofApplied (other : sec ≠ .identity) (fault : s.configFault = false) (may : s.mayApply = true) :
    completeWrite s = (applySector sec (Work.start (storedAs sec img .none s))).st := by
  rw [completeWrite_after writing other, written_eq staging,
    afterWrite_applied (s := storedAs sec img .none s) sec fault may]

/-- In CONFIG-FAULT the completion ends the condition where the other mark is VALID, and leaves it otherwise (R189). -/
theorem completeWrite_ofFault (other : sec ≠ .identity) (fault : s.configFault = true) :
    completeWrite s = if (s.store.sector sec.crossed).valid then endConfigFault (storedAs sec img .none s)
      else followMarks (storedAs sec img .none s) := by
  have valid := storedAs_valid other img .none s
  rw [completeWrite_after writing other, written_eq staging]
  by_cases crossed : (s.store.sector sec.crossed).valid = true
  · rw [if_pos crossed, afterWrite_endsFault (s := storedAs sec img .none s) sec fault (valid.trans crossed)]
  · rw [if_neg crossed,
      afterWrite_fault (s := storedAs sec img .none s) sec fault (valid.trans (by simpa using crossed)),
      takeForReads, storedAs_setActivation]

end

theorem mayApply_iff (s : State) : s.mayApply = true ↔ s.activation = [] ∧ s.overrides = 0 := by
  simp [State.mayApply]

/-- A PLANT or SEQUENCES image stored while the part is in CONFIG-FAULT (R13, R186, R189). -/
theorem faultCompletion {s : State} {sec : Sector} {img : Image} (writing : s.store.writing = some sec)
    (staging : (s.store.sector sec).staging = some img) (other : sec ≠ .identity) (fault : s.configFault = true) :
    let t := completeWrite s
    t.applied = s.applied ∧ t.ports = s.ports ∧ (t.store.sector sec).stored = img ∧
      (t.store.sector sec).valid = true ∧ (t.store.sector sec).activation = .none ∧
      (t.store.sector sec).staging = none ∧ (t.configFault = false ↔ (s.store.sector sec.crossed).valid = true) ∧
      (t.configFault = true → FollowsMarks s t) ∧
      (t.configFault = false → PlantInForce (plantOf t.store.plant.stored) t ∧
        t.sequences = sequencesOf t.store.sequences.stored ∧
        (∀ c, ChannelJudged t.plant.scalings[c] (s.channel c) (t.channel c)) ∧
        ∀ a, DriveCreated t none a (t.drive a)) := by
  intro t
  have sector := storedAs_sector sec img .none s
  have t_eq : t = completeWrite s := rfl
  clear_value t
  rw [completeWrite_ofFault writing staging other fault] at t_eq
  by_cases crossed : (s.store.sector sec.crossed).valid = true
  · rw [if_pos crossed] at t_eq
    obtain ⟨applied, ports, ends, sequences, sectors⟩ := endConfigFault_frame (storedAs sec img .none s)
    have stored := sectors sec
    rw [sector] at stored
    rw [← t_eq] at applied ports ends sequences stored
    rw [stored]
    refine ⟨applied, ports, rfl, rfl, rfl, rfl, ⟨fun _ => crossed, fun _ => ends⟩,
      fun yes => absurd (ends.symm.trans yes) (by simp), fun _ => ?_⟩
    have inForce := endConfigFault_inForce (storedAs sec img .none s)
    have channels := endConfigFault_channel (storedAs sec img .none s)
    have drives := endConfigFault_drive (storedAs sec img .none s)
    rw [← t_eq] at inForce channels drives
    exact ⟨inForce, sequences, channels, drives⟩
  · rw [if_neg crossed] at t_eq
    have stays : t.configFault = true := by rw [t_eq]; exact fault
    have stored : t.store.sector sec = { valid := true, activation := .none, stored := img, staging := none } := by
      rw [t_eq]; exact sector
    rw [stored]
    refine ⟨by rw [t_eq]; rfl, by rw [t_eq]; rfl, rfl, rfl, rfl, rfl,
      ⟨fun no => absurd (stays.symm.trans no) (by simp), fun yes => absurd yes crossed⟩, fun _ => ?_,
      fun no => absurd (stays.symm.trans no) (by simp)⟩
    rw [t_eq]
    exact followMarks_follows s _

/-- An IDENTITY image that has been stored is applied at once (R175, R186). -/
theorem identityCompletion {s : State} {img : Image} (writing : s.store.writing = some .identity)
    (staging : (s.store.sector .identity).staging = some img) :
    let t := completeWrite s
    t.store = (storedAs .identity img .none s).store ∧ t.siteCode = some (siteCodeOf img) ∧
      (∀ l, l.supervised = true → (t.port l).supervisionTime = supervisionTimeOf img l ∧
        ((s.port l).line = .live → (t.port l).supervisionTimer = some (s.now + tenthsToMs (supervisionTimeOf img l)))) ∧
      ∃ ps, t = { storedAs .identity img .none s with siteCode := some (siteCodeOf img), ports := ps } := by
  intro t
  obtain ⟨⟨ps, frame⟩, ports⟩ := applyIdentity_effect img (storedAs .identity img .none s)
  have done : t = applyIdentity img (storedAs .identity img .none s) := completeWrite_ofIdentity writing staging rfl
  clear_value t
  subst done
  refine ⟨by rw [frame], by rw [frame], fun l supervised => ?_, ps, frame⟩
  rw [ports l supervised]
  exact ⟨rfl, fun live => if_pos live⟩

/-- A PLANT image that has been stored with no zone active and no override standing is applied at once (R11, R39, R144, R187). -/
theorem plantCompletion {s : State} {img : Image} (writing : s.store.writing = some .plant)
    (staging : (s.store.sector .plant).staging = some img) (fault : s.configFault = false) (may : s.mayApply = true) :
    let t := completeWrite s
    t.store = (storedAs .plant img .none s).store ∧ PlantInForce (plantOf img) t ∧
      (∀ a, s.record a ≠ t.record a → DriveCreated t (some t.now) a (t.drive a)) ∧
      (∀ a, s.record a = t.record a → (∀ c, provesOn c (s.record a) = true → t.channel c = s.channel c) →
        ((s.claimList a).target = (t.claimList a).target ∨ (t.claimList a).target = none → t.drive a = s.drive a) ∧
        ∀ c, (t.claimList a).target = some c → (s.claimList a).target ≠ some c →
          TargetTaken t a c (s.drive a) (t.drive a)) ∧
      t.sequences = s.sequences ∧ t.zones = s.zones ∧ t.applied = s.applied ∧ t.inputs = s.inputs ∧
      (∀ c, (s.plant.scalings[c] = t.plant.scalings[c] → t.channel c = s.channel c) ∧
        (s.plant.scalings[c] ≠ t.plant.scalings[c] →
          ChannelJudged t.plant.scalings[c] { s.channel c with lastValid := none } (t.channel c))) ∧
      FlagsSet t := by
  intro t
  have done : t = (applyPlant (plantOf img) (Work.start (storedAs .plant img .none s))).st := by
    rw [show t = completeWrite s from rfl, completeWrite_ofApplied writing staging (by decide) fault may]
    have again := storedAs_setActivation .plant img .none .none s
    simp only [applySector, Work.map, Work.start, again, storedAs_sector]
  clear_value t
  obtain ⟨⟨ds, ps, frame⟩, flags, -⟩ := applyPlant_effect (plantOf img) (Work.start (storedAs .plant img .none s))
  have inForce := applyPlant_inForce (plantOf img) (Work.start (storedAs .plant img .none s))
  have created := applyPlant_created (plantOf img) (Work.start (storedAs .plant img .none s))
  have handed := applyPlant_handed (plantOf img) (Work.start (storedAs .plant img .none s))
  have channels := applyPlant_channel (plantOf img) (Work.start (storedAs .plant img .none s))
  rw [← done] at frame flags inForce created handed channels
  refine ⟨?_, inForce, created, handed, ?_, ?_, ?_, ?_, channels, flags⟩ <;>
    · rw [frame]
      simp only [replant, underPlant, Work.start, storedAs]

/-- Outside CONFIG-FAULT a stored PLANT or SEQUENCES image waits, and a SEQUENCES image that may be applied replaces the definitions
(R186, R187). -/
theorem completeWrite_noFault (s : State) (sec : Sector) (img : Image) (writing : s.store.writing = some sec)
    (staging : (s.store.sector sec).staging = some img) (other : sec ≠ .identity) (fault : s.configFault = false) :
    (s.mayApply = false → completeWrite s = storedAs sec img .pending s) ∧
      (sec = .sequences → s.mayApply = true →
        completeWrite s = { storedAs sec img .none s with sequences := sequencesOf img }.raiseFlags) := by
  refine ⟨completeWrite_ofPending writing staging other fault, fun sequences may => ?_⟩
  subst sequences
  rw [completeWrite_ofApplied writing staging other fault may]
  rfl

end Sys2Proof.Machine

end
/-! # A PENDING image waits, or is applied where the part is empty (R42, R155, R187) -/

section

namespace Sys2Proof.Machine

/-- A sector's PENDING image waits as it was stored, and the image in force stays. -/
def Waits (sec : Sector) (s t : State) : Prop :=
  (t.store.sector sec).activation = .pending ∧ (t.store.sector sec).stored = (s.store.sector sec).stored ∧
    SameInForce sec s t

/-- A PENDING image has been applied to an empty part. -/
def AppliedEmpty (sec : Sector) (t : State) : Prop :=
  (t.store.sector sec).activation = .none ∧ t.activation = [] ∧ t.overrides = 0

/-- A part that can neither apply an image nor begin a write of PLANT or SEQUENCES. -/
def Occupied (s : State) : Prop :=
  s.mayApply = false ∧ s.configFault = false ∧ ∀ sec, s.mayActivate sec = true → sec = .identity

theorem Waits.refl {sec : Sector} {s : State} (h : (s.store.sector sec).activation = .pending) : Waits sec s s :=
  ⟨h, rfl, by cases sec <;> rfl⟩

theorem Waits.congr {sec : Sector} {s t u : State} (h : Waits sec s t) (store : u.store = t.store)
    (site : u.siteCode = t.siteCode) (plant : u.plant = t.plant) (sequences : u.sequences = t.sequences) : Waits sec s u := by
  obtain ⟨activation, stored, same⟩ := h
  refine ⟨by rw [store, activation], by rw [store, stored], ?_⟩
  cases sec with
  | identity => exact site.trans same
  | plant => exact plant.trans same
  | sequences => exact sequences.trans same

/-- A write to the store that leaves the sector's activation state and stored image leaves the image waiting. -/
theorem Waits.setSector {sec : Sector} {s t : State} (h : Waits sec s t) (other : Sector) (x : SectorState)
    (same : other = sec → x.activation = .pending ∧ x.stored = (t.store.sector sec).stored) :
    Waits sec s { t with store := t.store.setSector other x } := by
  obtain ⟨activation, stored, force⟩ := h
  by_cases equal : other = sec
  · subst equal
    obtain ⟨x_activation, x_stored⟩ := same rfl
    exact ⟨by rw [Store.setSector_same, x_activation], by rw [Store.setSector_same, x_stored, stored], force⟩
  · have kept := Store.setSector_other t.store x (Ne.symm equal)
    exact ⟨by rw [kept, activation], by rw [kept, stored], force⟩

/-- A sector whose image waits is not WRITING. -/
theorem Waits.notWriting {sec other : Sector} {s t : State} (h : Waits sec s t) (writing : t.store.writing = some other) :
    other ≠ sec := by
  rintro rfl
  have found := List.find?_some writing
  simp [h.1] at found

/-! ## The application of a PENDING image -/

theorem applySector_store (sec : Sector) (w : Work) : (applySector sec w).st.store = (w.st.setActivation sec .none).store := by
  cases sec with
  | identity => rfl
  | sequences => rfl
  | plant => exact (keeps_applyPlant _ _).store

theorem applySector_overrides (sec : Sector) (w : Work) : (applySector sec w).st.overrides = w.st.overrides := by
  cases sec with
  | identity => rfl
  | sequences => rfl
  | plant => exact (keeps_applyPlant _ _).overrides

theorem applyIfPending_overrides (sec : Sector) (w : Work) : (applyIfPending sec w).st.overrides = w.st.overrides := by
  unfold applyIfPending
  split
  · exact applySector_overrides _ _
  · rfl

theorem applyIfPending_sector_same {sec : Sector} {w : Work} (h : (w.st.store.sector sec).activation = .pending) :
    ((applyIfPending sec w).st.store.sector sec).activation = .none := by
  rw [applyIfPending, if_pos h, applySector_store, State.setActivation, Store.setSector_same]

theorem applyIfPending_sector_other {sec other : Sector} (w : Work) (h : other ≠ sec) :
    (applyIfPending sec w).st.store.sector other = w.st.store.sector other := by
  unfold applyIfPending
  split
  · rw [applySector_store, State.setActivation, Store.setSector_other _ _ h]
  · rfl

/-- Where an image may be applied, a PENDING one is, and the part stays empty (R42, R155, R187). -/
theorem applied_of_pending {sec : Sector} (other : sec ≠ .identity) {w : Work} (may : w.st.mayApply = true)
    (pending : (w.st.store.sector sec).activation = .pending) :
    AppliedEmpty sec (applyIfPending .sequences (applyIfPending .plant w)).st := by
  obtain ⟨active, overrides⟩ := (mayApply_iff _).1 may
  refine ⟨?_, ?_, ?_⟩
  · cases sec with
    | identity => exact absurd rfl other
    | plant =>
      rw [applyIfPending_sector_other _ (by decide)]
      exact applyIfPending_sector_same pending
    | sequences =>
      refine applyIfPending_sector_same ?_
      rw [applyIfPending_sector_other _ (by decide)]
      exact pending
  · rw [applyIfPending_activation, applyIfPending_activation, active]
  · rw [applyIfPending_overrides, applyIfPending_overrides, overrides]

/-! ## Every command -/

/-- A part with a zone active or an override standing, its Activation List holding the zones that are active (R42, R185). -/
theorem occupied_of {s : State} (zones : ZonesSound s) (fault : s.configFault = false)
    (busy : s.activation ≠ [] ∨ s.overrides ≠ 0) : Occupied s := by
  refine ⟨?_, fault, fun sec may => ?_⟩
  · rw [← Bool.not_eq_true, mayApply_iff]
    rintro ⟨active, overrides⟩
    exact busy.elim (fun h => h active) (fun h => h overrides)
  · obtain identity | ⟨normal, overrides⟩ := (mayActivate_iff s sec).1 may
    · exact identity
    · obtain ⟨-, -, listed, -⟩ := zones
      refine (busy.elim (fun active => ?_) (fun h => h overrides)).elim
      obtain ⟨z, z_active⟩ := List.exists_mem_of_ne_nil _ active
      exact (listed z).1 z_active (normal z)

theorem waits_startWrite {sec : Sector} {s t : State} (waits : Waits sec s t) (other : sec ≠ .identity) (img : Image) :
    Waits sec s (startWrite .identity img t) := by
  rw [startWrite_identity]
  exact waits.setSector _ _ (fun e => absurd e.symm other)

theorem waits_completeWrite {sec : Sector} {s t : State} (waits : Waits sec s t) (other : sec ≠ .identity)
    (occupied : Occupied t) : Waits sec s (completeWrite t) := by
  obtain ⟨busy, fault, -⟩ := occupied
  have clear : ∀ sec', t.store.writing = some sec' → Waits sec s (written sec' t) := fun sec' writing =>
    waits.setSector _ _ (fun e => absurd e (waits.notWriting writing))
  obtain e | ⟨writing, e⟩ | ⟨sec', writing, -, ⟨yes, -⟩ | ⟨yes, -⟩ | ⟨-, may, -⟩ | ⟨-, e⟩⟩ := completeWrite_cases t
  · rwa [e]
  · obtain ⟨activation, stored, force⟩ := clear _ writing
    rw [e]
    cases sec with
    | identity => exact absurd rfl other
    | plant => exact ⟨activation, stored, force⟩
    | sequences => exact ⟨activation, stored, force⟩
  · exact absurd (fault.symm.trans yes) (by simp)
  · exact absurd (fault.symm.trans yes) (by simp)
  · exact absurd (busy.symm.trans may) (by simp)
  · rw [e]
    exact (clear _ writing).setSector _ _ (fun e => absurd e (waits.notWriting writing))

theorem waits_rule (s : State) {sec : Sector} (other : sec ≠ .identity) :
    StateRule (fun t => Waits sec s t ∧ Occupied t) (Waits sec s) (fun t => Waits sec s t ∨ AppliedEmpty sec t) where
  light _ _ h l := h.congr l.store l.siteCode l.plant l.sequences
  damper _ _ _ _ _ h _ _ _ := h.congr rfl rfl rfl rfl
  fan _ _ _ _ _ h _ _ _ := h.congr rfl rfl rfl rfl
  ports _ _ _ h _ := ⟨h.1.congr rfl rfl rfl rfl, h.2⟩
  begins _ h := h.1
  ends _ h := .inl h
  quiet _ _ _ h := h.imp (fun h => h.congr rfl rfl rfl rfl) id
  apply _ h may := .inr (applied_of_pending other may h.1)
  configWrite body t h := by
    obtain ⟨waits, -⟩ := h
    obtain e | ⟨sec', img, e⟩ := takeConfigWrite_cases body t
    · rw [e]; exact .inl waits
    · rw [e]
      exact .inl (waits.setSector _ _ (fun e => by subst e; exact ⟨waits.1, rfl⟩))
  configActivate body t h := by
    obtain ⟨waits, occupied⟩ := h
    obtain e | ⟨sec', x, e⟩ | ⟨sec', img, -, may, e⟩ := takeConfigActivate_cases body t
    · rw [e]; exact .inl waits
    · rw [e]
      exact .inl (waits.setSector _ _ (fun e => by subst e; exact ⟨waits.1, rfl⟩))
    · obtain rfl := occupied.2.2 sec' may
      rw [e]
      exact .inl (waits_startWrite waits other _)
  write t h := .inl (waits_completeWrite h.1 other h.2)

theorem waits_endWarmRestart (sec : Sector) {s : State} (waits : Waits sec s s) : Waits sec s (endWarmRestart s) := by
  have kept := keeps_endWarmRestart s
  have restarted : Waits sec s (restartedState s) := waits.congr rfl rfl rfl rfl
  exact restarted.congr kept.store kept.siteCode kept.plant kept.sequences

/-- A command other than those that drop the working memory leaves a PENDING image waiting, or applies it to an empty part. -/
theorem waits_exec {c : Instr} {sec : Sector} {s t : State} (other : sec ≠ .identity) (waits : Waits sec s s)
    (occupied : Occupied s) (e : exec c s = .next t) (cold : c ≠ .coldStart) (loss : c ≠ .powerLoss)
    (supervisor : c ≠ .supervisor) (warm : ∀ cause, c ≠ .warmRestartStart cause) : Waits sec s t ∨ AppliedEmpty sec t := by
  cases routine : c.routine with
  | true => exact (waits_rule s other).command.exec routine ⟨waits, occupied⟩ e
  | false =>
    cases c with
    | coldStart => exact absurd rfl cold
    | powerLoss => exact absurd rfl loss
    | warmRestartStart cause => exact absurd rfl (warm cause)
    | supervisor => exact absurd rfl supervisor
    | warmRestartEnd =>
      obtain rfl := Host.Outcome.next.inj e
      split
      · exact .inl (waits_endWarmRestart sec waits)
      · exact .inl waits
    | speedFrameBoundary o =>
      obtain rfl := Host.Outcome.next.inj e
      unfold whileRunning
      split
      · exact .inl (waits.congr rfl rfl rfl rfl)
      · exact .inl waits
    | _ => cases routine

/-- Settles O41: the completion by the cases of R186, and the rule of every command for a PENDING image. -/
theorem writeCompletes : Obligations.WriteCompletes := by
  refine ⟨fun s running => ?_, fun c sec s t zones fault other pending busy e cold loss supervisor warm =>
    waits_exec other (Waits.refl pending) (occupied_of zones fault busy) e cold loss supervisor warm⟩
  have exec_eq : exec .writeCompletion s = .next (completeWrite s) := event_running running completeWrite
  rw [exec_eq]
  refine ⟨fun idle => by rw [completeWrite_idle idle], fun sec img writing staging => ?_⟩
  refine ⟨fun identity => ?_, fun other fault busy => ?_, fun plant fault active overrides => ?_,
    fun sequences fault active overrides => ?_, fun other fault => ?_⟩
  · subst identity
    exact ⟨_, rfl, identityCompletion writing staging⟩
  · have occupied : s.mayApply = false := by
      rw [← Bool.not_eq_true, mayApply_iff]
      rintro ⟨active, overrides⟩
      exact busy.elim (fun h => h active) (fun h => h overrides)
    rw [(completeWrite_noFault s sec img writing staging other fault).1 occupied]
    rfl
  · subst plant
    exact ⟨_, rfl, plantCompletion writing staging fault ((mayApply_iff s).2 ⟨active, overrides⟩)⟩
  · subst sequences
    rw [(completeWrite_noFault s _ img writing staging (by decide) fault).2 rfl ((mayApply_iff s).2 ⟨active, overrides⟩)]
    rfl
  · exact ⟨_, rfl, faultCompletion writing staging other fault⟩

end Sys2Proof.Machine

end
/-! # What the end of a warm restart makes of the drives (R108, R111, R119, R131, R137, R145) -/

section

namespace Sys2Proof.Machine

/-! ## A part that has read nothing yet -/

theorem scanEmptied_reading (s : State) (i : Fin 128) : (scanEmptied s).reading i = .unknown := by
  simp [scanEmptied, State.reading, inputAtReset]

/-- A channel at the end of a warm restart (R139, R145). -/
theorem scanEmptied_channel (s : State) (c : Fin 16) :
    (scanEmptied s).channel c = { channelAtReset with status := if s.plant.scalings[c] = none then .unused else .unknown } := by
  rw [← judgeChannel_atReset]
  simp [scanEmptied, State.channel]

theorem scanEmptied_notValid (s : State) (c : Fin 16) : ((scanEmptied s).channel c).status ≠ .valid := by
  rw [scanEmptied_channel]
  dsimp only
  split_ifs <;> simp

theorem gateTrue_of_notValid {c : Channel} (h : c.status ≠ .valid) (g : Gate) : gateTrue g c = false := by
  unfold gateTrue
  split
  · rename_i valid _
    exact absurd valid h
  · rfl

/-- A gate of a channel that is not VALID lets no stage be issued (R61, R64). -/
theorem judgeGate_notValid {c : Fin 16} {w : Work} (h : (w.st.channel c).status ≠ .valid) (z : Fin 24) : judgeGate c w z = w := by
  unfold judgeGate
  dsimp only
  split
  · rfl
  · split
    · split
      · rfl
      · rw [gateTrue_of_notValid h]
        simp
    · rfl

theorem foldl_judgeGate_notValid {c : Fin 16} {w : Work} (h : (w.st.channel c).status ≠ .valid) (l : List (Fin 24)) :
    l.foldl (judgeGate c) w = w := by
  induction l with
  | nil => rfl
  | cons z l ih => rw [List.foldl_cons, judgeGate_notValid h, ih]

theorem channelNotice_notValid {c : Fin 16} {w : Work} (h : ((handChannel c w).st.channel c).status ≠ .valid) :
    channelNotice c w = handChannel c w := by
  simp only [channelNotice, foldl_judgeGate_notValid h]

/-! ## What a drive sees then -/

theorem named_of_namingRecord {s : State} {i : Fin 128} {a : Fin 64} (h : s.namingRecord i = some a) :
    ∃ r ∈ namedInputs (s.record a), r.input = i := by
  have found := List.find?_some h
  obtain ⟨r, mem, same⟩ := List.any_eq_true.1 found
  exact ⟨r, mem, by simpa using same⟩

/-- The contexts of a part that has read nothing are the kept ones but for the readings. -/
theorem damperCtx_scanEmptied {s : State} {a : Fin 64} {ctx : DamperCtx} (h : s.damperCtx a = some ctx) :
    ∃ ctx', (scanEmptied s).damperCtx a = some ctx' ∧ ctx'.kind = ctx.kind ∧ ctx'.mode = ctx.mode ∧
      ctx'.travelLimit = ctx.travelLimit ∧ ctx'.now = ctx.now := by
  unfold State.damperCtx at h ⊢
  rw [scanEmptied_record]
  cases record : s.record a with
  | reversing r => rw [record] at h; cases h; exact ⟨_, rfl, rfl, rfl, rfl, rfl⟩
  | spring r => rw [record] at h; cases h; exact ⟨_, rfl, rfl, rfl, rfl, rfl⟩
  | fan r => rw [record] at h; cases h
  | unused => rw [record] at h; cases h

theorem fanCtx_scanEmptied {s : State} {a : Fin 64} {ctx : FanCtx} (h : s.fanCtx a = some ctx) :
    ∃ ctx', (scanEmptied s).fanCtx a = some ctx' ∧ ctx'.definition = ctx.definition ∧ ctx'.now = ctx.now := by
  unfold State.fanCtx at h ⊢
  rw [scanEmptied_record]
  cases record : s.record a with
  | fan r => rw [record] at h; cases h; exact ⟨_, rfl, rfl, rfl⟩
  | reversing r => rw [record] at h; cases h
  | spring r => rw [record] at h; cases h
  | unused => rw [record] at h; cases h

/-- Of switches that all read UNKNOWN, one at least named, some reads UNKNOWN and none reads ON. -/
theorem unread_switches {ctx : DamperCtx} {x y : Option InputRef} (opens : ctx.openSwitch = x.map fun _ => .unknown)
    (closes : ctx.closedSwitch = y.map fun _ => .unknown) (named : x.toList ++ y.toList ≠ []) :
    ctx.anyUnknown = true ∧ ctx.bothOn = false := by
  have off : ctx.bothOn = false := by
    cases x <;> simp [DamperCtx.bothOn, opens]
  refine ⟨?_, off⟩
  cases x with
  | some r => simp [DamperCtx.anyUnknown, opens]
  | none =>
    cases y with
    | some r => simp [DamperCtx.anyUnknown, closes]
    | none => exact absurd rfl named

/-- A damper that names an input has a switch that reads UNKNOWN, and none that reads ON. -/
theorem damperCtx_unread {s : State} {a : Fin 64} {ctx : DamperCtx} (h : (scanEmptied s).damperCtx a = some ctx)
    (named : namedInputs (s.record a) ≠ []) : ctx.anyUnknown = true ∧ ctx.bothOn = false := by
  unfold State.damperCtx at h
  rw [scanEmptied_record] at h
  simp only [scanEmptied_reading] at h
  cases record : s.record a with
  | reversing r =>
    rw [record] at h named
    cases h
    exact unread_switches (x := r.openSwitch) (y := r.closedSwitch) rfl rfl named
  | spring r =>
    rw [record] at h named
    cases h
    exact unread_switches (x := r.openSwitch) (y := r.closedSwitch) rfl rfl named
  | fan r => rw [record] at h; cases h
  | unused => rw [record] at h; cases h

theorem channelReading_notValid {status : ChannelStatus} (h : status ≠ .valid) (threshold : Nat) (v : Option Int) :
    channelReading threshold (status, v) = none := by
  unfold channelReading
  split
  · rename_i valid
    exact absurd (congrArg Prod.fst valid) h
  · rfl

/-- Of a fan that has read nothing the run-proof input alone takes part, and it does not decide (R111). -/
theorem fanCtx_unread {s : State} {a : Fin 64} {ctx : FanCtx} (h : (scanEmptied s).fanCtx a = some ctx) :
    ctx.evidence = if ctx.definition.proofInput = none then .noSource else .undecided := by
  have input : ctx.input = ctx.definition.proofInput.map fun _ => .unknown := by
    unfold State.fanCtx at h
    split at h
    · obtain rfl := Option.some.inj h
      simp only [scanEmptied_reading]
    · cases h
    · cases h
    · cases h
  have readings : ctx.readings = (ctx.definition.proofInput.map fun _ => ProofReading.undecided).toList := by
    unfold FanCtx.readings
    rw [input, fanCtx_channel h]
    cases ctx.definition.pressure with
    | none => simp [inputReading, Function.comp_def]
    | some p => simp [inputReading, Function.comp_def, channelReading_notValid (scanEmptied_notValid s p.channel)]
  unfold FanCtx.evidence
  rw [readings]
  cases ctx.definition.proofInput <;> rfl

/-! ## The drives' own part -/

/-- A switch that reads UNKNOWN leaves a restarted damper drive but for a position that is MOVING while it travels (R96, R108). -/
theorem damperRestarted_unknown {ctx : DamperCtx} (unknown : ctx.anyUnknown = true) (off : ctx.bothOn = false) (d : DamperDrive)
    (p : Position) (side : Side) :
    damperFinish ctx { damperRestarted ctx d with position := p }
        (switchChanged side .unknown ctx { damperRestarted ctx d with position := p }) =
      { damperRestarted ctx d with position := if (drivingSide d.state).isSome then .moving else p } := by
  have taken : switchChanged side .unknown ctx { damperRestarted ctx d with position := p } =
      { damperRestarted ctx d with position := p } := by
    simp [switchChanged, Debounced.faulted, settleEndWait, off, damperRestarted]
  rw [taken]
  by_cases timed : ctx.mode = .timed
  · simp [damperFinish, judgeLeft, judgePosition, unknown, damperRestarted, timed]
  · simp [damperFinish, judgeLeft, judgePosition, unknown, damperRestarted, timed]

theorem damperRestarted_rests (ctx ctx' : DamperCtx) (d : DamperDrive) (p : Position) (kind : ctx'.kind = ctx.kind)
    (limit : ctx'.travelLimit = ctx.travelLimit) (now : ctx'.now = ctx.now)
    (position : drivingSide d.state = none → p = d.position) :
    DamperRestarted ctx d { damperRestarted ctx' d with position := p } := by
  refine ⟨rfl, rfl, rfl, rfl, rfl, rfl, rfl, rfl, rfl, rfl, rfl, rfl, rfl, position, fun e running => ?_, fun ms frozen => ?_,
    fun stopped => ?_, rfl, rfl, rfl, ?_⟩
  · simp [damperRestarted, running, limit, now]
  · simp [damperRestarted, frozen]
  · simp [damperRestarted, stopped]
  · cases k : ctx.kind with
    | reversing deadTime _ => simp [damperRestarted, kind, k, now, reversalWindow]
    | spring _ => trivial

/-- A fan that stops without a source and has heard its channel (R111, R119). -/
def StopsUnread (ctx : FanCtx) (heard : Prop) (f : FanDrive) : Prop :=
  f.state = .stopping ∧ ctx.definition.proofInput = none ∧ heard

/-- Without evidence that shows it running or stopped, a restarted fan keeps its run state but where it stops without a source. -/
theorem judgeFan_restarted {ctx : FanCtx} {f : FanDrive}
    (evidence : ctx.evidence = if ctx.definition.proofInput = none then .noSource else .undecided) :
    judgeFan ctx (fanRestarted ctx f) =
      if f.state = .stopping ∧ ctx.definition.proofInput = none then toStopped (fanRestarted ctx f) else fanRestarted ctx f := by
  have state : (fanRestarted ctx f).state = f.state := rfl
  by_cases proof : ctx.definition.proofInput = none
  · rw [if_pos proof] at evidence
    simp only [judgeFan, state, evidence, proof]
    cases fs : f.state <;> simp [fanRestarted, fs]
  · rw [if_neg proof] at evidence
    simp only [judgeFan, state, evidence, proof]
    cases fs : f.state <;> simp [fanRestarted, fs]

theorem fanInput_unknown (ctx : FanCtx) (f : FanDrive) : fanInput .unknown ctx f = judgeFan ctx f := by
  simp [fanInput, Debounced.faulted, Debounced.healthy]

theorem fanChannel_restarted (ctx : FanCtx) (f : FanDrive) :
    fanChannel ctx (fanRestarted ctx f) = judgeFan ctx (fanRestarted ctx f) := rfl

theorem fanChannel_stopped (ctx : FanCtx) (f : FanDrive) :
    fanChannel ctx (toStopped (fanRestarted ctx f)) = toStopped (fanRestarted ctx f) := rfl

end Sys2Proof.Machine

end
/-! # The end of a warm restart (R15, R83, R137, R145, R149, R175) -/

section

namespace Sys2Proof.Machine

/-! ## The stages re-enter (R83) -/

/-- A zone's record after its re-entry. -/
def reentered (s : State) (z : Fin 24) : ZoneRecord :=
  if (s.zone z).phase = .running then
    { s.zone z with stage := (s.zone z).stage.map (reenterStage s (s.zone z).blocked) }
  else s.zone z

theorem reenterZone_eq (s : State) (z : Fin 24) :
    reenterZone s z = { s with zones := s.zones.set z (reentered s z) } := by
  unfold reenterZone reentered
  dsimp only
  split
  · rfl
  · simp [State.zone]

/-- A fold that writes the record of each zone of a list once, from that record and from what no zone's record holds. -/
theorem zones_foldl {step : State → Fin 24 → State} {record : State → Fin 24 → ZoneRecord}
    (writes : ∀ s z, step s z = { s with zones := s.zones.set z (record s z) })
    (depends : ∀ (s : State) zs z, ({ s with zones := zs } : State).zone z = s.zone z →
      record { s with zones := zs } z = record s z)
    (l : List (Fin 24)) (once : l.Nodup) (s : State) :
    (∃ zs, l.foldl step s = { s with zones := zs }) ∧
      ∀ z, (l.foldl step s).zone z = if z ∈ l then record s z else s.zone z := by
  induction l generalizing s with
  | nil => exact ⟨⟨s.zones, rfl⟩, fun z => by simp⟩
  | cons y l ih =>
    obtain ⟨notIn, once⟩ := List.nodup_cons.1 once
    obtain ⟨⟨zs, rest⟩, zones⟩ := ih once (step s y)
    rw [List.foldl_cons]
    refine ⟨⟨zs, by rw [rest, writes]⟩, fun z => ?_⟩
    rw [zones z, writes]
    by_cases same : z = y
    · subst same
      rw [if_neg notIn, if_pos (List.mem_cons_self ..)]
      simp [State.zone]
    · have kept : ({ s with zones := s.zones.set y (record s y) } : State).zone z = s.zone z := by
        have differs : (y : Nat) ≠ z := fun e => same (Fin.ext e.symm)
        simp [State.zone, differs]
      rw [depends _ _ _ kept, kept]
      simp [same]

/-- Each zone of a list re-enters once. -/
theorem reenterZone_foldl (l : List (Fin 24)) (once : l.Nodup) (s : State) :
    (∃ zs, l.foldl reenterZone s = { s with zones := zs }) ∧
      ∀ z, (l.foldl reenterZone s).zone z = if z ∈ l then reentered s z else s.zone z :=
  zones_foldl reenterZone_eq (fun s zs z same => by unfold reentered; rw [same]; rfl) l once s

/-- The re-entry of an issued stage runs its timers at full length (R83). -/
theorem reenterIssued_reentered {s t : State} {r : ZoneRecord} {cs : CurrentStage} (now : t.now = s.now)
    (sequences : t.sequences = s.sequences) :
    let x := reenterIssued t r.blocked cs
    let full (tenths : Nat) (timer : Timer) : Prop :=
      timer = if r.held = true ∨ r.suspended = true then .frozen (tenthsToMs tenths) else .running (s.now + tenthsToMs tenths)
    x = { cs with phase := x.phase, settle := x.settle, window := x.window } ∧
      full (s.stageOf cs).proofWindow x.window ∧
      ((s.stageOf cs).settleTime = 0 → x.phase = .proving ∧ x.settle = .stopped) ∧
      ((s.stageOf cs).settleTime ≠ 0 → x.phase = .settling ∧ full (s.stageOf cs).settleTime x.settle) := by
  have stage : t.stageOf cs = s.stageOf cs := by simp only [State.stageOf, State.stageDef, sequences]
  have blocked : r.blocked = decide (r.held = true ∨ r.suspended = true) := by simp [ZoneRecord.blocked, Bool.decide_or]
  refine ⟨rfl, ?_, fun zero => ?_, fun some => ?_⟩
  · simp only [reenterIssued, stage, now, blocked, startTimer, decide_eq_true_iff]
  · simp only [reenterIssued, stage, zero, if_true, and_self]
  · simp only [reenterIssued, stage, some, if_false, now, blocked, startTimer, decide_eq_true_iff, and_self]

theorem reenterStage_reentered {s t : State} (r : ZoneRecord) (cs : CurrentStage) (now : t.now = s.now)
    (sequences : t.sequences = s.sequences) : StageReentered s r cs (reenterStage t r.blocked cs) := by
  have issued := reenterIssued_reentered (r := r) (cs := cs) now sequences
  cases phase : cs.phase with
  | due => simp only [StageReentered, reenterStage, phase]
  | gated => simp only [StageReentered, reenterStage, phase]
  | settling => simpa only [StageReentered, reenterStage, phase] using issued
  | proving => simpa only [StageReentered, reenterStage, phase] using issued
  | finished => simp only [StageReentered, reenterStage, phase]

/-! ## The drives after the notices -/

/-- A drive at the end of a warm restart, once some inputs and, if heard, its channel have handed what they read. -/
def RestsAs (t : State) (a : Fin 64) (heard : Prop) (before after : Drive) : Prop :=
  match before with
  | .none => after = .none
  | .damper d => ∀ ctx, t.damperCtx a = some ctx →
      ∃ p, (drivingSide d.state = none → p = d.position) ∧ after = .damper { damperRestarted ctx d with position := p }
  | .fan f => ∀ ctx, t.fanCtx a = some ctx →
      (StopsUnread ctx heard f → after = .fan (toStopped (fanRestarted ctx f))) ∧
        (¬ StopsUnread ctx heard f → after = .fan (fanRestarted ctx f))

theorem RestsAs.congr {t : State} {a : Fin 64} {heard heard' : Prop} {x y : Drive} (h : RestsAs t a heard x y)
    (same : heard' ↔ heard) : RestsAs t a heard' x y := propext same ▸ h

/-- The state during the work of the end of a warm restart, once the stages have re-entered. -/
structure Rested (s : State) (zs : Vector ZoneRecord 24) (heard : Fin 64 → Prop) (u : State) : Prop where
  frame : ∃ ds ps, u = { scanEmptied s with drives := ds, zones := zs, ports := ps }
  drives : ∀ a, RestsAs (scanEmptied s) a (heard a) (s.drive a) (u.drive a)

section

variable {s u : State} {zs : Vector ZoneRecord 24} {heard : Fin 64 → Prop} (h : Rested s zs heard u)
include h

theorem Rested.congr {heard' : Fin 64 → Prop} (same : ∀ a, heard' a ↔ heard a) : Rested s zs heard' u :=
  ⟨h.frame, fun a => (h.drives a).congr (same a)⟩

theorem Rested.damperCtx (a : Fin 64) : u.damperCtx a = (scanEmptied s).damperCtx a := by
  obtain ⟨ds, ps, rfl⟩ := h.frame
  rfl

theorem Rested.fanCtx (a : Fin 64) : u.fanCtx a = (scanEmptied s).fanCtx a := by
  obtain ⟨ds, ps, rfl⟩ := h.frame
  rfl

theorem Rested.record (a : Fin 64) : u.record a = s.record a := by
  obtain ⟨ds, ps, rfl⟩ := h.frame
  exact scanEmptied_record s a

theorem Rested.reading (i : Fin 128) : u.reading i = .unknown := by
  obtain ⟨ds, ps, rfl⟩ := h.frame
  exact scanEmptied_reading s i

theorem Rested.channel (c : Fin 16) : u.channel c = (scanEmptied s).channel c := by
  obtain ⟨ds, ps, rfl⟩ := h.frame
  rfl

/-- One drive written in its turn. -/
theorem Rested.set {v : State} {heard' : Fin 64 → Prop} {a : Fin 64} {y : Drive}
    (written : ∃ ps, v = { u with drives := u.drives.set a y, ports := ps })
    (rests : RestsAs (scanEmptied s) a (heard' a) (s.drive a) y) (others : ∀ b, b ≠ a → (heard' b ↔ heard b)) :
    Rested s zs heard' v := by
  obtain ⟨ps, rfl⟩ := written
  obtain ⟨⟨ds, ps', frame⟩, drives⟩ := h
  refine ⟨⟨_, _, by rw [frame]⟩, fun b => ?_⟩
  by_cases same : b = a
  · subst same
    have drive : State.drive { u with drives := u.drives.set b y, ports := ps } b = y := State.setDrive_drive_same u b y
    rw [drive]
    exact rests
  · have drive : State.drive { u with drives := u.drives.set a y, ports := ps } b = u.drive b :=
      State.setDrive_drive_other u y same
    rw [drive]
    exact (drives b).congr (others b same)

/-! ## An input that reads UNKNOWN -/

theorem Rested.switch {a : Fin 64} (named : namedInputs (s.record a) ≠ []) (side : Side) :
    RestsAs (scanEmptied s) a (heard a) (s.drive a) (damperActed u a (switchChanged side .unknown)) := by
  have rests := h.drives a
  have context := h.damperCtx a
  unfold damperActed
  cases before : s.drive a with
  | none =>
    rw [before] at rests
    have after : u.drive a = .none := rests
    rw [after]
    exact rfl
  | damper d =>
    rw [before] at rests
    intro ctx hctx
    obtain ⟨p, position, after⟩ := rests ctx hctx
    obtain ⟨unknown, off⟩ := damperCtx_unread hctx named
    rw [after, context, hctx]
    refine ⟨_, fun idle => ?_, congrArg Drive.damper (damperRestarted_unknown unknown off d p side)⟩
    rw [idle]
    exact position idle
  | fan f =>
    rw [before] at rests
    intro ctx hctx
    rw [context]
    obtain ⟨stops, stays⟩ := rests ctx hctx
    refine ⟨fun stop => ?_, fun stay => ?_⟩
    · rw [stops stop]
    · rw [stays stay]

theorem Rested.proofInput {a : Fin 64} {d : FanDef} (record : s.record a = .fan d) (named : d.proofInput ≠ none) :
    RestsAs (scanEmptied s) a (heard a) (s.drive a) (fanActed u a (fanInput .unknown)) := by
  have rests := h.drives a
  have context := h.fanCtx a
  unfold fanActed
  cases before : s.drive a with
  | none =>
    rw [before] at rests
    have after : u.drive a = .none := rests
    rw [after]
    exact rfl
  | damper d =>
    rw [before] at rests
    intro ctx hctx
    obtain ⟨p, position, after⟩ := rests ctx hctx
    rw [after]
    exact ⟨p, position, rfl⟩
  | fan f =>
    rw [before] at rests
    intro ctx hctx
    have source : ctx.definition.proofInput ≠ none := by
      have kind := fanCtx_record hctx
      rw [scanEmptied_record, record] at kind
      obtain rfl := ActuatorDef.fan.inj kind
      exact named
    have kept : ¬ StopsUnread ctx (heard a) f := fun stop => source stop.2.1
    refine ⟨fun stop => absurd stop kept, fun _ => ?_⟩
    rw [(rests ctx hctx).2 kept, context, hctx]
    dsimp only
    rw [fanInput_unknown, judgeFan_restarted (fanCtx_unread hctx), if_neg (fun stop => source stop.2)]

theorem Rested.pressure (a : Fin 64) :
    RestsAs (scanEmptied s) a True (s.drive a) (fanActed u a fanChannel) := by
  have rests := h.drives a
  have context := h.fanCtx a
  unfold fanActed
  cases before : s.drive a with
  | none =>
    rw [before] at rests
    have after : u.drive a = .none := rests
    rw [after]
    exact rfl
  | damper d =>
    rw [before] at rests
    intro ctx hctx
    obtain ⟨p, position, after⟩ := rests ctx hctx
    rw [after]
    exact ⟨p, position, rfl⟩
  | fan f =>
    rw [before] at rests
    intro ctx hctx
    obtain ⟨stops, stays⟩ := rests ctx hctx
    have judged : fanChannel ctx (fanRestarted ctx f) =
        if f.state = .stopping ∧ ctx.definition.proofInput = none then toStopped (fanRestarted ctx f)
        else fanRestarted ctx f :=
      (fanChannel_restarted ctx f).trans (judgeFan_restarted (fanCtx_unread hctx))
    rw [context, hctx]
    refine ⟨fun ⟨stopping, noInput, _⟩ => ?_, fun stay => ?_⟩
    · by_cases before : heard a
      · rw [stops ⟨stopping, noInput, before⟩]
        exact congrArg Drive.fan (fanChannel_stopped ctx f)
      · rw [stays fun stop => before stop.2.2]
        exact congrArg Drive.fan (judged.trans (if_pos ⟨stopping, noInput⟩))
    · rw [stays fun stop => stay ⟨stop.1, stop.2.1, trivial⟩]
      exact congrArg Drive.fan (judged.trans (if_neg fun stop => stay ⟨stop.1, stop.2, trivial⟩))

end

theorem Rested.handInput {s : State} {zs : Vector ZoneRecord 24} {heard : Fin 64 → Prop} (i : Fin 128) {w : Work}
    (h : Rested s zs heard w.st) : Rested s zs heard (handInput i w).st := by
  unfold Machine.handInput
  split
  · exact h
  · rename_i a naming
    obtain ⟨r, named, -⟩ := named_of_namingRecord naming
    rw [h.record] at named
    have some : namedInputs (s.record a) ≠ [] := List.ne_nil_of_mem named
    dsimp only
    rw [h.reading, h.record]
    split
    · rename_i d record
      rw [record] at named
      have proof : d.proofInput ≠ none := by
        intro none
        simp [namedInputs, none] at named
      exact h.set (fanEvent_st a _ w) (h.proofInput record proof) (fun _ _ => Iff.rfl)
    · exact h.set (damperEvent_st a _ w) (h.switch some _) (fun _ _ => Iff.rfl)
    · exact h.set (damperEvent_st a _ w) (h.switch some _) (fun _ _ => Iff.rfl)
    · exact h

theorem Rested.handInputs {s : State} {zs : Vector ZoneRecord 24} {heard : Fin 64 → Prop} (l : List (Fin 128)) {w : Work}
    (h : Rested s zs heard w.st) : Rested s zs heard (l.foldl (fun w i => Machine.handInput i w) w).st := by
  induction l generalizing w with
  | nil => exact h
  | cons i l ih => exact ih (h.handInput i)

/-! ## A channel that is not VALID -/

/-- The fans on a channel that stand in a list hear it. -/
theorem Rested.handFans {s : State} {zs : Vector ZoneRecord 24} {heard : Fin 64 → Prop} (c : Fin 16) (l : List (Fin 64))
    {w : Work} (h : Rested s zs heard w.st) :
    Rested s zs (fun a => heard a ∨ (a ∈ l ∧ provesOn c (s.record a) = true))
      (l.foldl (fun w a => if provesOn c (w.st.record a) then fanEvent a fanChannel w else w) w).st := by
  induction l generalizing heard w with
  | nil => exact h.congr (fun a => by simp)
  | cons b l ih =>
    rw [List.foldl_cons, h.record]
    split
    · rename_i proves
      have first : Rested s zs (fun a => heard a ∨ a = b) (fanEvent b fanChannel w).st :=
        h.set (fanEvent_st b _ w) ((h.pressure b).congr (by simp)) (fun a other => by simp [other])
      refine (ih first).congr (fun a => ?_)
      by_cases same : a = b
      · subst same; simp [proves]
      · simp [same]
    · rename_i proves
      refine (ih h).congr (fun a => ?_)
      by_cases same : a = b
      · subst same; simp [proves]
      · simp [same]

theorem Rested.handChannel {s : State} {zs : Vector ZoneRecord 24} {heard : Fin 64 → Prop} (c : Fin 16) {w : Work}
    (h : Rested s zs heard w.st) :
    Rested s zs (fun a => heard a ∨ provesOn c (s.record a) = true) (handChannel c w).st :=
  (h.handFans c (List.finRange 64)).congr (fun a => by simp)

/-- The channels of a list hand their notices where the restart has changed them (R145). -/
theorem Rested.notices {s : State} {zs : Vector ZoneRecord 24} {heard : Fin 64 → Prop} (l : List (Fin 16)) {w : Work}
    (h : Rested s zs heard w.st) :
    Rested s zs
      (fun a => heard a ∨ ∃ c ∈ l, channelChanged (s.channel c) ((scanEmptied s).channel c) = true ∧
        provesOn c (s.record a) = true)
      (l.foldl (noticeRestarted s) w).st := by
  induction l generalizing heard w with
  | nil => exact h.congr (fun a => by simp)
  | cons c l ih =>
    rw [List.foldl_cons]
    unfold noticeRestarted
    rw [h.channel]
    split
    · rename_i changed
      have first := h.handChannel c
      have silent : ((Machine.handChannel c w).st.channel c).status ≠ .valid := by
        rw [first.channel]
        exact scanEmptied_notValid s c
      rw [channelNotice_notValid silent]
      exact (ih first).congr (fun a => by simp [changed, or_assoc])
    · rename_i changed
      exact (ih h).congr (fun a => by simp [changed])

end Sys2Proof.Machine

end
/-! # The end of a warm restart, put together (O49) -/

section

namespace Sys2Proof.Machine

/-! ## The work of the end of a restart -/

theorem restartedDrive_rests (s : State) (a : Fin 64) :
    RestsAs (scanEmptied s) a False (s.drive a) (restartedDrive (scanEmptied s) a) := by
  have drive := scanEmptied_drive s a
  unfold restartedDrive RestsAs
  rw [drive]
  cases s.drive a with
  | none => rfl
  | damper d =>
    intro ctx hctx
    rw [hctx]
    exact ⟨d.position, fun _ => rfl, rfl⟩
  | fan f =>
    intro ctx hctx
    rw [hctx]
    exact ⟨fun stop => stop.2.2.elim, fun _ => rfl⟩

/-- The fans that hear their channel at the end of a warm restart (R145). -/
def HearsRestart (s : State) (a : Fin 64) : Prop :=
  ∃ c, channelChanged (s.channel c) ((scanEmptied s).channel c) = true ∧ provesOn c (s.record a) = true

/-- The state at the end of a warm restart, before the engine goes on. -/
theorem restartEndWork_rested (s : State) :
    ∃ zs, Rested s zs (HearsRestart s) (restartEndWork s).st ∧
      ∀ z, (restartEndWork s).st.zone z = reentered (restartedState s) z := by
  obtain ⟨⟨zs, frame⟩, zones⟩ := reenterZone_foldl (List.finRange 24) (List.nodup_finRange 24) (restartedState s)
  have start : Rested s zs (fun _ => False) ((List.finRange 24).foldl reenterZone (restartedState s)) := by
    refine ⟨⟨_, _, by rw [frame, restartedState_eq]⟩, fun a => ?_⟩
    have drive : ((List.finRange 24).foldl reenterZone (restartedState s)).drive a = restartedDrive (scanEmptied s) a := by
      rw [frame, ← restartedState_drive]
      simp only [State.drive]
    rw [drive]
    exact restartedDrive_rests s a
  have noticed : Rested s zs (HearsRestart s) (restartEndWork s).st := by
    unfold restartEndWork
    dsimp only
    have core : Rested s zs (fun _ => False)
        ((Work.start (restartedState s)).map fun t => (List.finRange 24).foldl reenterZone t).st := by
      rw [Work.map_st]
      exact start
    refine Rested.congr (Rested.notices _ (Rested.handInputs _ core)) (fun a => ?_)
    simp [HearsRestart]
  refine ⟨zs, noticed, fun z => ?_⟩
  obtain ⟨ds, ps, last⟩ := noticed.frame
  have zone : (restartEndWork s).st.zone z = ((List.finRange 24).foldl reenterZone (restartedState s)).zone z := by
    rw [last, frame]
    simp only [State.zone]
  rw [zone, zones z, if_pos (List.mem_finRange z)]

/-! ## The drives -/

theorem Rested.damper {s : State} {zs : Vector ZoneRecord 24} {heard : Fin 64 → Prop} {u : State} (rested : Rested s zs heard u)
    {a : Fin 64} {d : DamperDrive} {ctx : DamperCtx} (before : s.drive a = .damper d)
    (hctx : s.damperCtx a = some ctx) : ∃ d', u.drive a = .damper d' ∧ DamperRestarted ctx d d' := by
  obtain ⟨ctx', hctx', kind, -, limit, now⟩ := damperCtx_scanEmptied hctx
  have rests := rested.drives a
  rw [before] at rests
  obtain ⟨p, position, after⟩ := rests ctx' hctx'
  exact ⟨_, after, damperRestarted_rests ctx ctx' d p kind limit now position⟩

/-- A channel's notice at the end of a warm restart, as its fan sees it (R143, R145). -/
theorem hearsRestart_iff {s : State} {a : Fin 64} {ctx : FanCtx} (hctx : s.fanCtx a = some ctx) :
    HearsRestart s a ↔ ∃ p, ctx.definition.pressure = some p ∧
      ((s.channel p.channel).status ≠ ((scanEmptied s).channel p.channel).status ∨ (s.channel p.channel).value ≠ none) := by
  have value : ∀ c, ((scanEmptied s).channel c).value = none := fun c => by rw [scanEmptied_channel]; rfl
  unfold HearsRestart
  rw [fanCtx_record hctx]
  constructor
  · rintro ⟨c, changed, proves⟩
    cases pressure : ctx.definition.pressure with
    | none => simp [provesOn, pressure] at proves
    | some p =>
      have same : p.channel = c := by simpa [provesOn, pressure] using proves
      subst same
      exact ⟨p, rfl, by simpa [channelChanged, value] using changed⟩
  · rintro ⟨p, pressure, changed⟩
    exact ⟨p.channel, by simpa [channelChanged, value] using changed, by simp [provesOn, pressure]⟩

theorem proofUnavailable_scanEmptied {s : State} {a : Fin 64} {ctx : FanCtx} (hctx : (scanEmptied s).fanCtx a = some ctx) :
    proofUnavailable (ctx.channel.map (·.1)) = ctx.definition.pressure.isSome := by
  rw [fanCtx_channel hctx]
  cases ctx.definition.pressure with
  | none => rfl
  | some p => simp [proofUnavailable, scanEmptied_notValid]

theorem fanRestarted_rests {ctx ctx' : FanCtx} {heard : Prop} {f f' : FanDrive}
    (definition : ctx'.definition = ctx.definition) (now : ctx'.now = ctx.now)
    (unavailable : proofUnavailable (ctx'.channel.map (·.1)) = ctx'.definition.pressure.isSome)
    (stops : StopsUnread ctx' heard f → f' = toStopped (fanRestarted ctx' f))
    (stays : ¬ StopsUnread ctx' heard f → f' = fanRestarted ctx' f) : FanRestarted ctx heard f f' := by
  rw [StopsUnread, definition] at stops stays
  have ramp : rampTime = 250 := rfl
  by_cases stop : f.state = .stopping ∧ ctx.definition.proofInput = none ∧ heard
  · obtain rfl := stops stop
    obtain ⟨stopping, noInput, hears⟩ := stop
    refine ⟨rfl, rfl, rfl, rfl, rfl, rfl, rfl, rfl, rfl, ?_, rfl, ?_, ?_, ?_, fun _ _ _ => ⟨rfl, rfl⟩, fun other => ?_⟩
    · rw [← definition]; exact unavailable
    · simp [toStopped, fanRestarted, now]
    · simp [toStopped, fanRestarted, now, definition]
    · simp [toStopped, fanRestarted, now, ramp]
    · exact (other.elim (fun h => h stopping) (fun other => other.elim (fun h => h noInput) (fun h => h hears))).elim
  · obtain rfl := stays stop
    refine ⟨rfl, rfl, rfl, rfl, rfl, rfl, rfl, rfl, rfl, ?_, rfl, ?_, ?_, ?_, fun x y z => absurd ⟨x, y, z⟩ stop,
      fun _ => ⟨rfl, rfl, ?_⟩⟩
    · rw [← definition]; exact unavailable
    · simp [fanRestarted, now]
    · simp [fanRestarted, now, definition]
    · simp [fanRestarted, now, ramp]
    · simp [fanRestarted, now, definition]

theorem Rested.fan {s : State} {zs : Vector ZoneRecord 24} {heard : Fin 64 → Prop} {u : State} (rested : Rested s zs heard u)
    {a : Fin 64} {f : FanDrive} {ctx : FanCtx} (before : s.drive a = .fan f) (hctx : s.fanCtx a = some ctx) :
    ∃ f', u.drive a = .fan f' ∧ FanRestarted ctx (heard a) f f' := by
  obtain ⟨ctx', hctx', definition, now⟩ := fanCtx_scanEmptied hctx
  have rests := rested.drives a
  rw [before] at rests
  obtain ⟨stops, stays⟩ := rests ctx' hctx'
  have unavailable := proofUnavailable_scanEmptied hctx'
  by_cases stop : StopsUnread ctx' (heard a) f
  · exact ⟨_, stops stop, fanRestarted_rests definition now unavailable (fun _ => rfl) (fun no => absurd stop no)⟩
  · exact ⟨_, stays stop, fanRestarted_rests definition now unavailable (fun yes => absurd yes stop) (fun _ => rfl)⟩

/-! ## The reversal histories -/

/-- No damper has a reversal in its history. -/
def NoHistory (s : State) : Prop := ∀ a d, s.drive a = .damper d → d.history = []

theorem NoHistory.setDrive {s : State} {a : Fin 64} {x : Drive} (h : NoHistory s)
    (new : ∀ d, x = .damper d → d.history = []) : NoHistory (s.setDrive a x) := by
  intro b d drive
  by_cases same : b = a
  · subst same
    rw [State.setDrive_drive_same] at drive
    exact new d drive
  · rw [State.setDrive_drive_other _ _ same] at drive
    exact h b d drive

/-- The engine asks of a drive a target alone, which enters no reversal (R88, R90). -/
theorem noHistory_engine : EngineRule NoHistory where
  light s t h l := by
    intro a d drive
    rw [State.drive, l.drives] at drive
    exact h a d drive
  targetDamper s a d ctx side h hd _ := by
    refine h.setDrive (fun d' new => ?_)
    obtain rfl := Drive.damper.inj new
    obtain ⟨-, -, history, -⟩ := damperTarget_targeted ctx side d
    rw [history]
    exact h a d hd
  targetFan s a f ctx c h _ _ := h.setDrive (fun d' new => by cases new)

theorem damperCtx_of_sound {s : State} {a : Fin 64} {d : DamperDrive} (h : DriveSound (s.record a) (.damper d)) :
    ∃ ctx, s.damperCtx a = some ctx := by
  unfold State.damperCtx
  cases record : s.record a with
  | reversing r => exact ⟨_, rfl⟩
  | spring r => exact ⟨_, rfl⟩
  | fan r => rw [record] at h; exact h.elim
  | unused => rw [record] at h; exact h.elim

theorem fanCtx_of_sound {s : State} {a : Fin 64} {f : FanDrive} (h : DriveSound (s.record a) (.fan f)) :
    ∃ ctx, s.fanCtx a = some ctx := by
  unfold State.fanCtx
  cases record : s.record a with
  | fan r => exact ⟨_, rfl⟩
  | reversing r => rw [record] at h; exact h.elim
  | spring r => rw [record] at h; exact h.elim
  | unused => rw [record] at h; exact h.elim

theorem Rested.noHistory {s : State} {zs : Vector ZoneRecord 24} {heard : Fin 64 → Prop} {u : State}
    (rested : Rested s zs heard u) (sound : DrivesSound s) : NoHistory u := by
  intro a d drive
  have kind := sound.1 a
  cases before : s.drive a with
  | none =>
    have rests := rested.drives a
    rw [before] at rests
    have after : u.drive a = .none := rests
    rw [after] at drive
    cases drive
  | damper d₀ =>
    rw [before] at kind
    obtain ⟨ctx, hctx⟩ := damperCtx_of_sound kind
    obtain ⟨d', after, restarted⟩ := rested.damper before hctx
    rw [after] at drive
    obtain rfl := Drive.damper.inj drive
    obtain ⟨-, -, -, -, -, -, -, -, -, -, -, -, -, -, -, -, -, history, -⟩ := restarted
    exact history
  | fan f =>
    rw [before] at kind
    obtain ⟨ctx, hctx⟩ := fanCtx_of_sound kind
    obtain ⟨f', after, -⟩ := rested.fan before hctx
    rw [after] at drive
    cases drive

/-! ## The zones, the ports and the channels -/

/-- A zone's record at the end of a warm restart, before the engine goes on (R83). -/
theorem reentered_zone (s : State) (z : Fin 24) :
    ∃ st, reentered (restartedState s) z = { s.zone z with stage := st } ∧
      ((s.zone z).phase ≠ .running → st = (s.zone z).stage) ∧
      ((s.zone z).phase = .running → (st = none ↔ (s.zone z).stage = none) ∧
        ∀ cs x, (s.zone z).stage = some cs → st = some x → StageReentered s (s.zone z) cs x) := by
  have zone : (restartedState s).zone z = s.zone z := by simp only [restartedState, State.zone]
  unfold reentered
  rw [zone]
  by_cases running : (s.zone z).phase = .running
  · rw [if_pos running]
    refine ⟨_, rfl, fun no => absurd running no, fun _ => ⟨Option.map_eq_none_iff, fun cs x stage new => ?_⟩⟩
    rw [stage] at new
    obtain rfl := Option.some.inj new
    exact reenterStage_reentered (s.zone z) cs rfl rfl
  · rw [if_neg running]
    exact ⟨_, rfl, fun _ => rfl, fun yes => absurd yes running⟩

theorem restartedState_port (s : State) (l : Line) : (restartedState s).port l = (s.port l).atRestartEnd :=
  mapPorts_port s Port.atRestartEnd l

theorem restartedState_channel (s : State) (c : Fin 16) : (restartedState s).channel c = (scanEmptied s).channel c := by
  simp only [restartedState, scanEmptied, State.channel]

/-- Settles O49: the work before the engine is followed drive by drive, and the engine keeps the rest. -/
theorem warmRestartEndsKept : Obligations.WarmRestartEndsKept := by
  intro s restarting sound
  obtain ⟨zs, rested, zones⟩ := restartEndWork_rested s
  have exec_eq : exec .warmRestartEnd s = .next (settled (restartEndWork s)) :=
    congrArg Host.Outcome.next ((if_pos restarting).trans (endWarmRestart_eq s))
  have kept : Keeps (restartedState s) (settled (restartEndWork s)) := endWarmRestart_eq s ▸ keeps_endWarmRestart s
  have history : NoHistory (settled (restartEndWork s)) := noHistory_engine.engineLoop _ (rested.noHistory sound)
  refine ⟨restartEndWork s, exec_eq, ?_⟩
  generalize settled (restartEndWork s) = t at kept history
  generalize (restartEndWork s).st = u at rested zones
  have channel : ∀ c, t.channel c = (scanEmptied s).channel c := by
    intro c
    rw [← restartedState_channel]
    simp only [State.channel, kept.channels]
  have port : ∀ l, (t.port l).raise = (s.port l).atRestartEnd.raise := fun l => by rw [kept.ports, restartedState_port]
  refine ⟨kept.power, kept.start, kept.pending, kept.now, fun i => ?_, kept.key, fun c => ?_, kept.supply, kept.scan,
    kept.filters, fun l => ?_, history,
    fun z => ⟨kept.mode z, kept.sourceA z, kept.sourceB z, kept.suspended z, kept.lastTest z, kept.lastFire z⟩,
    kept.plant, kept.sequences, kept.store, kept.activation, kept.overrides, kept.standDown, kept.standDownOption,
    kept.applied, kept.configFault, fun a => ?_, fun a d ctx before hctx => rested.damper before hctx,
    fun a f ctx before hctx => ?_, fun z => ?_⟩
  · rw [kept.inputs]
    exact Vector.getElem_replicate _
  · rw [channel, scanEmptied_channel]
    exact ⟨rfl, rfl, rfl, rfl⟩
  · refine ⟨congrArg Port.line (port l), congrArg Port.reception (port l), congrArg Port.answer (port l),
      congrArg Port.supervisionTimer (port l), kept.flags l ?_⟩
    rw [restartedState_port]
    rfl
  · obtain ⟨ds, ps, frame⟩ := rested.frame
    rw [frame]
    rfl
  · obtain ⟨f', after, restarted⟩ := rested.fan before hctx
    refine ⟨f', after, ?_⟩
    simp only [channel]
    rwa [propext (hearsRestart_iff hctx)] at restarted
  · rw [zones]
    exact reentered_zone s z

end Sys2Proof.Machine

end
/-! # One claim list: rank order and membership (R18, R19, R22 to R27) -/

section

namespace Sys2Proof.Machine

/-! ## A sound list -/

/-- A claim list by itself: at most 6 claims, no source twice, in rank order, each zone's claim of a zone active in its mode (R17,
R18, R19). -/
structure ListSound (s : State) (cs : List Claim) : Prop where
  length : cs.length ≤ maxClaims
  sources : (cs.map (·.src)).Nodup
  rank : cs.Pairwise (fun c x => outranks s.activation c x = true)
  active : ∀ c ∈ cs, ClaimActive s c

theorem listSound_nil (s : State) : ListSound s [] :=
  ⟨Nat.zero_le _, List.nodup_nil, List.Pairwise.nil, fun _ h => absurd h (List.not_mem_nil)⟩

theorem ListSound.sublist {s : State} {cs cs' : List Claim} (h : ListSound s cs) (sub : cs'.Sublist cs) : ListSound s cs' where
  length := sub.length_le.trans h.length
  sources := h.sources.sublist (sub.map _)
  rank := h.rank.sublist sub
  active c mem := h.active c (sub.subset mem)

theorem ClaimActive.congr {s t : State} {c : Claim} (h : ClaimActive s c) (activation : t.activation = s.activation)
    (mode : ∀ z, (t.zone z).mode = (s.zone z).mode) : ClaimActive t c := by
  intro z
  rw [activation, mode]
  exact h z

theorem ListSound.congr {s t : State} {cs : List Claim} (h : ListSound s cs) (activation : t.activation = s.activation)
    (mode : ∀ z, (t.zone z).mode = (s.zone z).mode) : ListSound t cs where
  length := h.length
  sources := h.sources
  rank := activation ▸ h.rank
  active c mem := (h.active c mem).congr activation mode

/-- Two claims of one list with the same source are the same claim. -/
theorem ListSound.unique {s : State} {cs : List Claim} (h : ListSound s cs) {c x : Claim} (hc : c ∈ cs) (hx : x ∈ cs)
    (same : c.src = x.src) : c = x := List.inj_on_of_nodup_map h.sources hc hx same

theorem claimOf_mem {cs : List Claim} {src : Source} {c : Claim} (h : claimOf cs src = some c) : c ∈ cs ∧ c.src = src :=
  ⟨List.mem_of_find?_eq_some h, by simpa using List.find?_some h⟩

theorem claimOf_isSome_iff (cs : List Claim) (src : Source) : (claimOf cs src).isSome = true ↔ ∃ c ∈ cs, c.src = src := by
  simp [claimOf]

/-! ## Inserting -/

theorem insertClaim_perm (act : List (Fin 24)) (c : Claim) (cs : List Claim) : (insertClaim act c cs).Perm (c :: cs) := by
  induction cs with
  | nil => exact List.Perm.refl _
  | cons x xs ih =>
    unfold insertClaim
    split
    · exact List.Perm.refl _
    · exact (List.Perm.cons x ih).trans (List.Perm.swap c x xs)

/-- Two claims of different sources, each of a zone that stands in the Activation List, rank one above the other (R19). -/
theorem outranks_total {s : State} {c x : Claim} (hc : ClaimActive s c) (hx : ClaimActive s x) (other : c.src ≠ x.src) :
    outranks s.activation c x = true ∨ outranks s.activation x c = true := by
  have age : ∀ {z y : Fin 24}, z ∈ s.activation → z ≠ y →
      s.activation.idxOf z < s.activation.idxOf y ∨ s.activation.idxOf y < s.activation.idxOf z := fun mem differs =>
    lt_or_gt_of_ne fun same => differs ((List.idxOf_inj mem).1 same)
  obtain ⟨csrc, ccmd⟩ := c
  obtain ⟨xsrc, xcmd⟩ := x
  cases csrc with
  | normal => cases xsrc <;> simp_all [outranks, Source.level]
  | override => cases xsrc <;> simp_all [outranks, Source.level]
  | test z =>
    have mem := ((hc z).1 rfl).1
    cases xsrc with
    | test y =>
      exact (age mem (fun e => other (congrArg Source.test e))).imp
        (fun older => by simp [outranks, Source.level, Source.age, older])
        (fun older => by simp [outranks, Source.level, Source.age, older])
    | _ => simp [outranks, Source.level]
  | fire z =>
    have mem := ((hc z).2 rfl).1
    cases xsrc with
    | fire y =>
      exact (age mem (fun e => other (congrArg Source.fire e))).imp
        (fun older => by simp [outranks, Source.level, Source.age, older])
        (fun older => by simp [outranks, Source.level, Source.age, older])
    | _ => simp [outranks, Source.level]

theorem insertClaim_pairwise {act : List (Fin 24)} {c : Claim} {cs : List Claim}
    (rank : cs.Pairwise (fun c x => outranks act c x = true))
    (total : ∀ x ∈ cs, outranks act c x = true ∨ outranks act x c = true) :
    (insertClaim act c cs).Pairwise (fun c x => outranks act c x = true) := by
  induction cs with
  | nil => exact List.pairwise_singleton _ _
  | cons x xs ih =>
    obtain ⟨below, rest⟩ := List.pairwise_cons.1 rank
    unfold insertClaim
    split
    · rename_i over_x
      refine List.pairwise_cons.2 ⟨fun y mem => ?_, rank⟩
      rcases List.mem_cons.1 mem with rfl | mem
      · exact over_x
      · exact outranks_trans over_x (below y mem)
    · rename_i under_x
      have x_above : outranks act x c = true := (total x (List.mem_cons_self ..)).resolve_left under_x
      refine List.pairwise_cons.2 ⟨fun y mem => ?_, ih rest (fun y mem => total y (List.mem_cons_of_mem _ mem))⟩
      rcases mem_insertClaim.1 mem with rfl | mem
      · exact x_above
      · exact below y mem

theorem ListSound.insert {s : State} {cs : List Claim} (h : ListSound s cs) {c : Claim} (room : cs.length < maxClaims)
    (new : ∀ x ∈ cs, x.src ≠ c.src) (active : ClaimActive s c) : ListSound s (insertClaim s.activation c cs) where
  length := by rw [insertClaim_length]; exact room
  sources := by
    rw [((insertClaim_perm s.activation c cs).map (·.src)).nodup_iff, List.map_cons, List.nodup_cons]
    refine ⟨fun mem => ?_, h.sources⟩
    obtain ⟨x, x_mem, same⟩ := List.mem_map.1 mem
    exact new x x_mem same
  rank := insertClaim_pairwise h.rank fun x mem => outranks_total active (h.active x mem) (Ne.symm (new x mem))
  active x mem := by
    rcases mem_insertClaim.1 mem with rfl | mem
    · exact active
    · exact h.active x mem

/-! ## Replacing -/

theorem replaceClaim_sources (cs : List Claim) (src : Source) (cmd : Command) :
    (replaceClaim cs src cmd).map (·.src) = cs.map (·.src) := by
  rw [replaceClaim, List.map_map]
  refine List.map_congr_left fun c _ => ?_
  simp only [Function.comp]
  split <;> rfl

theorem mem_replaceClaim {cs : List Claim} {src : Source} {cmd : Command} {c : Claim} (h : c ∈ replaceClaim cs src cmd) :
    c = ⟨src, cmd⟩ ∨ (c ∈ cs ∧ c.src ≠ src) := by
  obtain ⟨x, mem, rfl⟩ := List.mem_map.1 h
  split
  · rename_i same
    obtain ⟨xsrc, xcmd⟩ := x
    exact .inl (by simp_all)
  · rename_i other
    exact .inr ⟨mem, other⟩

theorem ListSound.replace {s : State} {cs : List Claim} (h : ListSound s cs) (src : Source) (cmd : Command) :
    ListSound s (replaceClaim cs src cmd) where
  length := by rw [replaceClaim_length]; exact h.length
  sources := by rw [replaceClaim_sources]; exact h.sources
  rank := by
    refine List.pairwise_map.2 (h.rank.imp fun {c x} above => ?_)
    have sources : ∀ y : Claim, (if y.src = src then { y with cmd := cmd } else y).src = y.src := fun y => by split <;> rfl
    simpa only [outranks, sources] using above
  active c mem := by
    obtain ⟨x, x_mem, rfl⟩ := List.mem_map.1 mem
    have active := h.active x x_mem
    split
    · exact active
    · exact active

/-! ## Placing -/

/-- What a placing leaves in a list: a sound list of the claim itself and of old claims of other sources, each OVERRIDE claim among
them (R22, R23, R24). -/
structure PlacedIn (s : State) (cs : List Claim) (src : Source) (cmd : Command) (after : List Claim) : Prop where
  sound : ListSound s after
  mem : ∀ c ∈ after, c = ⟨src, cmd⟩ ∨ (c ∈ cs ∧ c.src ≠ src)
  override : src ≠ .override → ∀ c ∈ cs, c.src = .override → c ∈ after

theorem placedIn_insert {s : State} {cs cs' : List Claim} (h : ListSound s cs) (sub : cs'.Sublist cs) {src : Source}
    {cmd : Command} (none : claimOf cs src = none) (room : cs'.length < maxClaims) (active : ClaimActive s ⟨src, cmd⟩)
    (kept : src ≠ .override → ∀ c ∈ cs, c.src = .override → c ∈ cs') :
    PlacedIn s cs src cmd (insertClaim s.activation ⟨src, cmd⟩ cs') where
  sound := (h.sublist sub).insert room (fun x mem => (claimOf_none_iff cs src).1 none x (sub.subset mem)) active
  mem c mem := (mem_insertClaim.1 mem).imp id fun mem => ⟨sub.subset mem, (claimOf_none_iff cs src).1 none c (sub.subset mem)⟩
  override other c mem isOverride := mem_insertClaim.2 (.inr (kept other c mem isOverride))

theorem mem_dropLast_or {α : Type} {l : List α} {x low : α} (h : x ∈ l) (last : l.getLast? = some low) :
    x ∈ l.dropLast ∨ x = low := by
  have split := List.dropLast_append_getLast? low last
  rw [← split] at h
  simpa using h

theorem placeClaim_placedIn {s : State} {cs : List Claim} (h : ListSound s cs) {src : Source} {cmd : Command}
    (active : ClaimActive s ⟨src, cmd⟩) : PlacedIn s cs src cmd (placeClaim s.activation cs src cmd).1 := by
  have room : 0 < maxClaims := by decide
  unfold placeClaim
  split
  · rename_i c found
    obtain ⟨mem, isSrc⟩ := claimOf_mem found
    split
    · rename_i same
      refine ⟨h, fun x x_mem => ?_, fun _ _ mem _ => mem⟩
      by_cases ofSrc : x.src = src
      · left
        rw [h.unique x_mem mem (ofSrc.trans isSrc.symm), ← same, ← isSrc]
      · exact .inr ⟨x_mem, ofSrc⟩
    · refine ⟨h.replace src cmd, fun x mem => mem_replaceClaim mem, fun other x x_mem isOverride => ?_⟩
      refine List.mem_map.2 ⟨x, x_mem, if_neg ?_⟩
      rw [isOverride]
      exact Ne.symm other
  · rename_i none
    split
    · rename_i few
      exact placedIn_insert h (List.Sublist.refl _) none few active (fun _ _ mem _ => mem)
    · split
      · rename_i low last
        split
        · rename_i above
          have some : cs ≠ [] := by rintro rfl; simp at last
          have shorter : cs.dropLast.length < maxClaims := by
            have := List.length_pos_of_ne_nil some
            have := h.length
            rw [List.length_dropLast]
            omega
          refine placedIn_insert h (List.dropLast_sublist _) none shorter active fun other c mem isOverride => ?_
          refine (mem_dropLast_or mem last).resolve_right ?_
          rintro rfl
          rw [not_outranks_override isOverride other] at above
          cases above
        · refine ⟨h, fun x mem => .inr ⟨mem, (claimOf_none_iff cs src).1 none x mem⟩, fun _ _ mem _ => mem⟩
      · rename_i empty
        rw [List.getLast?_eq_none_iff] at empty
        subst empty
        exact placedIn_insert h (List.Sublist.refl _) none room active (fun _ _ mem _ => mem)

/-- A placing by another source leaves what OVERRIDE claims a list holds. -/
theorem PlacedIn.overridden {s : State} {cs after : List Claim} {src : Source} {cmd : Command} (h : PlacedIn s cs src cmd after)
    (other : src ≠ .override) : (claimOf after .override).isSome = (claimOf cs .override).isSome := by
  rw [Bool.eq_iff_iff, claimOf_isSome_iff, claimOf_isSome_iff]
  constructor
  · rintro ⟨c, mem, isOverride⟩
    rcases h.mem c mem with rfl | ⟨old, -⟩
    · exact absurd isOverride other
    · exact ⟨c, old, isOverride⟩
  · rintro ⟨c, mem, isOverride⟩
    exact ⟨c, h.override other c mem isOverride, isOverride⟩

/-- An OVERRIDE claim placed stands in the list, and is new exactly where the list held none (R24, R151). -/
theorem placeClaim_override (act : List (Fin 24)) (cs : List Claim) (cmd : Command) :
    let r := placeClaim act cs .override cmd
    (claimOf r.1 .override).isSome = true ∧ r.2.inserted = !(claimOf cs .override).isSome := by
  intro r
  have standing : ∀ l, (claimOf (insertClaim act ⟨.override, cmd⟩ l) .override).isSome = true := fun l =>
    (claimOf_isSome_iff _ _).2 ⟨⟨.override, cmd⟩, mem_insertClaim.2 (.inl rfl), rfl⟩
  unfold r placeClaim
  cases found : claimOf cs .override with
  | some c =>
    obtain ⟨mem, isOverride⟩ := claimOf_mem found
    dsimp only
    split
    · exact ⟨by rw [found]; rfl, rfl⟩
    · refine ⟨(claimOf_isSome_iff _ _).2 ⟨{ c with cmd := cmd }, List.mem_map.2 ⟨c, mem, if_pos isOverride⟩, isOverride⟩, rfl⟩
  | none =>
    dsimp only
    split
    · exact ⟨standing _, rfl⟩
    · cases last : cs.getLast? with
      | none => exact ⟨standing _, rfl⟩
      | some low =>
        dsimp only
        have above : outranks act ⟨.override, cmd⟩ low = true :=
          override_outranks ((claimOf_none_iff cs _).1 found low (List.mem_of_getLast? last))
        rw [if_pos above]
        exact ⟨standing _, rfl⟩

/-! ## Withdrawing -/

theorem removeClaim_sublist (cs : List Claim) (src : Source) : (removeClaim cs src).Sublist cs := List.filter_sublist

theorem mem_removeClaim {cs : List Claim} {src : Source} {c : Claim} : c ∈ removeClaim cs src ↔ c ∈ cs ∧ c.src ≠ src := by
  simp [removeClaim]

end Sys2Proof.Machine

end
/-! # The claim lists and the maps through one operation on a list (R21 to R30, R51, R52) -/

section

namespace Sys2Proof.Machine

/-! ## What nothing but an operation on a list touches -/

/-- Two states that agree in claims, targets, maps, zone modes, the Activation List, the override count and the plant. -/
structure SameClaims (s t : State) : Prop where
  activation : t.activation = s.activation
  overrides : t.overrides = s.overrides
  plant : t.plant = s.plant
  configFault : t.configFault = s.configFault
  claims : ∀ a, (t.claimList a).claims = (s.claimList a).claims
  target : ∀ a, (t.claimList a).target = (s.claimList a).target
  mode : ∀ z, (t.zone z).mode = (s.zone z).mode
  map : ∀ z, (t.zone z).map = (s.zone z).map
  stage : ∀ z, (t.zone z).stage ≠ none → (s.zone z).stage ≠ none ∨ (s.zone z).mode ≠ .none

theorem SameClaims.refl (s : State) : SameClaims s s :=
  ⟨rfl, rfl, rfl, rfl, fun _ => rfl, fun _ => rfl, fun _ => rfl, fun _ => rfl, fun _ => .inl⟩

theorem SameClaims.trans {s t u : State} (x : SameClaims s t) (y : SameClaims t u) : SameClaims s u where
  activation := y.activation.trans x.activation
  overrides := y.overrides.trans x.overrides
  plant := y.plant.trans x.plant
  configFault := y.configFault.trans x.configFault
  claims a := (y.claims a).trans (x.claims a)
  target a := (y.target a).trans (x.target a)
  mode z := (y.mode z).trans (x.mode z)
  map z := (y.map z).trans (x.map z)
  stage z h := (y.stage z h).elim (x.stage z) fun active => .inr (x.mode z ▸ active)

theorem SameClaims.record {s t : State} (h : SameClaims s t) (a : Fin 64) : t.record a = s.record a := by
  simp only [State.record, h.plant]

/-- Drives, ports and the samples are no part of it. -/
theorem sameClaims_framed {s t : State} (h : ∃ ds ps, t = { s with drives := ds, ports := ps }) : SameClaims s t := by
  obtain ⟨ds, ps, rfl⟩ := h
  exact ⟨rfl, rfl, rfl, rfl, fun _ => rfl, fun _ => rfl, fun _ => rfl, fun _ => rfl, fun _ => .inl⟩

theorem sameClaims_handTarget (a : Fin 64) (c : Command) (w : Work) : SameClaims w.st (handTarget a c w).st := by
  obtain ⟨ps, frame⟩ := handTarget_st a c w
  exact sameClaims_framed ⟨_, _, frame⟩

/-! ## The zones and the lists -/

/-- The Activation List holds, once, each zone of a set that has a run and no other, and a zone without one has no stage (R42). -/
structure ZonesKept (Z : Fin 24 → Prop) (s : State) : Prop where
  once : s.activation.Nodup
  active : ∀ z, Z z → (z ∈ s.activation ↔ (s.zone z).mode ≠ .none)
  gone : ∀ z, ¬ Z z → z ∉ s.activation
  staged : ∀ z, Z z → (s.zone z).stage ≠ none → (s.zone z).mode ≠ .none

/-- The target of a list is the one R28 derives. -/
def Targeted (s : State) (a : Fin 64) : Prop :=
  (s.claimList a).target = deriveTarget (restCommand (s.record a)) (s.claimList a).claims

/-- The lists of some actuators are sound, all targets derived, and the maps of some zones agree with every list. -/
structure Kept (A : Fin 64 → Prop) (Z : Fin 24 → Prop) (s : State) : Prop where
  zones : ZonesKept Z s
  lists : ∀ a, A a → ListSound s (s.claimList a).claims
  targets : ∀ a, Targeted s a
  maps : ∀ z a, Z z → EntryAgrees s z a

/-- A list fits a zone's map: no entry, no claim of the zone; an entry, no claim of the zone with another command (R51). -/
def Fits (s : State) (z : Fin 24) (a : Fin 64) (cs : List Claim) : Prop :=
  match (s.zone z).map[a] with
  | none => ∀ c ∈ cs, c.src ≠ .fire z ∧ c.src ≠ .test z
  | some e => ∀ c ∈ cs, c.src = zoneSource (s.zone z) z → c.cmd = e.cmd

/-- All is kept but for one actuator, which is about to hold the claims given and to be judged anew in the maps. -/
structure HeldBut (A : Fin 64 → Prop) (Z : Fin 24 → Prop) (a : Fin 64) (cs : List Claim) (s : State) : Prop where
  zones : ZonesKept Z s
  others : ∀ b, A b → b ≠ a → ListSound s (s.claimList b).claims
  targets : ∀ b, b ≠ a → Targeted s b
  maps : ∀ z b, Z z → b ≠ a → EntryAgrees s z b
  list : ListSound s cs
  fits : ∀ z, Z z → Fits s z a cs
  idle : ∀ z e, Z z → z ∉ s.activation → (s.zone z).map[a] = some e → e.status = .shed

/-- The actuator holds those claims, its target derived. -/
structure HeldAt (A : Fin 64 → Prop) (Z : Fin 24 → Prop) (a : Fin 64) (s : State) : Prop
    extends HeldBut A Z a (s.claimList a).claims s where
  target : Targeted s a

/-! ## Transfer -/

theorem EntryAgrees.congr {s t : State} {z : Fin 24} {a : Fin 64} (h : EntryAgrees s z a)
    (mode : (t.zone z).mode = (s.zone z).mode) (map : (t.zone z).map[a] = (s.zone z).map[a])
    (claims : (t.claimList a).claims = (s.claimList a).claims) : EntryAgrees t z a := by
  unfold EntryAgrees at h ⊢
  have source : zoneSource (t.zone z) z = zoneSource (s.zone z) z := by simp only [zoneSource, mode]
  rw [map, source, claims]
  exact h

theorem Fits.congr {s t : State} {z : Fin 24} {a : Fin 64} {cs : List Claim} (h : Fits s z a cs)
    (mode : (t.zone z).mode = (s.zone z).mode) (map : (t.zone z).map[a] = (s.zone z).map[a]) : Fits t z a cs := by
  unfold Fits at h ⊢
  have source : zoneSource (t.zone z) z = zoneSource (s.zone z) z := by simp only [zoneSource, mode]
  rw [map, source]
  exact h

section

variable {A : Fin 64 → Prop} {Z : Fin 24 → Prop} {s t : State} (alike : SameClaims s t)
include alike

theorem ZonesKept.same (h : ZonesKept Z s) : ZonesKept Z t where
  once := alike.activation ▸ h.once
  active z hz := by rw [alike.activation, alike.mode]; exact h.active z hz
  gone z hz := by rw [alike.activation]; exact h.gone z hz
  staged z hz staged := by
    rw [alike.mode]
    exact (alike.stage z staged).elim (h.staged z hz) id

theorem Targeted.same {a : Fin 64} (h : Targeted s a) : Targeted t a := by
  unfold Targeted at h ⊢
  rw [alike.target, alike.record, alike.claims]
  exact h

theorem Kept.same (h : Kept A Z s) : Kept A Z t where
  zones := h.zones.same alike
  lists a ha := by rw [alike.claims]; exact (h.lists a ha).congr alike.activation alike.mode
  targets a := (h.targets a).same alike
  maps z a hz := (h.maps z a hz).congr (alike.mode z) (by rw [alike.map]) (alike.claims a)

theorem HeldBut.same {a : Fin 64} {cs : List Claim} (h : HeldBut A Z a cs s) : HeldBut A Z a cs t where
  zones := h.zones.same alike
  others b hb other := by rw [alike.claims]; exact (h.others b hb other).congr alike.activation alike.mode
  targets b other := (h.targets b other).same alike
  maps z b hz other := (h.maps z b hz other).congr (alike.mode z) (by rw [alike.map]) (alike.claims b)
  list := h.list.congr alike.activation alike.mode
  fits z hz := (h.fits z hz).congr (alike.mode z) (by rw [alike.map])
  idle z e hz gone entry := by
    rw [alike.map] at entry
    rw [alike.activation] at gone
    exact h.idle z e hz gone entry

theorem HeldAt.same {a : Fin 64} (h : HeldAt A Z a s) : HeldAt A Z a t where
  toHeldBut := by rw [alike.claims]; exact h.toHeldBut.same alike
  target := h.target.same alike

end

/-! ## From kept to held, and back -/

theorem zoneSource_of_mode {r : ZoneRecord} {z : Fin 24} (test : r.mode = .test) : zoneSource r z = .test z := by
  simp [zoneSource, test]

theorem zoneSource_of_other {r : ZoneRecord} {z : Fin 24} (other : r.mode ≠ .test) : zoneSource r z = .fire z := by
  unfold zoneSource
  split
  · rename_i test
    exact absurd test other
  · rfl

theorem zoneSource_isZone (r : ZoneRecord) (z : Fin 24) : zoneSource r z = .fire z ∨ zoneSource r z = .test z := by
  unfold zoneSource
  split
  · exact .inr rfl
  · exact .inl rfl

/-- The source of a zone's claims in a sound list is the one of its mode (R17). -/
theorem ClaimActive.source {s : State} {c : Claim} {z : Fin 24} (h : ClaimActive s c) (ofZone : c.src = .fire z ∨ c.src = .test z) :
    z ∈ s.activation ∧ c.src = zoneSource (s.zone z) z := by
  rcases ofZone with fire | test
  · obtain ⟨mem, mode⟩ := (h z).2 fire
    exact ⟨mem, by rw [fire, zoneSource_of_other (by simp [mode])]⟩
  · obtain ⟨mem, mode⟩ := (h z).1 test
    exact ⟨mem, by rw [test, zoneSource_of_mode mode]⟩

/-- A list in agreement with a zone's map fits it. -/
theorem EntryAgrees.fits {s : State} {z : Fin 24} {a : Fin 64} (h : EntryAgrees s z a)
    (sources : ((s.claimList a).claims.map (·.src)).Nodup) : Fits s z a (s.claimList a).claims := by
  unfold EntryAgrees at h
  unfold Fits
  split
  · rename_i entry
    rwa [entry] at h
  · rename_i e entry
    rw [entry] at h
    intro c mem ofZone
    dsimp only at h
    split at h
    · exact absurd ofZone (h c mem)
    · obtain ⟨x, found, cmd⟩ := h
      obtain ⟨x_mem, x_src⟩ := claimOf_mem found
      rw [List.inj_on_of_nodup_map sources mem x_mem (ofZone.trans x_src.symm), cmd]

/-- The entry of a zone without a run is SHED where its list is sound. -/
theorem EntryAgrees.idle {s : State} {z : Fin 24} {a : Fin 64} (h : EntryAgrees s z a) (gone : z ∉ s.activation)
    (sound : ∀ c ∈ (s.claimList a).claims, ClaimActive s c) {e : MapEntry} (entry : (s.zone z).map[a] = some e) :
    e.status = .shed := by
  unfold EntryAgrees at h
  rw [entry] at h
  dsimp only at h
  split at h
  · assumption
  · obtain ⟨c, found, -⟩ := h
    obtain ⟨mem, src⟩ := claimOf_mem found
    exact absurd ((sound c mem).source (src ▸ zoneSource_isZone (s.zone z) z)).1 gone

theorem Kept.heldAt {A : Fin 64 → Prop} {Z : Fin 24 → Prop} {s : State} (h : Kept A Z s) {a : Fin 64} (ha : A a) :
    HeldAt A Z a s where
  zones := h.zones
  others b hb _ := h.lists b hb
  targets b _ := h.targets b
  maps z b hz _ := h.maps z b hz
  list := h.lists a ha
  fits z hz := (h.maps z a hz).fits (h.lists a ha).sources
  idle z _ hz gone entry := (h.maps z a hz).idle gone (h.lists a ha).active entry
  target := h.targets a

/-! ## A list written -/

theorem setList_claimList_same (s : State) (a : Fin 64) (l : ClaimList) : (s.setList a l).claimList a = l := by
  simp [State.setList, State.claimList]

theorem setList_claimList_other (s : State) {a b : Fin 64} (l : ClaimList) (h : b ≠ a) :
    (s.setList a l).claimList b = s.claimList b := by
  have differs : (a : Nat) ≠ b := fun e => h (Fin.ext e.symm)
  simp [State.setList, State.claimList, differs]

theorem HeldBut.setList {A : Fin 64 → Prop} {Z : Fin 24 → Prop} {a : Fin 64} {cs : List Claim} {s : State}
    (h : HeldBut A Z a cs s) (l : ClaimList) (claims : l.claims = cs)
    (target : l.target = deriveTarget (restCommand (s.record a)) cs) : HeldAt A Z a (s.setList a l) where
  zones := ⟨h.zones.once, h.zones.active, h.zones.gone, h.zones.staged⟩
  others b hb other := by
    rw [setList_claimList_other s l other]
    exact (h.others b hb other).congr rfl (fun _ => rfl)
  targets b other := by
    have kept := h.targets b other
    unfold Targeted at kept ⊢
    rwa [setList_claimList_other s l other]
  maps z b hz other := (h.maps z b hz other).congr rfl rfl (by rw [setList_claimList_other s l other])
  list := by
    rw [setList_claimList_same, claims]
    exact h.list.congr rfl (fun _ => rfl)
  fits z hz := by
    rw [setList_claimList_same, claims]
    exact (h.fits z hz).congr rfl rfl
  idle := h.idle
  target := by
    unfold Targeted
    rw [setList_claimList_same, claims]
    exact target

/-! ## The entries judged anew (R52) -/

/-- A zone's record with its entry for an actuator judged anew. -/
def refreshedRecord (a : Fin 64) (s : State) (z : Fin 24) : ZoneRecord :=
  match (s.zone z).map[a] with
  | none => s.zone z
  | some e =>
    { s.zone z with
      map := (s.zone z).map.set a (some { e with status := entryStatus (s.claimList a) (zoneSource (s.zone z) z) }) }

theorem refreshEntry_eq (a : Fin 64) (s : State) (z : Fin 24) :
    refreshEntry a s z = { s with zones := s.zones.set z (refreshedRecord a s z) } := by
  unfold refreshEntry refreshedRecord
  dsimp only
  cases entry : (s.zone z).map[a] with
  | none => simp [State.zone]
  | some _ => rfl

theorem refreshEntries_effect (a : Fin 64) {s : State} (once : s.activation.Nodup) :
    (∃ zs, refreshEntries a s = { s with zones := zs }) ∧
      ∀ z, (refreshEntries a s).zone z = if z ∈ s.activation then refreshedRecord a s z else s.zone z :=
  zones_foldl (refreshEntry_eq a) (fun s zs z same => by unfold refreshedRecord; rw [same]; rfl) s.activation once s

theorem refreshedRecord_frame (a : Fin 64) (s : State) (z : Fin 24) :
    (refreshedRecord a s z).mode = (s.zone z).mode ∧ (refreshedRecord a s z).stage = (s.zone z).stage ∧
      ∀ b, b ≠ a → (refreshedRecord a s z).map[b] = (s.zone z).map[b] := by
  unfold refreshedRecord
  split
  · exact ⟨rfl, rfl, fun _ _ => rfl⟩
  · refine ⟨rfl, rfl, fun b other => ?_⟩
    have differs : (a : Nat) ≠ b := fun e => other (Fin.ext e.symm)
    simp [differs]

theorem refreshedRecord_entry (a : Fin 64) (s : State) (z : Fin 24) :
    (refreshedRecord a s z).map[a] = (s.zone z).map[a].map fun e =>
      { e with status := entryStatus (s.claimList a) (zoneSource (s.zone z) z) } := by
  unfold refreshedRecord
  split
  · rename_i none
    rw [none]
    rfl
  · rename_i e entry
    rw [entry]
    simp

theorem entryStatus_shed_iff (l : ClaimList) (src : Source) : entryStatus l src = .shed ↔ claimOf l.claims src = none := by
  unfold entryStatus
  cases claimOf l.claims src with
  | none => simp
  | some c =>
    dsimp only
    split <;> simp

/-- A zone that is judged agrees with a list that fits it. -/
theorem Fits.agrees {s t : State} {z : Fin 24} {a : Fin 64} (fits : Fits s z a (s.claimList a).claims)
    (mode : (t.zone z).mode = (s.zone z).mode) (claims : (t.claimList a).claims = (s.claimList a).claims)
    (entry : (t.zone z).map[a] = (s.zone z).map[a].map fun e =>
      { e with status := entryStatus (s.claimList a) (zoneSource (s.zone z) z) }) : EntryAgrees t z a := by
  have source : zoneSource (t.zone z) z = zoneSource (s.zone z) z := by simp only [zoneSource, mode]
  unfold Fits at fits
  unfold EntryAgrees
  rw [entry, claims, source]
  cases old : (s.zone z).map[a] with
  | none =>
    rw [old] at fits
    exact fits
  | some e =>
    rw [old] at fits
    dsimp only [Option.map_some]
    split
    · rename_i shed
      exact (claimOf_none_iff _ _).1 ((entryStatus_shed_iff _ _).1 shed)
    · rename_i standing
      rw [entryStatus_shed_iff] at standing
      obtain ⟨c, found⟩ := Option.ne_none_iff_exists'.1 standing
      obtain ⟨mem, src⟩ := claimOf_mem found
      exact ⟨c, found, fits c mem src⟩

/-- A zone without a run agrees with a sound list that fits it while its entry is SHED. -/
theorem Fits.agrees_idle {s t : State} {z : Fin 24} {a : Fin 64} (fits : Fits s z a (s.claimList a).claims)
    (zone : t.zone z = s.zone z) (claims : (t.claimList a).claims = (s.claimList a).claims) (gone : z ∉ s.activation)
    (sound : ∀ c ∈ (s.claimList a).claims, ClaimActive s c)
    (idle : ∀ e, (s.zone z).map[a] = some e → e.status = .shed) : EntryAgrees t z a := by
  unfold Fits at fits
  unfold EntryAgrees
  rw [zone, claims]
  split
  · rename_i entry
    rw [entry] at fits
    exact fits
  · rename_i e entry
    rw [if_pos (idle e entry)]
    intro c mem src
    exact gone ((sound c mem).source (src ▸ zoneSource_isZone (s.zone z) z)).1

theorem HeldAt.refresh {A : Fin 64 → Prop} {Z : Fin 24 → Prop} {a : Fin 64} {s : State} (h : HeldAt A Z a s) :
    Kept (fun b => A b ∨ b = a) Z (refreshEntries a s) := by
  obtain ⟨⟨zs, frame⟩, zones⟩ := refreshEntries_effect a h.zones.once
  have activation : (refreshEntries a s).activation = s.activation := by rw [frame]
  have lists : ∀ b, (refreshEntries a s).claimList b = s.claimList b := fun b => by rw [frame]; rfl
  have record : ∀ b, (refreshEntries a s).record b = s.record b := fun b => by rw [frame]; rfl
  have mode : ∀ z, ((refreshEntries a s).zone z).mode = (s.zone z).mode := fun z => by
    rw [zones]
    split
    · exact (refreshedRecord_frame a s z).1
    · rfl
  have stage : ∀ z, ((refreshEntries a s).zone z).stage = (s.zone z).stage := fun z => by
    rw [zones]
    split
    · exact (refreshedRecord_frame a s z).2.1
    · rfl
  have map : ∀ z b, b ≠ a → ((refreshEntries a s).zone z).map[b] = (s.zone z).map[b] := fun z b other => by
    rw [zones]
    split
    · exact (refreshedRecord_frame a s z).2.2 b other
    · rfl
  refine ⟨⟨activation ▸ h.zones.once, fun z hz => ?_, fun z hz => ?_, fun z hz => ?_⟩, fun b hb => ?_, fun b => ?_,
    fun z b hz => ?_⟩
  · rw [activation, mode]; exact h.zones.active z hz
  · rw [activation]; exact h.zones.gone z hz
  · rw [stage, mode]; exact h.zones.staged z hz
  · rw [lists]
    refine ListSound.congr ?_ activation mode
    by_cases same : b = a
    · subst same; exact h.list
    · exact h.others b (hb.resolve_right same) same
  · unfold Targeted
    rw [lists, record]
    by_cases same : b = a
    · subst same; exact h.target
    · exact h.targets b same
  · by_cases same : b = a
    · subst same
      by_cases mem : z ∈ s.activation
      · refine (h.fits z hz).agrees (mode z) (by rw [lists]) ?_
        rw [zones, if_pos mem]
        exact refreshedRecord_entry b s z
      · exact (h.fits z hz).agrees_idle (by rw [zones, if_neg mem]) (by rw [lists]) mem h.list.active
          (fun e => h.idle z e hz mem)
    · exact (h.maps z b hz same).congr (mode z) (map z b same) (by rw [lists])

/-! ## The end of an operation (R21, R28, R29, R30) -/

theorem endListOp_eq (a : Fin 64) (cs : List Claim) (m : Bool) (w : Work) :
    ∃ u, SameClaims (w.st.setList a
        { claims := cs, target := deriveTarget (restCommand (w.st.record a)) cs, normalShed := m }) u ∧
      (endListOp a cs m w).st = refreshEntries a u := by
  unfold endListOp
  simp only [Work.map_st]
  refine ⟨_, ?_, rfl⟩
  split
  · exact SameClaims.refl _
  · split
    · exact sameClaims_handTarget a _ (w.map fun s => s.setList a
        { claims := cs, target := deriveTarget (restCommand (w.st.record a)) cs, normalShed := m })
    · exact SameClaims.refl _

theorem HeldBut.endListOp {A : Fin 64 → Prop} {Z : Fin 24 → Prop} {a : Fin 64} {cs : List Claim} {w : Work}
    (h : HeldBut A Z a cs w.st) (m : Bool) : Kept (fun b => A b ∨ b = a) Z (endListOp a cs m w).st := by
  obtain ⟨u, same, eq⟩ := endListOp_eq a cs m w
  rw [eq]
  exact ((h.setList _ rfl rfl).same same).refresh

theorem refreshEntries_claimList (a b : Fin 64) {s : State} (once : s.activation.Nodup) :
    (refreshEntries a s).claimList b = s.claimList b := by
  obtain ⟨⟨zs, frame⟩, -⟩ := refreshEntries_effect a once
  rw [frame]
  rfl

/-- The claims that the end of an operation leaves: the given ones in its list, the old ones in every other. -/
theorem endListOp_claims (a : Fin 64) (cs : List Claim) (m : Bool) {w : Work} (once : w.st.activation.Nodup) :
    ((endListOp a cs m w).st.claimList a).claims = cs ∧
      ∀ b, b ≠ a → ((endListOp a cs m w).st.claimList b).claims = (w.st.claimList b).claims := by
  obtain ⟨u, same, eq⟩ := endListOp_eq a cs m w
  have onceU : u.activation.Nodup := same.activation ▸ once
  rw [eq]
  refine ⟨?_, fun b other => ?_⟩
  · rw [refreshEntries_claimList a a onceU, same.claims, setList_claimList_same]
  · rw [refreshEntries_claimList a b onceU, same.claims, setList_claimList_other _ _ other]

end Sys2Proof.Machine

end
/-! # The lists through an event: placing, withdrawing, re-offering (R22 to R27, R38, R51, R151) -/

section

namespace Sys2Proof.Machine

/-! ## The invariant -/

/-- Every list and map is kept, the override count is right, and in CONFIG-FAULT no claim stands (R13, R38, R59, R151). -/
structure Held (s : State) : Prop where
  kept : Kept (fun _ => True) (fun _ => True) s
  counted : s.overrides = overrideLists s
  fault : s.configFault = true → s.activation = [] ∧ ∀ a, (s.claimList a).claims = []

theorem overrideLists_congr {s t : State} (h : ∀ a, (claimOf (t.claimList a).claims .override).isSome =
    (claimOf (s.claimList a).claims .override).isSome) : overrideLists t = overrideLists s := by
  unfold overrideLists
  refine List.countP_congr fun a _ => ?_
  rw [h a]

/-- Two states with the same override count and OVERRIDE claims in the same lists. -/
structure SameOverrides (s t : State) : Prop where
  count : t.overrides = s.overrides
  lists : ∀ a, (claimOf (t.claimList a).claims .override).isSome = (claimOf (s.claimList a).claims .override).isSome

theorem SameOverrides.counted {s t : State} (h : SameOverrides s t) (counted : s.overrides = overrideLists s) :
    t.overrides = overrideLists t := by
  rw [h.count, counted, overrideLists_congr h.lists]

theorem SameOverrides.refl (s : State) : SameOverrides s s := ⟨rfl, fun _ => rfl⟩

theorem SameOverrides.trans {s t u : State} (x : SameOverrides s t) (y : SameOverrides t u) : SameOverrides s u :=
  ⟨y.count.trans x.count, fun a => (y.lists a).trans (x.lists a)⟩

theorem SameClaims.overrides_same {s t : State} (h : SameClaims s t) : SameOverrides s t :=
  ⟨h.overrides, fun a => by rw [h.claims]⟩

theorem Held.same {s t : State} (h : Held s) (alike : SameClaims s t) : Held t where
  kept := h.kept.same alike
  counted := alike.overrides_same.counted h.counted
  fault yes := by
    rw [alike.configFault] at yes
    obtain ⟨active, empty⟩ := h.fault yes
    exact ⟨by rw [alike.activation, active], fun a => by rw [alike.claims, empty]⟩

/-- A part with a zone active or a claim standing is not in CONFIG-FAULT. -/
theorem Held.noFault_of_active {s : State} (h : Held s) {z : Fin 24} (active : (s.zone z).mode ≠ .none) :
    s.configFault = false := by
  by_contra fault
  have mem := (h.kept.zones.active z trivial).2 active
  rw [(h.fault (by simpa using fault)).1] at mem
  exact absurd mem List.not_mem_nil

theorem Held.noFault_of_claim {s : State} (h : Held s) {a : Fin 64} {c : Claim} (mem : c ∈ (s.claimList a).claims) :
    s.configFault = false := by
  by_contra fault
  rw [(h.fault (by simpa using fault)).2 a] at mem
  exact absurd mem List.not_mem_nil

theorem held_of_kept {s : State} {A : Fin 64 → Prop} (kept : Kept A (fun _ => True) s) (all : ∀ a, A a)
    (counted : s.overrides = overrideLists s) (fault : s.configFault = false) : Held s where
  kept := ⟨kept.zones, fun a _ => kept.lists a (all a), kept.targets, kept.maps⟩
  counted := counted
  fault yes := absurd (fault.symm.trans yes) (by simp)

/-! ## Placing -/

theorem placeClaim_unchanged {act : List (Fin 24)} {cs : List Claim} {src : Source} {cmd : Command}
    (h : (placeClaim act cs src cmd).2 = .same ∨ (placeClaim act cs src cmd).2 = .shedAtOnce) :
    (placeClaim act cs src cmd).1 = cs := by
  unfold placeClaim at h ⊢
  split at h
  · split at h
    · rename_i found same; rw [if_pos same]
    · simp at h
  · split at h
    · simp at h
    · split at h
      · split at h
        · simp at h
        · rename_i full _ low _ under
          rw [if_neg full, if_neg under]
      · simp at h

/-- What a placing does to the part: nothing, a mark and the maps, or the end of an operation with the list it leaves. -/
theorem placeOp_cases (a : Fin 64) (src : Source) (cmd : Command) (w : Work) :
    let cs := (placeClaim w.st.activation (w.st.claimList a).claims src cmd).1
    (placeOp a src cmd w).2 = (placeClaim w.st.activation (w.st.claimList a).claims src cmd).2 ∧
      ((cs = (w.st.claimList a).claims ∧ (placeOp a src cmd w).1.st = w.st) ∨
        (cs = (w.st.claimList a).claims ∧ ∃ l : ClaimList, l.claims = (w.st.claimList a).claims ∧
          l.target = (w.st.claimList a).target ∧ (placeOp a src cmd w).1.st = refreshEntries a (w.st.setList a l)) ∨
        ∃ m, (placeOp a src cmd w).1 = endListOp a cs m w) := by
  intro cs
  have unchanged := placeClaim_unchanged (act := w.st.activation) (cs := (w.st.claimList a).claims) (src := src) (cmd := cmd)
  unfold placeOp
  dsimp only
  split
  · rename_i same
    exact ⟨same.symm, .inl ⟨unchanged (.inl same), rfl⟩⟩
  · rename_i shed
    refine ⟨rfl, .inr (.inl ⟨unchanged (.inr shed), ?_⟩)⟩
    simp only [Work.map_st]
    refine ⟨_, ?_, ?_, rfl⟩
    · rfl
    · rfl
  · exact ⟨rfl, .inr (.inr ⟨_, rfl⟩)⟩

/-- A placing leaves its actuator held and every other kept. -/
theorem HeldBut.placeOp {A : Fin 64 → Prop} {Z : Fin 24 → Prop} {a : Fin 64} {src : Source} {cmd : Command} {w : Work}
    (h : HeldBut A Z a (placeClaim w.st.activation (w.st.claimList a).claims src cmd).1 w.st) (target : Targeted w.st a)
    (all : ∀ b, A b) : HeldAt A Z a (placeOp a src cmd w).1.st := by
  have back : ∀ {s}, Kept (fun b => A b ∨ b = a) Z s → HeldAt A Z a s := fun k =>
    Kept.heldAt ⟨k.zones, fun b hb => k.lists b (.inl hb), k.targets, k.maps⟩ (all a)
  obtain ⟨-, ⟨claims, same⟩ | ⟨claims, l, l_claims, l_target, marked⟩ | ⟨m, ended⟩⟩ := placeOp_cases a src cmd w
  · rw [same]
    exact ⟨claims ▸ h, target⟩
  · rw [marked]
    exact back (h.setList l (l_claims.trans claims.symm) (by rw [claims, l_target]; exact target)).refresh
  · rw [ended]
    exact back (h.endListOp m)

/-- The claims that a placing leaves. -/
theorem placeOp_claims (a : Fin 64) (src : Source) (cmd : Command) {w : Work} (once : w.st.activation.Nodup) :
    ((placeOp a src cmd w).1.st.claimList a).claims =
        (placeClaim w.st.activation (w.st.claimList a).claims src cmd).1 ∧
      ∀ b, b ≠ a → ((placeOp a src cmd w).1.st.claimList b).claims = (w.st.claimList b).claims := by
  obtain ⟨-, ⟨claims, same⟩ | ⟨claims, l, l_claims, l_target, marked⟩ | ⟨m, ended⟩⟩ := placeOp_cases a src cmd w
  · rw [same, claims]
    exact ⟨rfl, fun _ _ => rfl⟩
  · have onceSet : (w.st.setList a l).activation.Nodup := once
    rw [marked, claims]
    refine ⟨?_, fun b other => ?_⟩
    · rw [refreshEntries_claimList a a onceSet, setList_claimList_same, l_claims]
    · rw [refreshEntries_claimList a b onceSet, setList_claimList_other _ _ other]
  · rw [ended]
    exact endListOp_claims a _ m once

/-- A source of no zone places its claim into kept lists. -/
theorem Kept.placing {A : Fin 64 → Prop} {Z : Fin 24 → Prop} {s : State} (h : Kept A Z s) {a : Fin 64} (ha : A a) {src : Source}
    {cmd : Command} (noZone : ∀ z, src ≠ .fire z ∧ src ≠ .test z) :
    HeldBut A Z a (placeClaim s.activation (s.claimList a).claims src cmd).1 s := by
  have active : ClaimActive s ⟨src, cmd⟩ := fun z => ⟨fun e => absurd e (noZone z).2, fun e => absurd e (noZone z).1⟩
  have placed := placeClaim_placedIn (h.lists a ha) active
  obtain ⟨zones, others, targets, maps, list, fits, idle⟩ := (h.heldAt ha).toHeldBut
  refine ⟨zones, others, targets, maps, placed.sound, fun z hz => ?_, idle⟩
  have old := fits z hz
  unfold Fits at old ⊢
  split
  · rename_i entry
    rw [entry] at old
    intro c mem
    rcases placed.mem c mem with rfl | ⟨mem, -⟩
    · exact noZone z
    · exact old c mem
  · rename_i e entry
    rw [entry] at old
    intro c mem ofZone
    rcases placed.mem c mem with rfl | ⟨mem, -⟩
    · rcases zoneSource_isZone (s.zone z) z with fire | test
      · exact absurd (ofZone.trans fire) (noZone z).1
      · exact absurd (ofZone.trans test) (noZone z).2
    · exact old c mem ofZone

/-- A placing by a source of no zone keeps every list. -/
theorem Kept.placeOp {w : Work} (h : Kept (fun _ => True) (fun _ => True) w.st) (a : Fin 64) {src : Source} {cmd : Command}
    (noZone : ∀ z, src ≠ .fire z ∧ src ≠ .test z) :
    Kept (fun _ => True) (fun _ => True) (placeOp a src cmd w).1.st := by
  have but := h.placing (a := a) trivial (cmd := cmd) noZone
  have whole : ∀ {s}, Kept (fun b => True ∨ b = a) (fun _ => True) s → Kept (fun _ => True) (fun _ => True) s := fun k =>
    ⟨k.zones, fun b _ => k.lists b (.inl trivial), k.targets, k.maps⟩
  obtain ⟨-, ⟨claims, same⟩ | ⟨claims, l, l_claims, l_target, marked⟩ | ⟨m, ended⟩⟩ := placeOp_cases a src cmd w
  · rw [same]
    exact h
  · rw [marked]
    exact whole (but.setList l (l_claims.trans claims.symm) (by rw [claims, l_target]; exact h.targets a)).refresh
  · rw [ended]
    exact whole (but.endListOp m)

/-! ## Re-offering (R27) -/

/-- A zone that is active claims under the source of its mode. -/
theorem claimActive_zoneSource {s : State} {z : Fin 24} (mem : z ∈ s.activation) (active : (s.zone z).mode ≠ .none)
    (cmd : Command) : ClaimActive s ⟨zoneSource (s.zone z) z, cmd⟩ := by
  intro y
  unfold zoneSource
  cases mode : (s.zone z).mode with
  | none => exact absurd mode active
  | test => exact ⟨fun e => Source.test.inj e ▸ ⟨mem, mode⟩, fun e => by cases e⟩
  | fire => exact ⟨fun e => (by cases e), fun e => Source.fire.inj e ▸ ⟨mem, mode⟩⟩

theorem zoneSource_inj {r x : ZoneRecord} {z y : Fin 24} (same : zoneSource r z = zoneSource x y) : z = y := by
  rcases zoneSource_isZone r z with e | e <;> rcases zoneSource_isZone x y with e' | e' <;> rw [e, e'] at same
  · exact Source.fire.inj same
  · cases same
  · cases same
  · exact Source.test.inj same

/-- A SHED claim of an active zone re-enters a list (R27). -/
theorem HeldBut.insertShed {A : Fin 64 → Prop} {Z : Fin 24 → Prop} {a : Fin 64} {cs : List Claim} {s : State}
    (h : HeldBut A Z a cs s) (room : cs.length < maxClaims) {z : Fin 24} (mem : z ∈ s.activation) {e : MapEntry}
    (entry : (s.zone z).map[a] = some e) (new : ∀ c ∈ cs, c.src ≠ zoneSource (s.zone z) z) :
    HeldBut A Z a (insertClaim s.activation ⟨zoneSource (s.zone z) z, e.cmd⟩ cs) s := by
  obtain ⟨zones, others, targets, maps, list, fits, idle⟩ := h
  have isZ : Z z := by
    by_contra notZ
    exact zones.gone z notZ mem
  have active := (zones.active z isZ).1 mem
  refine ⟨zones, others, targets, maps, list.insert room new (claimActive_zoneSource mem active e.cmd), fun y hy => ?_, idle⟩
  have old := fits y hy
  unfold Fits at old ⊢
  split
  · rename_i none
    rw [none] at old
    intro c c_mem
    rcases mem_insertClaim.1 c_mem with rfl | c_mem
    · have other : z ≠ y := by
        rintro rfl
        rw [entry] at none
        cases none
      rcases zoneSource_isZone (s.zone z) z with src | src <;> rw [src]
      · exact ⟨fun e => other (Source.fire.inj e), fun e => by cases e⟩
      · exact ⟨fun e => (by cases e), fun e => other (Source.test.inj e)⟩
    · exact old c c_mem
  · rename_i e' entry'
    rw [entry'] at old
    intro c c_mem ofZone
    rcases mem_insertClaim.1 c_mem with rfl | c_mem
    · obtain rfl := zoneSource_inj ofZone
      rw [entry] at entry'
      rw [Option.some.inj entry']
    · exact old c c_mem ofZone

/-- The step of a re-offer for one zone. -/
def reofferZone (s : State) (a : Fin 64) (cs : List Claim) (z : Fin 24) : List Claim :=
  if cs.length < maxClaims then
    match (s.zone z).map[a] with
    | some e => if e.status = .shed then insertClaim s.activation ⟨zoneSource (s.zone z) z, e.cmd⟩ cs else cs
    | none => cs
  else cs

theorem reoffer_eq (s : State) (a : Fin 64) (cs : List Claim) : reoffer s a cs = s.activation.foldl (reofferZone s a) cs := rfl

/-- A zone's step of a re-offer leaves a list, or inserts the zone's SHED claim. -/
theorem reofferZone_cases (s : State) (a : Fin 64) (cs : List Claim) (z : Fin 24) :
    reofferZone s a cs z = cs ∨ ∃ e, (s.zone z).map[a] = some e ∧ e.status = .shed ∧ cs.length < maxClaims ∧
      reofferZone s a cs z = insertClaim s.activation ⟨zoneSource (s.zone z) z, e.cmd⟩ cs := by
  unfold reofferZone
  split
  · rename_i room
    split
    · rename_i e entry
      split
      · rename_i shed
        exact .inr ⟨e, entry, shed, room, rfl⟩
      · exact .inl rfl
    · exact .inl rfl
  · exact .inl rfl

/-- The zones of a list whose entry is SHED hold no claim. -/
def ShedAbsent (s : State) (a : Fin 64) (l : List (Fin 24)) (cs : List Claim) : Prop :=
  ∀ z ∈ l, ∀ e, (s.zone z).map[a] = some e → e.status = .shed → ∀ c ∈ cs, c.src ≠ zoneSource (s.zone z) z

theorem HeldBut.reofferFold {A : Fin 64 → Prop} {Z : Fin 24 → Prop} {a : Fin 64} {s : State} (l : List (Fin 24))
    (once : l.Nodup) (sub : ∀ z ∈ l, z ∈ s.activation) {cs : List Claim} (h : HeldBut A Z a cs s)
    (shed : ShedAbsent s a l cs) :
    HeldBut A Z a (l.foldl (reofferZone s a) cs) s ∧
      ∀ c : Claim, c.src = .override → (c ∈ l.foldl (reofferZone s a) cs ↔ c ∈ cs) := by
  induction l generalizing cs with
  | nil => exact ⟨h, fun _ _ => Iff.rfl⟩
  | cons z l ih =>
    obtain ⟨notIn, once⟩ := List.nodup_cons.1 once
    have sub' : ∀ y ∈ l, y ∈ s.activation := fun y mem => sub y (List.mem_cons_of_mem _ mem)
    have shed' : ShedAbsent s a l cs := fun y mem => shed y (List.mem_cons_of_mem _ mem)
    rw [List.foldl_cons]
    obtain same | ⟨e, entry, isShed, room, inserted⟩ := reofferZone_cases s a cs z
    · rw [same]
      exact ih once sub' h shed'
    · rw [inserted]
      have new := shed z (List.mem_cons_self ..) e entry isShed
      have first := h.insertShed room (sub z (List.mem_cons_self ..)) entry new
      obtain ⟨held, overrides⟩ := ih once sub' first fun y mem e' entry' isShed' c c_mem => by
        rcases mem_insertClaim.1 c_mem with rfl | c_mem
        · intro same
          obtain rfl := zoneSource_inj same
          exact notIn mem
        · exact shed' y mem e' entry' isShed' c c_mem
      refine ⟨held, fun c isOverride => (overrides c isOverride).trans ?_⟩
      rw [mem_insertClaim]
      refine ⟨fun mem => mem.resolve_left ?_, .inr⟩
      rintro rfl
      rcases zoneSource_isZone (s.zone z) z with src | src <;> rw [src] at isOverride <;> cases isOverride

/-- A re-offer keeps a list in order and in agreement, and what OVERRIDE claim it holds (R27). -/
theorem HeldBut.reoffer {A : Fin 64 → Prop} {Z : Fin 24 → Prop} {a : Fin 64} {s : State} {cs : List Claim}
    (h : HeldBut A Z a cs s) (shed : ShedAbsent s a s.activation cs) :
    HeldBut A Z a (reoffer s a cs) s ∧
      (claimOf (reoffer s a cs) .override).isSome = (claimOf cs .override).isSome := by
  rw [reoffer_eq]
  obtain ⟨held, overrides⟩ := h.reofferFold s.activation h.zones.once (fun _ => id) shed
  refine ⟨held, ?_⟩
  rw [Bool.eq_iff_iff, claimOf_isSome_iff, claimOf_isSome_iff]
  exact exists_congr fun c =>
    ⟨fun ⟨mem, src⟩ => ⟨(overrides c src).1 mem, src⟩, fun ⟨mem, src⟩ => ⟨(overrides c src).2 mem, src⟩⟩

/-! ## Withdrawing -/

theorem HeldBut.sublist {A : Fin 64 → Prop} {Z : Fin 24 → Prop} {a : Fin 64} {s : State} {cs cs' : List Claim}
    (h : HeldBut A Z a cs s) (sub : cs'.Sublist cs) : HeldBut A Z a cs' s := by
  obtain ⟨zones, others, targets, maps, list, fits, idle⟩ := h
  refine ⟨zones, others, targets, maps, list.sublist sub, fun z hz => ?_, idle⟩
  have old := fits z hz
  unfold Fits at old ⊢
  split
  · rename_i entry
    rw [entry] at old
    exact fun c mem => old c (sub.subset mem)
  · rename_i e entry
    rw [entry] at old
    exact fun c mem => old c (sub.subset mem)

/-- In agreement with the maps a SHED entry's zone holds no claim. -/
theorem shedAbsent_of_agrees {s : State} {a : Fin 64} {l : List (Fin 24)} (agrees : ∀ z ∈ l, EntryAgrees s z a) :
    ShedAbsent s a l (s.claimList a).claims := by
  intro z mem e entry shed
  have agree := agrees z mem
  unfold EntryAgrees at agree
  rw [entry] at agree
  dsimp only at agree
  rwa [if_pos shed] at agree

theorem withdrawOp_eq {a : Fin 64} {src : Source} {w : Work} (standing : claimOf (w.st.claimList a).claims src ≠ none) :
    withdrawOp a src w =
      endListOp a (reoffer w.st a (removeClaim (w.st.claimList a).claims src)) (w.st.claimList a).normalShed w := by
  obtain ⟨c, found⟩ := Option.ne_none_iff_exists'.1 standing
  unfold withdrawOp
  dsimp only
  rw [found]

theorem withdrawOp_absent {a : Fin 64} {src : Source} {w : Work} (absent : claimOf (w.st.claimList a).claims src = none) :
    withdrawOp a src w = w := by
  unfold withdrawOp
  dsimp only
  rw [absent]

/-- A withdrawal keeps every list, and leaves every OVERRIDE claim but one that it withdraws. -/
theorem Kept.withdrawOp {w : Work} (h : Kept (fun _ => True) (fun _ => True) w.st) (a : Fin 64) (src : Source) :
    Kept (fun _ => True) (fun _ => True) (withdrawOp a src w).st ∧
      (∀ b, b ≠ a → ((withdrawOp a src w).st.claimList b).claims = (w.st.claimList b).claims) ∧
      (claimOf ((withdrawOp a src w).st.claimList a).claims .override).isSome =
        (claimOf (removeClaim (w.st.claimList a).claims src) .override).isSome := by
  by_cases standing : claimOf (w.st.claimList a).claims src = none
  · rw [withdrawOp_absent standing]
    refine ⟨h, fun _ _ => rfl, ?_⟩
    have same : removeClaim (w.st.claimList a).claims src = (w.st.claimList a).claims := by
      rw [removeClaim, List.filter_eq_self]
      intro c mem
      simpa using (claimOf_none_iff _ _).1 standing c mem
    rw [same]
  · rw [withdrawOp_eq standing]
    have sub := removeClaim_sublist (w.st.claimList a).claims src
    have removed := (h.heldAt (a := a) trivial).toHeldBut.sublist sub
    obtain ⟨offered, overrides⟩ := removed.reoffer fun z mem e entry shed c c_mem =>
      shedAbsent_of_agrees (fun z _ => h.maps z a trivial) z mem e entry shed c (sub.subset c_mem)
    obtain ⟨claims, others⟩ := endListOp_claims a
      (Machine.reoffer w.st a (removeClaim (w.st.claimList a).claims src)) (w.st.claimList a).normalShed h.zones.once
    have ended := offered.endListOp (w.st.claimList a).normalShed
    exact ⟨⟨ended.zones, fun b _ => ended.lists b (.inl trivial), ended.targets, ended.maps⟩, others, by rw [claims, overrides]⟩

/-- A withdrawal of a claim that is no OVERRIDE claim leaves every OVERRIDE claim. -/
theorem removeClaim_overridden {cs : List Claim} {src : Source} (other : src ≠ .override) :
    (claimOf (removeClaim cs src) .override).isSome = (claimOf cs .override).isSome := by
  rw [Bool.eq_iff_iff, claimOf_isSome_iff, claimOf_isSome_iff]
  refine exists_congr fun c => ?_
  rw [mem_removeClaim]
  exact ⟨fun ⟨⟨mem, _⟩, isOverride⟩ => ⟨mem, isOverride⟩,
    fun ⟨mem, isOverride⟩ => ⟨⟨mem, fun e => other (e.symm.trans isOverride)⟩, isOverride⟩⟩

end Sys2Proof.Machine

end
/-! # The lists through the Sequence Engine (R62 to R79) -/

section

namespace Sys2Proof.Machine

/-! ## What leaves the claims as they are -/

/-- A zone that has a stage or a run. -/
def Staged (s : State) (z : Fin 24) : Prop := (s.zone z).stage ≠ none ∨ (s.zone z).mode ≠ .none

theorem sameClaims_setZone {s : State} {z : Fin 24} {r : ZoneRecord} (mode : r.mode = (s.zone z).mode)
    (map : r.map = (s.zone z).map) (stage : r.stage ≠ none → Staged s z) : SameClaims s (s.setZone z r) where
  activation := rfl
  overrides := rfl
  plant := rfl
  configFault := rfl
  claims _ := rfl
  target _ := rfl
  mode y := by
    by_cases same : y = z
    · subst same; rw [State.setZone_zone_same, mode]
    · rw [State.setZone_zone_other s r same]
  map y := by
    by_cases same : y = z
    · subst same; rw [State.setZone_zone_same, map]
    · rw [State.setZone_zone_other s r same]
  stage y := by
    by_cases same : y = z
    · subst same; rw [State.setZone_zone_same]; exact stage
    · rw [State.setZone_zone_other s r same]; exact .inl

theorem sameClaims_raiseFlags (s : State) : SameClaims s s.raiseFlags := sameClaims_framed ⟨_, _, rfl⟩

/-- A zone's record written and the change flags set. -/
theorem sameClaims_setZone_raise {s : State} {z : Fin 24} {r : ZoneRecord} (mode : r.mode = (s.zone z).mode)
    (map : r.map = (s.zone z).map) (stage : r.stage ≠ none → Staged s z) : SameClaims s (s.setZone z r).raiseFlags :=
  (sameClaims_setZone mode map stage).trans (sameClaims_raiseFlags _)

theorem sameClaims_foldl {α : Type} (f : State → α → State) (k : ∀ s x, SameClaims s (f s x)) (l : List α) (s : State) :
    SameClaims s (l.foldl f s) := by
  induction l generalizing s with
  | nil => exact SameClaims.refl s
  | cons x l ih => exact (k s x).trans (ih _)

theorem sameClaims_foldl_work {α : Type} (f : Work → α → Work) (k : ∀ w x, SameClaims w.st (f w x).st) (l : List α) (w : Work) :
    SameClaims w.st (l.foldl f w).st := by
  induction l generalizing w with
  | nil => exact SameClaims.refl _
  | cons x l ih => exact (k w x).trans (ih _)

theorem sameClaims_damperEvent (a : Fin 64) (act : DamperCtx → DamperDrive → DamperDrive) (w : Work) :
    SameClaims w.st (damperEvent a act w).st := by
  obtain ⟨ps, frame⟩ := damperEvent_st a act w
  exact sameClaims_framed ⟨_, _, frame⟩

theorem sameClaims_fanEvent (a : Fin 64) (act : FanCtx → FanDrive → FanDrive) (w : Work) :
    SameClaims w.st (fanEvent a act w).st := by
  obtain ⟨ps, frame⟩ := fanEvent_st a act w
  exact sameClaims_framed ⟨_, _, frame⟩

theorem sameClaims_handInput (i : Fin 128) (w : Work) : SameClaims w.st (handInput i w).st := by
  unfold handInput
  split
  · exact SameClaims.refl _
  · dsimp only
    split
    · exact sameClaims_fanEvent _ _ w
    · exact sameClaims_damperEvent _ _ w
    · exact sameClaims_damperEvent _ _ w
    · exact SameClaims.refl _

theorem sameClaims_handChannel (c : Fin 16) (w : Work) : SameClaims w.st (handChannel c w).st := by
  refine sameClaims_foldl_work _ (fun w a => ?_) _ w
  split
  · exact sameClaims_fanEvent _ _ w
  · exact SameClaims.refl _

theorem sameClaims_judgeStage (s : State) (z : Fin 24) : SameClaims s (judgeStage s z) := by
  unfold judgeStage
  dsimp only
  split
  · exact SameClaims.refl s
  · rename_i cs stage
    split
    · exact sameClaims_setZone rfl rfl (fun _ => .inl (by rw [stage]; simp))
    · exact SameClaims.refl s

theorem sameClaims_judgeSub (s : State) (z : Fin 24) : SameClaims s (judgeSub s z) := by
  unfold judgeSub
  dsimp only
  split
  · exact SameClaims.refl s
  · exact sameClaims_setZone_raise rfl rfl .inl

theorem sameClaims_judgeZones (s : State) : SameClaims s (judgeZones s) :=
  sameClaims_foldl _ (fun s z => (sameClaims_judgeStage s z).trans (sameClaims_judgeSub _ z)) _ s

theorem sameClaims_finishStage {s : State} {z : Fin 24} (staged : Staged s z) (cs : CurrentStage) :
    SameClaims s (finishStage s z cs) := by
  unfold finishStage
  dsimp only
  split
  · exact sameClaims_setZone_raise rfl rfl (fun _ => staged)
  · split
    · exact sameClaims_setZone_raise rfl rfl (fun _ => staged)
    · exact sameClaims_setZone rfl rfl (fun _ => staged)

theorem sameClaims_expireWindow {s : State} {z : Fin 24} (staged : Staged s z) (cs : CurrentStage) :
    SameClaims s (expireWindow s z cs) := by
  unfold expireWindow
  dsimp only
  refine SameClaims.trans ?_ (sameClaims_finishStage ?_ _)
  · exact sameClaims_setZone rfl rfl .inl
  · unfold Staged
    rw [State.setZone_zone_same]
    exact staged

theorem sameClaims_resumeZone (touched : List (Fin 64)) (s : State) (z : Fin 24) : SameClaims s (resumeZone touched s z) := by
  unfold resumeZone
  dsimp only
  split
  · rename_i stage
    have staged : Staged s z := .inl (by rw [stage]; simp)
    split
    · split
      · exact sameClaims_setZone_raise rfl rfl .inl
      · exact sameClaims_setZone_raise rfl rfl (fun _ => staged)
    · exact SameClaims.refl s
  · exact SameClaims.refl s

theorem sameClaims_resumeZones (w : Work) : SameClaims w.st (resumeZones w).st :=
  sameClaims_foldl _ (sameClaims_resumeZone w.touched) _ w.st

theorem ZoneRecord.freeze_frame (now : Nat) (r : ZoneRecord) :
    (r.freeze now).mode = r.mode ∧ (r.freeze now).map = r.map ∧ ((r.freeze now).stage ≠ none → r.stage ≠ none) := by
  unfold ZoneRecord.freeze
  split
  · exact ⟨rfl, rfl, id⟩
  · exact ⟨rfl, rfl, fun some none => some (by rw [none]; rfl)⟩

theorem sameClaims_holdZone (s : State) (z : Fin 24) : SameClaims s (holdZone s z) := by
  obtain ⟨mode, map, stage⟩ := (s.zone z).freeze_frame s.now
  unfold holdZone
  dsimp only
  split
  · exact SameClaims.refl s
  · exact sameClaims_setZone_raise mode map (fun some => .inl (stage some))

theorem sameClaims_suspendZone (s : State) (z : Fin 24) : SameClaims s (suspendZone s z) := by
  obtain ⟨mode, map, stage⟩ := (s.zone z).freeze_frame s.now
  unfold suspendZone
  dsimp only
  split
  · exact SameClaims.refl s
  · exact sameClaims_setZone_raise mode map (fun some => .inl (stage some))

/-- A stage put in place of a zone's stage. -/
theorem sameClaims_putStage {s : State} {z : Fin 24} (staged : Staged s z) (cs : CurrentStage) :
    SameClaims s (s.setZone z { s.zone z with stage := some cs }) :=
  sameClaims_setZone rfl rfl (fun _ => staged)

/-! ## One command of a stage (R51, R65) -/

/-- A zone's map with an entry for one actuator written. -/
theorem mapSet_entry (s : State) (z y : Fin 24) (a b : Fin 64) (e : MapEntry) (h : y ≠ z ∨ b ≠ a) :
    ((s.setZone z { s.zone z with map := (s.zone z).map.set a (some e) }).zone y).map[b] = (s.zone y).map[b] := by
  by_cases same : y = z
  · subst same
    have differs : (a : Nat) ≠ b := fun e => (h.resolve_left (fun no => no rfl)) (Fin.ext e.symm)
    rw [State.setZone_zone_same]
    simp [differs]
  · rw [State.setZone_zone_other s _ same]

theorem mapSet_mode (s : State) (z y : Fin 24) (a : Fin 64) (e : MapEntry) :
    ((s.setZone z { s.zone z with map := (s.zone z).map.set a (some e) }).zone y).mode = (s.zone y).mode := by
  by_cases same : y = z
  · subst same; rw [State.setZone_zone_same]
  · rw [State.setZone_zone_other s _ same]

theorem mapSet_stage (s : State) (z y : Fin 24) (a : Fin 64) (e : MapEntry) :
    ((s.setZone z { s.zone z with map := (s.zone z).map.set a (some e) }).zone y).stage = (s.zone y).stage := by
  by_cases same : y = z
  · subst same; rw [State.setZone_zone_same]
  · rw [State.setZone_zone_other s _ same]

/-- An active zone places a command with its new entry in its map: the list it leaves fits every map (R51, R65). -/
theorem Kept.placingZone {s : State} (h : Kept (fun _ => True) (fun _ => True) s) {z : Fin 24} (active : (s.zone z).mode ≠ .none)
    (a : Fin 64) (e : MapEntry) :
    let t := s.setZone z { s.zone z with map := (s.zone z).map.set a (some e) }
    HeldBut (fun _ => True) (fun _ => True) a
      (placeClaim t.activation (t.claimList a).claims (zoneSource (s.zone z) z) e.cmd).1 t := by
  intro t
  have mode : ∀ y, (t.zone y).mode = (s.zone y).mode := fun y => mapSet_mode s z y a e
  have stage : ∀ y, (t.zone y).stage = (s.zone y).stage := fun y => mapSet_stage s z y a e
  have entry : ∀ y b, y ≠ z ∨ b ≠ a → (t.zone y).map[b] = (s.zone y).map[b] := fun y b => mapSet_entry s z y a b e
  have own : (t.zone z).map[a] = some e := by
    have zone : t.zone z = { s.zone z with map := (s.zone z).map.set a (some e) } := State.setZone_zone_same ..
    rw [zone]
    simp
  have mem := (h.zones.active z trivial).2 active
  have placed := placeClaim_placedIn (h.lists a trivial) (claimActive_zoneSource mem active e.cmd)
  obtain ⟨zones, others, targets, maps, list, fits, idle⟩ := (h.heldAt (a := a) trivial).toHeldBut
  refine ⟨⟨zones.once, fun y hy => ?_, zones.gone, fun y hy staged => ?_⟩, fun b _ other => ?_, fun b other => targets b other,
    fun y b hy other => ?_, placed.sound.congr rfl mode, fun y hy => ?_, fun y e' hy gone entry' => ?_⟩
  · rw [mode]; exact zones.active y hy
  · rw [stage] at staged
    rw [mode]
    exact zones.staged y hy staged
  · exact (others b trivial other).congr rfl mode
  · exact (maps y b hy other).congr (mode y) (entry y b (.inr other)) rfl
  · by_cases same : y = z
    · subst same
      have source : zoneSource (t.zone y) y = zoneSource (s.zone y) y := by simp only [zoneSource, mode]
      unfold Fits
      rw [own]
      intro c c_mem ofZone
      rw [source] at ofZone
      rcases placed.mem c c_mem with rfl | ⟨-, other⟩
      · rfl
      · exact absurd ofZone other
    · refine Fits.congr ?_ (mode y) (entry y a (.inl same))
      have old := fits y hy
      unfold Fits at old ⊢
      split
      · rename_i none
        rw [none] at old
        intro c c_mem
        rcases placed.mem c c_mem with rfl | ⟨c_mem, -⟩
        · rcases zoneSource_isZone (s.zone z) z with src | src <;> rw [src]
          · exact ⟨fun e => same (Source.fire.inj e).symm, fun e => by cases e⟩
          · exact ⟨fun e => (by cases e), fun e => same (Source.test.inj e).symm⟩
        · exact old c c_mem
      · rename_i x some
        rw [some] at old
        intro c c_mem ofZone
        rcases placed.mem c c_mem with rfl | ⟨c_mem, -⟩
        · exact absurd (zoneSource_inj ofZone).symm same
        · exact old c c_mem ofZone
  · have other : y ≠ z := by
      rintro rfl
      exact gone mem
    exact idle y e' hy gone ((entry y a (.inl other)).symm.trans entry')

theorem keeps_placeCommand_mode (z : Fin 24) (c : StageCommand) (w : Work) (y : Fin 24) :
    ((placeCommand z w c).st.zone y).mode = (w.st.zone y).mode := (keeps_placeCommand z w c).mode y

/-- An active zone's command placed keeps every list (R51, R52, R65). -/
theorem Held.placeCommand {z : Fin 24} {w : Work} (h : Held w.st) (active : (w.st.zone z).mode ≠ .none) (c : StageCommand) :
    Held (placeCommand z w c).st := by
  have kept := keeps_placeCommand z w c
  have fault := h.noFault_of_active active
  let e : MapEntry := { cmd := c.cmd, status := match (w.st.zone z).map[c.actuator] with | some e => e.status | none => .shed }
  let w1 : Work := w.map fun s => s.setZone z { w.st.zone z with map := (w.st.zone z).map.set c.actuator (some e) }
  have but := h.kept.placingZone active c.actuator e
  have target : Targeted w1.st c.actuator := h.kept.targets c.actuator
  have held : HeldAt _ _ _ (placeOp c.actuator (zoneSource (w.st.zone z) z) c.cmd w1).1.st :=
    HeldBut.placeOp (w := w1) but target (fun _ => trivial)
  have once : w1.st.activation.Nodup := h.kept.zones.once
  have onceAfter : (placeOp c.actuator (zoneSource (w.st.zone z) z) c.cmd w1).1.st.activation.Nodup := held.zones.once
  have result : (Machine.placeCommand z w c).st =
      refreshEntries c.actuator (placeOp c.actuator (zoneSource (w.st.zone z) z) c.cmd w1).1.st := rfl
  obtain ⟨claims, others⟩ := placeOp_claims c.actuator (zoneSource (w.st.zone z) z) c.cmd once
  have mem := (h.kept.zones.active z trivial).2 active
  have placed : PlacedIn w.st (w.st.claimList c.actuator).claims (zoneSource (w.st.zone z) z) c.cmd
      (placeClaim w.st.activation (w.st.claimList c.actuator).claims (zoneSource (w.st.zone z) z) c.cmd).1 :=
    placeClaim_placedIn (h.kept.lists _ trivial) (claimActive_zoneSource mem active c.cmd)
  have noOverride : zoneSource (w.st.zone z) z ≠ .override := by
    rcases zoneSource_isZone (w.st.zone z) z with src | src <;> rw [src] <;> exact fun e => by cases e
  have overrides : SameOverrides w.st (Machine.placeCommand z w c).st := by
    refine ⟨kept.overrides, fun a => ?_⟩
    rw [result, refreshEntries_claimList c.actuator a onceAfter]
    by_cases same : a = c.actuator
    · subst same
      rw [claims]
      exact placed.overridden noOverride
    · rw [others a same]
      rfl
  refine held_of_kept (A := fun b => True ∨ b = c.actuator) ?_ (fun _ => .inl trivial) (overrides.counted h.counted)
    (kept.configFault.trans fault)
  rw [result]
  exact held.refresh

/-! ## Issuing and taking a stage (R62 to R65) -/

theorem Held.active_of_stage {s : State} (h : Held s) {z : Fin 24} {cs : CurrentStage} (stage : (s.zone z).stage = some cs) :
    (s.zone z).mode ≠ .none := h.kept.zones.staged z trivial (by rw [stage]; simp)

theorem Held.placeCommands {z : Fin 24} (l : List StageCommand) {w : Work} (h : Held w.st) (active : (w.st.zone z).mode ≠ .none) :
    Held (l.foldl (Machine.placeCommand z) w).st ∧ ((l.foldl (Machine.placeCommand z) w).st.zone z).mode ≠ .none := by
  induction l generalizing w with
  | nil => exact ⟨h, active⟩
  | cons c l ih => exact ih (h.placeCommand active c) (by rw [keeps_placeCommand_mode]; exact active)

theorem Held.issueStage {z : Fin 24} {w : Work} (h : Held w.st) (active : (w.st.zone z).mode ≠ .none) (cs : CurrentStage)
    (mark : Bool) : Held (issueStage z cs mark w).st := by
  obtain ⟨held, still⟩ := h.placeCommands (w.st.stageOf cs).commands active
  exact held.same (sameClaims_putStage (.inr still) _)

theorem Held.takeStage {z : Fin 24} {w : Work} (h : Held w.st) (active : (w.st.zone z).mode ≠ .none) (cs : CurrentStage) :
    Held (takeStage z cs w).st := by
  unfold Machine.takeStage
  split
  · exact h.issueStage active cs _
  · dsimp only
    split
    · exact h.same (sameClaims_finishStage (.inr active) _)
    · exact h.issueStage active cs _
    · exact h.issueStage active cs _
    · exact h.same (sameClaims_putStage (.inr active) _)

theorem Held.advanceZone (z : Fin 24) {w : Work} (h : Held w.st) : Held (advanceZone z w).st := by
  unfold Machine.advanceZone
  split
  · exact h
  · rename_i cs stage
    have active := h.active_of_stage stage
    split
    · exact h.takeStage active cs
    · exact h.same (sameClaims_finishStage (.inr active) _)

theorem Held.engineLoop (n : Nat) {w : Work} (h : Held w.st) : Held (engineLoop n w).st := by
  induction n generalizing w with
  | zero => exact h
  | succ n ih =>
    have judged : Held ((resumeZones w).map Machine.judgeZones).st :=
      h.same ((sameClaims_resumeZones w).trans (sameClaims_judgeZones _))
    simp only [Machine.engineLoop]
    split
    · exact judged
    · exact ih (judged.advanceZone _)

theorem Held.runEvent {s : State} {f : Work → Work} (h : Held (f (Work.start s)).st) : Held (runEvent s f) :=
  h.engineLoop engineRounds

/-! ## Held and suspended zones, gates (R64, R77 to R79) -/

theorem Held.bringForward (z : Fin 24) {w : Work} (h : Held w.st) : Held (bringForward z w).st := by
  unfold Machine.bringForward
  split
  · exact h
  · rename_i cs stage
    have active := h.active_of_stage stage
    have put : ∀ x, Held ((w.map fun s => s.setZone z { s.zone z with stage := some x }).st) := fun x =>
      h.same (sameClaims_putStage (.inr active) x)
    dsimp only
    split
    · exact h
    · exact h
    · split
      · exact h.issueStage active cs _
      · split
        · exact h.issueStage active cs _
        · split
          · exact h.issueStage active cs _
          · exact put _
    · split
      · exact put _
      · exact put _
    · split
      · exact h.same (sameClaims_expireWindow (.inr active) cs)
      · exact put _

theorem Held.unholdZone (z : Fin 24) {w : Work} (h : Held w.st) : Held (unholdZone w z).st := by
  unfold Machine.unholdZone
  dsimp only
  split
  · have cleared : Held ((w.map fun s => (s.setZone z { w.st.zone z with held := false }).raiseFlags).st) :=
      h.same (sameClaims_setZone_raise rfl rfl .inl)
    split
    · exact cleared
    · exact cleared.bringForward z
  · exact h

theorem Held.unsuspendZone (z : Fin 24) {w : Work} (h : Held w.st) : Held (unsuspendZone w z).st := by
  unfold Machine.unsuspendZone
  dsimp only
  split
  · have cleared : Held ((w.map fun s => (s.setZone z { w.st.zone z with suspended := false }).raiseFlags).st) :=
      h.same (sameClaims_setZone_raise rfl rfl .inl)
    split
    · exact cleared
    · exact cleared.bringForward z
  · exact h

/-- Stand-down, samples, counts, the clock, the store and the ports are no part of the claims. -/
theorem sameClaims_of_fields {s t : State} (activation : t.activation = s.activation) (overrides : t.overrides = s.overrides)
    (plant : t.plant = s.plant) (configFault : t.configFault = s.configFault) (lists : t.lists = s.lists)
    (zones : t.zones = s.zones) : SameClaims s t where
  activation := activation
  overrides := overrides
  plant := plant
  configFault := configFault
  claims a := by simp only [State.claimList, lists]
  target a := by simp only [State.claimList, lists]
  mode z := by simp only [State.zone, zones]
  map z := by simp only [State.zone, zones]
  stage z := by
    have zone : t.zone z = s.zone z := by simp only [State.zone, zones]
    rw [zone]
    exact .inl

theorem Held.releaseStandDown {w : Work} (h : Held w.st) : Held (releaseStandDown w).st :=
  foldl_work_keeps Machine.unholdZone (fun _ z => Held.unholdZone z) _ (h.same (sameClaims_of_fields rfl rfl rfl rfl rfl rfl))

theorem Held.judgeGate (c : Fin 16) (z : Fin 24) {w : Work} (h : Held w.st) : Held (judgeGate c w z).st := by
  unfold Machine.judgeGate
  dsimp only
  split
  · exact h
  · rename_i cs stage
    split
    · split
      · exact h
      · split
        · exact h.issueStage (h.active_of_stage stage) cs _
        · exact h
    · exact h

theorem Held.channelNotice (c : Fin 16) {w : Work} (h : Held w.st) : Held (channelNotice c w).st :=
  foldl_work_keeps _ (fun _ z => Held.judgeGate c z) _ (h.same (sameClaims_handChannel c w))

theorem Held.supplyLowEvent {w : Work} (h : Held w.st) : Held (supplyLowEvent w).st := by
  have low := h.same (sameClaims_foldl_work _ (fun w a => sameClaims_damperEvent a damperSupplyLow w) (List.finRange 64) w)
  unfold Machine.supplyLowEvent
  dsimp only
  rw [Work.map_st]
  exact low.same (sameClaims_foldl _ sameClaims_suspendZone _ _)

theorem Held.supplyOkEvent {w : Work} (h : Held w.st) : Held (supplyOkEvent w).st := by
  have ok := h.same (sameClaims_foldl_work _ (fun w a => sameClaims_damperEvent a damperSupplyOk w) (List.finRange 64) w)
  exact foldl_work_keeps Machine.unsuspendZone (fun _ z => Held.unsuspendZone z) _ ok

theorem Held.stageAct {z : Fin 24} {cs : CurrentStage} {act : Work → Work} {w : Work} (h : Held w.st)
    (stage : (w.st.zone z).stage = some cs) (k : StageAct z cs act) : Held (act w).st := by
  have active := h.active_of_stage stage
  cases k with
  | settle => exact h.same (sameClaims_putStage (.inr active) _)
  | window => exact h.same (sameClaims_expireWindow (.inr active) cs)
  | gateWait => exact h.issueStage active cs true

end Sys2Proof.Machine

end
/-! # The lists at the start and the end of a run (R42, R44, R47, R49) -/

section

namespace Sys2Proof.Machine

/-! ## The Activation List without a zone, and with one more -/

theorem idxOf_filter_lt {l : List (Fin 24)} {z x y : Fin 24} (hx : x ≠ z) (hy : y ≠ z) (lt : l.idxOf x < l.idxOf y)
    (mem : x ∈ l) : (l.filter (fun v => v != z)).idxOf x < (l.filter (fun v => v != z)).idxOf y := by
  induction l with
  | nil => exact absurd mem List.not_mem_nil
  | cons v l ih =>
    by_cases vx : v = x
    · subst vx
      have differs : v ≠ y := by rintro rfl; exact absurd lt (lt_irrefl _)
      have kept : (v :: l).filter (fun u => u != z) = v :: l.filter (fun u => u != z) := by simp [hx]
      rw [kept, List.idxOf_cons_self, List.idxOf_cons_ne _ differs]
      exact Nat.succ_pos _
    · have vy : v ≠ y := by rintro rfl; simp at lt
      rw [List.idxOf_cons_ne _ vx, List.idxOf_cons_ne _ vy] at lt
      have rest := ih (Nat.lt_of_succ_lt_succ lt) ((List.mem_cons.1 mem).resolve_left (Ne.symm vx))
      by_cases vz : v = z
      · simpa [List.filter_cons, vz] using rest
      · have kept : (v :: l).filter (fun u => u != z) = v :: l.filter (fun u => u != z) := by simp [vz]
        rw [kept, List.idxOf_cons_ne _ vx, List.idxOf_cons_ne _ vy]
        exact Nat.succ_lt_succ rest

/-- What rank compares: levels, and within a level the claims' places in the Activation List (R19). -/
theorem outranks_iff (act : List (Fin 24)) (c x : Claim) : outranks act c x = true ↔
    x.src.level < c.src.level ∨ (c.src.level = x.src.level ∧ c.src.age act < x.src.age act) := by
  simp [outranks]

/-- The rank of two claims stays where the places of their zones keep their order. -/
theorem outranks_of_age {act act' : List (Fin 24)} {c x : Claim} (h : outranks act c x = true)
    (age : c.src.level = x.src.level → c.src.age act < x.src.age act → c.src.age act' < x.src.age act') :
    outranks act' c x = true := by
  rw [outranks_iff] at h ⊢
  exact h.imp id fun ⟨level, older⟩ => ⟨level, age level older⟩

/-- A sound list without claims of a zone is sound once that zone has left the Activation List (R19, R47). -/
theorem ListSound.without {s t : State} {cs : List Claim} {z : Fin 24} (h : ListSound s cs)
    (activation : t.activation = s.activation.filter (fun y => y != z))
    (mode : ∀ y, y ≠ z → (t.zone y).mode = (s.zone y).mode)
    (none : ∀ c ∈ cs, c.src ≠ .fire z ∧ c.src ≠ .test z) : ListSound t cs where
  length := h.length
  sources := h.sources
  rank := by
    rw [activation]
    refine h.rank.imp_of_mem fun {c x} c_mem x_mem above => outranks_of_age above fun level older => ?_
    obtain ⟨csrc, ccmd⟩ := c
    obtain ⟨xsrc, xcmd⟩ := x
    have cz := none _ c_mem
    have xz := none _ x_mem
    have ca := h.active _ c_mem
    cases csrc with
    | normal => cases xsrc <;> simp_all [Source.level, Source.age]
    | override => cases xsrc <;> simp_all [Source.level, Source.age]
    | test y =>
      cases xsrc with
      | test v =>
        exact idxOf_filter_lt (fun e => cz.2 (congrArg Source.test e)) (fun e => xz.2 (congrArg Source.test e)) older
          ((ca y).1 rfl).1
      | _ => simp [Source.level] at level
    | fire y =>
      cases xsrc with
      | fire v =>
        exact idxOf_filter_lt (fun e => cz.1 (congrArg Source.fire e)) (fun e => xz.1 (congrArg Source.fire e)) older
          ((ca y).2 rfl).1
      | _ => simp [Source.level] at level
  active c mem y := by
    obtain ⟨noFire, noTest⟩ := none c mem
    obtain ⟨test, fire⟩ := h.active c mem y
    have kept : y ≠ z → y ∈ s.activation → y ∈ t.activation := fun other listed => by
      rw [activation]
      exact List.mem_filter.2 ⟨listed, by simpa using other⟩
    refine ⟨fun src => ?_, fun src => ?_⟩
    · have other : y ≠ z := by rintro rfl; exact noTest src
      exact ⟨kept other (test src).1, (mode y other).trans (test src).2⟩
    · have other : y ≠ z := by rintro rfl; exact noFire src
      exact ⟨kept other (fire src).1, (mode y other).trans (fire src).2⟩

/-- A sound list stays sound where a zone that had no run joins the tail of the Activation List (R42). -/
theorem ListSound.appended {s t : State} {cs : List Claim} {z : Fin 24} (h : ListSound s cs)
    (activation : t.activation = s.activation ++ [z]) (gone : z ∉ s.activation)
    (mode : ∀ y, y ≠ z → (t.zone y).mode = (s.zone y).mode) : ListSound t cs where
  length := h.length
  sources := h.sources
  rank := by
    rw [activation]
    refine h.rank.imp_of_mem fun {c x} c_mem x_mem above => outranks_of_age above fun level older => ?_
    have place : ∀ y ∈ s.activation, (s.activation ++ [z]).idxOf y = s.activation.idxOf y := fun y mem =>
      List.idxOf_append_of_mem mem
    have age : ∀ d ∈ cs, d.src.age (s.activation ++ [z]) = d.src.age s.activation := fun d mem => by
      have active := h.active d mem
      cases src : d.src with
      | test y => exact place y ((active y).1 src).1
      | fire y => exact place y ((active y).2 src).1
      | _ => rfl
    rw [age c c_mem, age x x_mem]
    exact older
  active c mem y := by
    obtain ⟨test, fire⟩ := h.active c mem y
    have kept : y ∈ s.activation → y ∈ t.activation ∧ (t.zone y).mode = (s.zone y).mode := fun listed => by
      rw [activation]
      exact ⟨List.mem_append_left _ listed, mode y (by rintro rfl; exact gone listed)⟩
    exact ⟨fun src => ⟨(kept (test src).1).1, (kept (test src).1).2.trans (test src).2⟩,
      fun src => ⟨(kept (fire src).1).1, (kept (fire src).1).2.trans (fire src).2⟩⟩

/-- A sound list holds no claim of a zone that is not in the Activation List. -/
theorem ListSound.noClaim {s : State} {cs : List Claim} (h : ListSound s cs) {z : Fin 24} (gone : z ∉ s.activation) :
    ∀ c ∈ cs, c.src ≠ .fire z ∧ c.src ≠ .test z := fun c mem =>
  ⟨fun src => gone ((h.active c mem).source (.inl src)).1, fun src => gone ((h.active c mem).source (.inr src)).1⟩

/-! ## The start of a run -/

theorem Held.startZone {s : State} (h : Held s) (fault : s.configFault = false) {z : Fin 24} (idle : (s.zone z).mode = .none)
    {r : ZoneRecord} (active : r.mode ≠ .none) (map : r.map = Vector.replicate 64 none) : Held (startZone z r s) := by
  have gone : z ∉ s.activation := fun mem => (h.kept.zones.active z trivial).1 mem idle
  have own : (Machine.startZone z r s).zone z = r := by
    unfold Machine.startZone
    exact State.setZone_zone_same ..
  have other : ∀ y, y ≠ z → (Machine.startZone z r s).zone y = s.zone y := fun y differs => by
    unfold Machine.startZone
    exact State.setZone_zone_other _ r differs
  have mode : ∀ y, y ≠ z → ((Machine.startZone z r s).zone y).mode = (s.zone y).mode := fun y differs => by
    rw [other y differs]
  have activation : (Machine.startZone z r s).activation = s.activation ++ [z] := rfl
  have lists : ∀ a, (Machine.startZone z r s).claimList a = s.claimList a := fun _ => rfl
  have zones : ZonesKept (fun _ => True) (Machine.startZone z r s) := by
    refine ⟨?_, fun y _ => ?_, fun y hy => absurd trivial hy, fun y _ => ?_⟩
    · rw [activation]
      exact List.nodup_append.2 ⟨h.kept.zones.once, List.nodup_singleton z, fun x hx y hy => by
        rintro rfl
        obtain rfl := List.mem_singleton.1 hy
        exact gone hx⟩
    · rw [activation, List.mem_append, List.mem_singleton]
      by_cases same : y = z
      · subst same; rw [own]; simp [active]
      · rw [other y same]; simp [same, h.kept.zones.active y trivial]
    · by_cases same : y = z
      · subst same; rw [own]; exact fun _ => active
      · rw [other y same]; exact h.kept.zones.staged y trivial
  refine held_of_kept (A := fun _ => True) ⟨zones, fun a _ => ?_, h.kept.targets, fun y a _ => ?_⟩ (fun _ => trivial)
    (h.counted.trans rfl) fault
  · rw [lists]
    exact (h.kept.lists a trivial).appended activation gone mode
  · by_cases same : y = z
    · subst same
      unfold EntryAgrees
      have entry : ((Machine.startZone y r s).zone y).map[a] = none := by rw [own, map]; simp
      rw [entry, lists]
      exact (h.kept.lists a trivial).noClaim gone
    · exact (h.kept.maps y a trivial).congr (mode y same) (by rw [other y same]) rfl

/-! ## The end of a run (R47) -/

/-- The part while a zone's run ends: the zone has left the Activation List, the lists of some actuators no longer hold its
claims, and every other list is as it was. -/
structure Ending (s : State) (z : Fin 24) (done : Fin 64 → Prop) (u : State) : Prop where
  kept : Kept done (fun y => y ≠ z) u
  activation : u.activation = s.activation.filter (fun y => y != z)
  mode : ∀ y, (u.zone y).mode = (s.zone y).mode
  map : (u.zone z).map = (s.zone z).map
  rest : ∀ b, ¬ done b → (u.claimList b).claims = (s.claimList b).claims
  overrides : SameOverrides s u
  fault : u.configFault = s.configFault

theorem Ending.congr {s u : State} {z : Fin 24} {done done' : Fin 64 → Prop} (h : Ending s z done u)
    (same : ∀ a, done' a ↔ done a) : Ending s z done' u := by
  obtain rfl : done' = done := funext fun a => propext (same a)
  exact h

/-- The run begins to end: the zone is taken out of the Activation List (R47 step 1). -/
theorem ending_start {s : State} (h : Held s) (z : Fin 24) :
    Ending s z (fun _ => False) { s with activation := s.activation.filter (fun y => y != z) } where
  kept := by
    refine ⟨⟨h.kept.zones.once.filter _, fun y other => ?_, fun y same => ?_, fun y _ => h.kept.zones.staged y trivial⟩,
      fun _ no => no.elim, h.kept.targets, fun y a _ => h.kept.maps y a trivial⟩
    · have listed := h.kept.zones.active y trivial
      simp only [List.mem_filter, bne_iff_ne, ne_eq, other, not_false_eq_true, and_true]
      exact listed
    · simp only [not_not] at same
      simp [same]
  activation := rfl
  mode _ := rfl
  map := rfl
  rest _ _ := rfl
  overrides := ⟨rfl, fun _ => rfl⟩
  fault := rfl

section

variable {s : State} (h : Held s) {z : Fin 24} {done : Fin 64 → Prop}
include h

/-- What the end of a run finds in a list that still holds what it held: with the zone's claims taken out it is sound, and it fits
every other zone's map. -/
theorem Ending.heldBut {u : State} (e : Ending s z done u) {b : Fin 64} (todo : ¬ done b) {cs : List Claim}
    (sub : cs.Sublist (u.claimList b).claims) (none : ∀ c ∈ cs, c.src ≠ .fire z ∧ c.src ≠ .test z) :
    HeldBut done (fun y => y ≠ z) b cs u := by
  have claims := e.rest b todo
  have old := h.kept.lists b trivial
  have listed : ∀ y, y ≠ z → (y ∈ u.activation ↔ y ∈ s.activation) := fun y other => by
    rw [e.activation, List.mem_filter]
    simp [other]
  refine ⟨e.kept.zones, fun a ha _ => e.kept.lists a ha, fun a _ => e.kept.targets a, fun y a hy _ => e.kept.maps y a hy,
    (old.sublist (claims ▸ sub)).without e.activation (fun y _ => e.mode y) none, fun y hy => ?_, fun y x hy gone entry => ?_⟩
  · have fits := (e.kept.maps y b hy).fits (by rw [claims]; exact old.sources)
    unfold Fits at fits ⊢
    split
    · rename_i noEntry
      rw [noEntry] at fits
      exact fun c mem => fits c (sub.subset mem)
    · rename_i x entry
      rw [entry] at fits
      exact fun c mem => fits c (sub.subset mem)
  · have agrees := e.kept.maps y b hy
    unfold EntryAgrees at agrees
    rw [entry] at agrees
    dsimp only at agrees
    by_contra standing
    rw [if_neg standing] at agrees
    obtain ⟨c, found, -⟩ := agrees
    obtain ⟨mem, src⟩ := claimOf_mem found
    rw [claims] at mem
    have active := ((old.active c mem).source (src ▸ zoneSource_isZone (u.zone y) y)).1
    exact gone ((listed y hy).2 active)

/-- A list that held no claim of the zone is sound without a change. -/
theorem Ending.skip {u : State} (e : Ending s z done u) {b : Fin 64} (todo : ¬ done b)
    (none : ∀ c ∈ (u.claimList b).claims, c.src ≠ .fire z ∧ c.src ≠ .test z) :
    Ending s z (fun a => done a ∨ a = b) u where
  kept := by
    refine ⟨e.kept.zones, fun a ha => ?_, e.kept.targets, e.kept.maps⟩
    rcases ha with ha | rfl
    · exact e.kept.lists a ha
    · exact (e.heldBut h todo (List.Sublist.refl _) none).list
  activation := e.activation
  mode := e.mode
  map := e.map
  rest a ha := e.rest a (fun d => ha (.inl d))
  overrides := e.overrides
  fault := e.fault

end

/-- Every claim of a zone in a list that was sound under the zone's run is of the source of its mode. -/
theorem ListSound.ofZone {s u : State} {cs : List Claim} (h : ListSound s cs) {z : Fin 24}
    (mode : (u.zone z).mode = (s.zone z).mode)
    {c : Claim} (mem : c ∈ cs) (ofZone : c.src = .fire z ∨ c.src = .test z) : c.src = zoneSource (u.zone z) z := by
  have same : zoneSource (u.zone z) z = zoneSource (s.zone z) z := by simp only [zoneSource, mode]
  rw [same]
  exact ((h.active c mem).source ofZone).2

/-- The zone's record stands through the end of an operation on a list, for it is in no map that is judged anew. -/
theorem endListOp_map {a : Fin 64} {cs : List Claim} {m : Bool} {w : Work} {z : Fin 24} (once : w.st.activation.Nodup)
    (gone : z ∉ w.st.activation) : ((endListOp a cs m w).st.zone z).map = (w.st.zone z).map := by
  obtain ⟨u, same, eq⟩ := endListOp_eq a cs m w
  obtain ⟨-, zones⟩ := refreshEntries_effect a (s := u) (same.activation ▸ once)
  have goneU : z ∉ u.activation := by rw [same.activation]; exact gone
  rw [eq, zones, if_neg goneU, same.map]
  rfl

theorem Ending.withdrawEntry {s : State} (h : Held s) {z : Fin 24} {done : Fin 64 → Prop} {w : Work} (e : Ending s z done w.st)
    {b : Fin 64} (todo : ¬ done b) : Ending s z (fun a => done a ∨ a = b) (withdrawEntry z w b).st := by
  have claims := e.rest b todo
  have old := h.kept.lists b trivial
  have agrees := (h.kept.maps z b trivial).congr (t := w.st) (e.mode z) (by rw [e.map]) claims
  have ofZone : ∀ c ∈ (w.st.claimList b).claims, (c.src = .fire z ∨ c.src = .test z) → c.src = zoneSource (w.st.zone z) z :=
    fun c mem => (claims ▸ old).ofZone (e.mode z) mem
  have gone : z ∉ w.st.activation := e.kept.zones.gone z (fun other => other rfl)
  unfold Machine.withdrawEntry
  unfold EntryAgrees at agrees
  dsimp only
  split
  · rename_i noEntry
    rw [noEntry] at agrees
    exact e.skip h todo agrees
  · rename_i x entry
    rw [entry] at agrees
    dsimp only at agrees
    split
    · rename_i shed
      rw [if_pos shed] at agrees
      exact e.skip h todo fun c mem => ⟨fun src => agrees c mem (ofZone c mem (.inl src)),
        fun src => agrees c mem (ofZone c mem (.inr src))⟩
    · rename_i standing
      rw [if_neg standing] at agrees
      obtain ⟨c, found, -⟩ := agrees
      have sub := removeClaim_sublist (w.st.claimList b).claims (zoneSource (w.st.zone z) z)
      have none : ∀ c ∈ removeClaim (w.st.claimList b).claims (zoneSource (w.st.zone z) z),
          c.src ≠ .fire z ∧ c.src ≠ .test z := fun c mem => by
        obtain ⟨mem, other⟩ := mem_removeClaim.1 mem
        exact ⟨fun src => other (ofZone c mem (.inl src)), fun src => other (ofZone c mem (.inr src))⟩
      have but := e.heldBut h todo sub none
      obtain ⟨offered, overrides⟩ := but.reoffer fun y mem x entry shed c c_mem =>
        shedAbsent_of_agrees (fun y mem => e.kept.maps y b (by rintro rfl; exact gone mem)) y mem x entry shed c
          (sub.subset c_mem)
      have noOverride : zoneSource (w.st.zone z) z ≠ .override := by
        rcases zoneSource_isZone (w.st.zone z) z with src | src <;> rw [src] <;> exact fun e => by cases e
      have keeps := keeps_endListOp b (reoffer w.st b (removeClaim (w.st.claimList b).claims (zoneSource (w.st.zone z) z)))
        (w.st.claimList b).normalShed w
      have left := endListOp_claims b (reoffer w.st b (removeClaim (w.st.claimList b).claims (zoneSource (w.st.zone z) z)))
        (w.st.claimList b).normalShed e.kept.zones.once
      have map := endListOp_map (a := b)
        (cs := reoffer w.st b (removeClaim (w.st.claimList b).claims (zoneSource (w.st.zone z) z)))
        (m := (w.st.claimList b).normalShed) e.kept.zones.once gone
      have ended := offered.endListOp (w.st.claimList b).normalShed
      rw [withdrawOp_eq (by rw [found]; simp)]
      refine ⟨ended, keeps.activation.trans e.activation, fun y => (keeps.mode y).trans (e.mode y), map.trans e.map,
        fun a ha => ?_, e.overrides.trans ⟨keeps.overrides, fun a => ?_⟩, keeps.configFault.trans e.fault⟩
      · rw [left.2 a (fun same => ha (.inr same))]
        exact e.rest a (fun d => ha (.inl d))
      · by_cases same : a = b
        · subst same
          rw [left.1, overrides, removeClaim_overridden noOverride]
        · rw [left.2 a same]

theorem Ending.withdrawEntries {s : State} (h : Held s) {z : Fin 24} (l : List (Fin 64)) (once : l.Nodup)
    {done : Fin 64 → Prop} {w : Work} (e : Ending s z done w.st) (todo : ∀ b ∈ l, ¬ done b) :
    Ending s z (fun a => done a ∨ a ∈ l) (l.foldl (Machine.withdrawEntry z) w).st := by
  induction l generalizing done w with
  | nil => exact e.congr (fun a => by simp)
  | cons b l ih =>
    obtain ⟨notIn, once⟩ := List.nodup_cons.1 once
    have first := e.withdrawEntry h (todo b (List.mem_cons_self ..))
    refine (ih once first fun a mem d => ?_).congr fun a => ?_
    · rcases d with d | rfl
      · exact todo a (List.mem_cons_of_mem _ mem) d
      · exact notIn mem
    · simp [or_assoc]

/-- The end of a run keeps every list, and takes its zone alone out of the Activation List (R47). -/
theorem Held.endInstance {w : Work} (h : Held w.st) {z : Fin 24} (active : (w.st.zone z).mode ≠ .none) (why : EndReason) :
    Held (endInstance z why w).st ∧ ((endInstance z why w).st.zone z).mode = .none ∧
      (∀ y, y ≠ z → ((endInstance z why w).st.zone y).mode = (w.st.zone y).mode) ∧
      (endInstance z why w).st.configFault = w.st.configFault := by
  have fault := h.noFault_of_active active
  have ending : Ending w.st z (fun _ => True)
      ((List.finRange 64).foldl (Machine.withdrawEntry z)
        (w.map fun s => { s with activation := s.activation.filter (fun y => y != z) })).st :=
    ((ending_start h z).withdrawEntries (w := w.map fun s => { s with activation := s.activation.filter (fun y => y != z) })
      h (List.finRange 64) (List.nodup_finRange 64) (fun _ _ => id)).congr (fun a => by simp)
  unfold Machine.endInstance
  dsimp only
  rw [Work.map_st]
  generalize ((List.finRange 64).foldl (Machine.withdrawEntry z)
    (w.map fun s => { s with activation := s.activation.filter (fun y => y != z) })).st = u at ending
  obtain ⟨kept, activation, mode, map, rest, overrides, sameFault⟩ := ending
  have gone : z ∉ u.activation := kept.zones.gone z (fun other => other rfl)
  have own : ∀ r, ((u.setZone z r).raiseFlags).zone z = r := fun r => State.setZone_zone_same ..
  have other : ∀ r y, y ≠ z → ((u.setZone z r).raiseFlags).zone y = u.zone y := fun r y differs =>
    State.setZone_zone_other u r differs
  refine ⟨?_, by rw [own]; rfl, fun y differs => by rw [other _ y differs, mode], sameFault⟩
  refine held_of_kept (A := fun _ => True) ⟨⟨kept.zones.once, fun y _ => ?_, fun y hy => absurd trivial hy, fun y _ => ?_⟩,
    fun a _ => ?_, kept.targets, fun y a _ => ?_⟩ (fun _ => trivial) (overrides.counted h.counted) (sameFault.trans fault)
  · by_cases same : y = z
    · subst same
      rw [own]
      exact ⟨fun mem => absurd mem gone, fun no => absurd rfl no⟩
    · rw [other _ y same]
      exact kept.zones.active y same
  · by_cases same : y = z
    · subst same
      rw [own]
      exact fun no => absurd rfl no
    · rw [other _ y same]
      exact kept.zones.staged y same
  · have sound := kept.lists a trivial
    exact ⟨sound.length, sound.sources, sound.rank, fun c mem y => by
      obtain ⟨noFire, noTest⟩ := sound.noClaim gone c mem
      by_cases same : y = z
      · subst same
        exact ⟨fun src => absurd src noTest, fun src => absurd src noFire⟩
      · rw [other _ y same]
        exact sound.active c mem y⟩
  · by_cases same : y = z
    · subst same
      have entry : (((u.setZone y (endedRecord u (u.zone y) why)).raiseFlags).zone y).map[a] = none := by
        rw [own]
        simp [endedRecord, zoneAtRest]
      unfold EntryAgrees
      rw [entry]
      exact (kept.lists a trivial).noClaim gone
    · exact (kept.maps y a same).congr (by rw [other _ y same]) (by rw [other _ y same]) rfl

end Sys2Proof.Machine

end
/-! # The lists through overrides, applications and restarts (R13, R37, R39, R42, R151, R155, R187) -/

section

namespace Sys2Proof.Machine

/-! ## A part with every list empty -/

/-- No zone is active, and no map holds an entry that is not SHED. -/
structure Idle (s : State) : Prop where
  activation : s.activation = []
  mode : ∀ z, (s.zone z).mode = .none
  stage : ∀ z, (s.zone z).stage = none
  shed : ∀ (z : Fin 24) (a : Fin 64) (e : MapEntry), (s.zone z).map[a] = some e → e.status = .shed

theorem overrideLists_empty {s : State} (empty : ∀ a, (s.claimList a).claims = []) : overrideLists s = 0 := by
  unfold overrideLists
  rw [List.countP_eq_zero]
  intro a _
  rw [empty a]
  simp [claimOf]

theorem held_of_empty {s : State} (idle : Idle s) (overrides : s.overrides = 0)
    (empty : ∀ a, (s.claimList a).claims = [] ∧ (s.claimList a).target = restCommand (s.record a)) : Held s where
  kept := by
    obtain ⟨activation, mode, stage, shed⟩ := idle
    refine ⟨⟨by rw [activation]; exact List.nodup_nil, fun z _ => ?_, fun z no => absurd trivial no, fun z _ staged => ?_⟩,
      fun a _ => ?_, fun a => ?_, fun z a _ => ?_⟩
    · rw [activation, mode]
      simp
    · exact absurd (stage z) staged
    · rw [(empty a).1]
      exact listSound_nil s
    · unfold Targeted
      rw [(empty a).1, (empty a).2]
      rfl
    · unfold EntryAgrees
      rw [(empty a).1]
      split
      · exact fun c mem => absurd mem List.not_mem_nil
      · rename_i e entry
        rw [if_pos (shed z a e entry)]
        exact fun c mem => absurd mem List.not_mem_nil
  counted := by rw [overrides, overrideLists_empty fun a => (empty a).1]
  fault _ := ⟨idle.activation, fun a => (empty a).1⟩

/-- A part with no zone active is idle, its maps all SHED. -/
theorem Held.idle {s : State} (h : Held s) (activation : s.activation = []) : Idle s where
  activation := activation
  mode z := by
    by_contra active
    have mem := (h.kept.zones.active z trivial).2 active
    rw [activation] at mem
    exact absurd mem List.not_mem_nil
  stage z := by
    by_contra staged
    have mem := (h.kept.zones.active z trivial).2 (h.kept.zones.staged z trivial staged)
    rw [activation] at mem
    exact absurd mem List.not_mem_nil
  shed z a e entry := by
    have gone : z ∉ s.activation := by rw [activation]; exact List.not_mem_nil
    exact (h.kept.maps z a trivial).idle gone (h.kept.lists a trivial).active entry

theorem Idle.congr {s t : State} (h : Idle s) (activation : t.activation = s.activation) (zones : t.zones = s.zones) :
    Idle t := by
  have zone : ∀ z, t.zone z = s.zone z := fun z => by simp only [State.zone, zones]
  obtain ⟨active, mode, stage, shed⟩ := h
  refine ⟨activation.trans active, fun z => ?_, fun z => ?_, fun z a e => ?_⟩
  · rw [zone, mode]
  · rw [zone, stage]
  · rw [zone]; exact shed z a e

/-! ## An application (R39, R187) -/

theorem Held.applyPlant {p : PlantImage} {w : Work} (h : Held w.st) (activation : w.st.activation = [])
    (overrides : w.st.overrides = 0) : Held (applyPlant p w).st := by
  obtain ⟨-, -, lists⟩ := applyPlant_inForce p w
  obtain ⟨⟨ds, ps, frame⟩, -⟩ := applyPlant_effect p w
  refine held_of_empty ((h.idle activation).congr ?_ ?_) ?_ fun a => ⟨(lists a).1, (lists a).2.1⟩
  · rw [frame]; simp only [replant, underPlant]
  · rw [frame]; simp only [replant, underPlant]
  · rw [frame]; simp only [replant, underPlant, overrides]

theorem Held.applySector {sec : Sector} {w : Work} (h : Held w.st) (may : w.st.mayApply = true) :
    Held (applySector sec w).st := by
  obtain ⟨activation, overrides⟩ := (mayApply_iff _).1 may
  have same : SameClaims w.st (w.st.setActivation sec .none) := sameClaims_of_fields rfl rfl rfl rfl rfl rfl
  cases sec with
  | identity => exact h.same (sameClaims_of_fields rfl rfl rfl rfl rfl rfl)
  | sequences => exact h.same (sameClaims_of_fields rfl rfl rfl rfl rfl rfl)
  | plant =>
    exact Held.applyPlant (w := w.map fun s => s.setActivation .plant .none) (h.same same) activation overrides

theorem Held.applyIfPending {sec : Sector} {w : Work} (h : Held w.st) (may : w.st.mayApply = true) :
    Held (applyIfPending sec w).st := by
  unfold Machine.applyIfPending
  split
  · exact h.applySector may
  · exact h

theorem applyIfPending_mayApply (sec : Sector) (w : Work) : (applyIfPending sec w).st.mayApply = w.st.mayApply := by
  simp only [State.mayApply, applyIfPending_activation, applyIfPending_overrides]

theorem Held.storeEmptied {w : Work} (h : Held w.st) : Held (storeEmptied w).st := by
  unfold Machine.storeEmptied
  split
  · rename_i may
    exact (h.applyIfPending may).applyIfPending (by rw [applyIfPending_mayApply]; exact may)
  · exact h

/-! ## CONFIG-FAULT (R13, R189) -/

/-- In CONFIG-FAULT no zone is active and no override stands. -/
theorem Held.inFault {s : State} (h : Held s) (fault : s.configFault = true) : Idle s ∧ s.overrides = 0 := by
  obtain ⟨activation, empty⟩ := h.fault fault
  exact ⟨h.idle activation, by rw [h.counted, overrideLists_empty empty]⟩

theorem Held.followMarks {s : State} (h : Held s) (fault : s.configFault = true) : Held (followMarks s) := by
  obtain ⟨idle, overrides⟩ := h.inFault fault
  refine held_of_empty (idle.congr rfl rfl) overrides fun a => ?_
  obtain ⟨claims, target, -⟩ := emptyLists_claimList (Machine.followMarks s) a rfl
  exact ⟨claims, target⟩

theorem Held.endConfigFault {s : State} (h : Held s) (fault : s.configFault = true) : Held (endConfigFault s) := by
  obtain ⟨idle, overrides⟩ := h.inFault fault
  obtain ⟨-, -, lists⟩ := endConfigFault_inForce s
  rw [endConfigFault_eq] at lists ⊢
  exact held_of_empty (idle.congr rfl rfl) overrides fun a => ⟨(lists a).1, (lists a).2.1⟩

theorem Held.startWrite {s : State} (h : Held s) (sec : Sector) (img : Image) : Held (startWrite sec img s) := by
  have begun : Held { s with store := s.store.setSector sec ((s.store.sector sec).beginWrite img) } :=
    h.same (sameClaims_of_fields rfl rfl rfl rfl rfl rfl)
  by_cases identity : sec = .identity
  · subst identity
    rw [startWrite_identity]
    exact begun
  · by_cases fault : s.configFault = true
    · rw [startWrite_fault fault identity]
      exact begun.followMarks fault
    · rw [startWrite_noFault (by simpa using fault)]
      exact begun

theorem Held.completeWrite {s : State} (h : Held s) : Held (completeWrite s) := by
  have stored : ∀ sec, Held (written sec s) := fun sec => h.same (sameClaims_of_fields rfl rfl rfl rfl rfl rfl)
  have act : ∀ sec x, Held ((written sec s).setActivation sec x) := fun sec x =>
    (stored sec).same (sameClaims_of_fields rfl rfl rfl rfl rfl rfl)
  obtain e | ⟨-, e⟩ | ⟨sec, -, -, ⟨fault, e⟩ | ⟨fault, e⟩ | ⟨-, may, e⟩ | ⟨-, e⟩⟩ := completeWrite_cases s
  · rwa [e]
  · rw [e]
    exact (stored .identity).same (sameClaims_of_fields rfl rfl rfl rfl rfl rfl)
  · rw [e]
    exact (stored sec).endConfigFault fault
  · rw [e]
    exact (act sec .none).followMarks fault
  · rw [e]
    exact Held.applySector (w := Work.start (written sec s)) (stored sec) may
  · rw [e]
    exact act sec .pending

/-! ## Power and restarts (R12, R14, R15, R37) -/

theorem idle_reset : Idle State.reset where
  activation := rfl
  mode z := by simp [State.reset, State.zone, zoneAtRest]
  stage z := by simp [State.reset, State.zone, zoneAtRest]
  shed z a e entry := by simp [State.reset, State.zone, zoneAtRest] at entry

theorem held_losePower (s : State) : Held (losePower s) := by
  refine held_of_empty (idle_reset.congr rfl rfl) rfl fun a => ?_
  simp [losePower, loseWorking, State.claimList, State.record, State.reset, restCommand]

theorem held_coldStart (cause : StartCause) (s : State) : Held (coldStart cause s) := by
  rw [coldStart_eq]
  refine held_of_empty (idle_reset.congr rfl rfl) rfl fun a => ?_
  obtain ⟨claims, target, -⟩ := emptyLists_claimList (loadedState cause s) a rfl
  exact ⟨claims, target⟩

theorem Held.beginWarmRestart {s : State} (h : Held s) (cause : StartCause) : Held (beginWarmRestart cause s) := by
  obtain ⟨-, e⟩ | ⟨-, e⟩ := beginWarmRestart_cases cause s
  · rw [e]
    exact h.same (sameClaims_of_fields rfl rfl rfl rfl rfl rfl)
  · rw [e]
    exact held_coldStart _ s

theorem Held.startWarmRestart {s : State} (h : Held s) (cause : WarmCause) : Held (startWarmRestart cause s) := by
  obtain e | ⟨why, e⟩ := startWarmRestart_cases cause s
  · rwa [e]
  · rw [e]
    exact h.beginWarmRestart why

/-- The work of the end of a warm restart leaves the claims and the maps (R59). -/
theorem sameClaims_restartEndWork (s : State) : SameClaims s (restartEndWork s).st := by
  obtain ⟨zs, rested, zones⟩ := restartEndWork_rested s
  obtain ⟨ds, ps, frame⟩ := rested.frame
  have zone : ∀ z, ∃ st, (restartEndWork s).st.zone z = { s.zone z with stage := st } ∧
      (st ≠ none → (s.zone z).stage ≠ none) := fun z => by
    obtain ⟨st, eq, still, runs⟩ := reentered_zone s z
    refine ⟨st, (zones z).trans eq, fun some none => some ?_⟩
    by_cases running : (s.zone z).phase = .running
    · exact (runs running).1.2 none
    · rw [still running, none]
  have mode : ∀ z, ((restartEndWork s).st.zone z).mode = (s.zone z).mode := fun z => by
    obtain ⟨st, eq, -⟩ := zone z; rw [eq]
  have map : ∀ z, ((restartEndWork s).st.zone z).map = (s.zone z).map := fun z => by
    obtain ⟨st, eq, -⟩ := zone z; rw [eq]
  have stage : ∀ z, ((restartEndWork s).st.zone z).stage ≠ none → (s.zone z).stage ≠ none := fun z => by
    obtain ⟨st, eq, some⟩ := zone z; rw [eq]; exact some
  refine ⟨?_, ?_, ?_, ?_, fun a => ?_, fun a => ?_, mode, map, fun z some => .inl (stage z some)⟩
  all_goals rw [frame]; rfl

theorem Held.endWarmRestart {s : State} (h : Held s) : Held (endWarmRestart s) := by
  rw [endWarmRestart_eq]
  exact (h.same (sameClaims_restartEndWork s)).engineLoop engineRounds

/-! ## Overrides (R151 to R155) -/

/-- The override count through a change in one list. -/
theorem overrideLists_one {s t : State} {a : Fin 64} (others : ∀ b, b ≠ a → (t.claimList b).claims = (s.claimList b).claims) :
    overrideLists t + (if (claimOf (s.claimList a).claims .override).isSome then 1 else 0) =
      overrideLists s + if (claimOf (t.claimList a).claims .override).isSome then 1 else 0 := by
  have count : ∀ l : List (Fin 64), l.Nodup →
      l.countP (fun b => (claimOf (t.claimList b).claims .override).isSome) +
          (if a ∈ l ∧ (claimOf (s.claimList a).claims .override).isSome = true then 1 else 0) =
        l.countP (fun b => (claimOf (s.claimList b).claims .override).isSome) +
          if a ∈ l ∧ (claimOf (t.claimList a).claims .override).isSome = true then 1 else 0 := by
    intro l once
    induction l with
    | nil => simp
    | cons b l ih =>
      obtain ⟨notIn, once⟩ := List.nodup_cons.1 once
      have rest := ih once
      rw [List.countP_cons, List.countP_cons]
      by_cases same : b = a
      · subst same
        simp only [notIn, false_and, if_false, Nat.add_zero] at rest
        simp only [List.mem_cons_self, true_and]
        omega
      · have notHead : a ≠ b := Ne.symm same
        simp only [List.mem_cons, notHead, false_or]
        rw [others b same]
        omega
  have all := count (List.finRange 64) (List.nodup_finRange 64)
  simpa [overrideLists] using all

theorem noZone_override (z : Fin 24) : Source.override ≠ .fire z ∧ Source.override ≠ .test z :=
  ⟨nofun, nofun⟩

theorem noZone_normal (z : Fin 24) : Source.normal ≠ .fire z ∧ Source.normal ≠ .test z :=
  ⟨nofun, nofun⟩

/-- What has no part in the lists but the override count. -/
theorem Kept.withOverrides {A : Fin 64 → Prop} {Z : Fin 24 → Prop} {s : State} (h : Kept A Z s) (n : Nat) :
    Kept A Z { s with overrides := n } where
  zones := ⟨h.zones.once, h.zones.active, h.zones.gone, h.zones.staged⟩
  lists a ha := (h.lists a ha).congr rfl (fun _ => rfl)
  targets := h.targets
  maps z a hz := (h.maps z a hz).congr rfl rfl rfl

theorem Held.placeOverride {w : Work} (h : Held w.st) (fault : w.st.configFault = false) (a : Fin 64) (cmd : Command) :
    Held (placeOverride a cmd w).1.st := by
  have kept := h.kept.placeOp a (src := .override) (cmd := cmd) noZone_override
  have keeps := keeps_placeOp a .override cmd w
  obtain ⟨claims, others⟩ := placeOp_claims a .override cmd h.kept.zones.once
  obtain ⟨placing, -⟩ := placeOp_cases a .override cmd w
  obtain ⟨standing, inserted⟩ := placeClaim_override w.st.activation (w.st.claimList a).claims cmd
  have count := overrideLists_one others
  rw [claims, if_pos standing] at count
  refine held_of_kept (A := fun _ => True) (kept.withOverrides _) (fun _ => trivial) ?_ (keeps.configFault.trans fault)
  have after : overrideLists (Machine.placeOverride a cmd w).1.st = overrideLists (placeOp a .override cmd w).1.st := rfl
  change (placeOp a .override cmd w).1.st.overrides + (if (placeOp a .override cmd w).2.inserted then 1 else 0) =
    overrideLists (Machine.placeOverride a cmd w).1.st
  rw [after, keeps.overrides, h.counted, placing, inserted]
  by_cases held : (claimOf (w.st.claimList a).claims .override).isSome = true
  · rw [if_pos held] at count
    rw [held, Bool.not_true, if_neg Bool.false_ne_true]
    omega
  · rw [if_neg held] at count
    rw [Bool.not_eq_true] at held
    rw [held, Bool.not_false, if_pos rfl]
    omega

theorem removeClaim_notOverridden (cs : List Claim) : (claimOf (removeClaim cs .override) .override).isSome = false := by
  rw [claimOf_removeClaim]
  rfl

theorem Held.releaseOverride {w : Work} (h : Held w.st) {a : Fin 64} (standing : w.st.overridden a = true) :
    Held ((withdrawOp a .override w).map fun s => { s with overrides := s.overrides - 1 }).st := by
  obtain ⟨kept, others, gone⟩ := h.kept.withdrawOp a .override
  rw [removeClaim_notOverridden] at gone
  have keeps := keeps_withdrawOp a .override w
  have stands : (claimOf (w.st.claimList a).claims .override).isSome = true := standing
  obtain ⟨c, mem, -⟩ := (claimOf_isSome_iff _ _).1 stands
  have fault := h.noFault_of_claim mem
  have count := overrideLists_one others
  rw [gone, if_pos stands, if_neg (by simp)] at count
  rw [Work.map_st]
  refine held_of_kept (A := fun _ => True) (kept.withOverrides _) (fun _ => trivial) ?_ (keeps.configFault.trans fault)
  have after : overrideLists { (withdrawOp a .override w).st with overrides := (withdrawOp a .override w).st.overrides - 1 } =
      overrideLists (withdrawOp a .override w).st := rfl
  rw [after]
  dsimp only
  rw [keeps.overrides, h.counted]
  omega

theorem Held.releaseOne {w : Work} (h : Held w.st) {a : Fin 64} (standing : w.st.overridden a = true) :
    Held (releaseOne a w).st := by
  unfold Machine.releaseOne
  dsimp only
  split
  · exact (h.releaseOverride standing).storeEmptied
  · exact h.releaseOverride standing

/-- Every OVERRIDE claim of a list of actuators is withdrawn, and none is placed (R154). -/
theorem Kept.withdrawOverrides (l : List (Fin 64)) {w : Work} (h : Kept (fun _ => True) (fun _ => True) w.st) :
    Kept (fun _ => True) (fun _ => True) (l.foldl (fun w a => Machine.withdrawOp a .override w) w).st ∧
      ∀ b, (l.foldl (fun w a => Machine.withdrawOp a .override w) w).st.overridden b = true →
        w.st.overridden b = true ∧ b ∉ l := by
  induction l generalizing w with
  | nil => exact ⟨h, fun b standing => ⟨standing, List.not_mem_nil⟩⟩
  | cons a l ih =>
    obtain ⟨kept, others, gone⟩ := h.withdrawOp a .override
    rw [removeClaim_notOverridden] at gone
    obtain ⟨all, left⟩ := ih kept
    refine ⟨all, fun b standing => ?_⟩
    obtain ⟨before, notIn⟩ := left b standing
    have other : b ≠ a := by
      rintro rfl
      exact absurd (gone.symm.trans before) (by simp)
    unfold State.overridden at before ⊢
    rw [others b other] at before
    exact ⟨before, fun mem => (List.mem_cons.1 mem).elim other notIn⟩

theorem Held.releaseAll {w : Work} (h : Held w.st) (fault : w.st.configFault = false) :
    Held (releaseAll w.st.overriddenLists w).st := by
  obtain ⟨kept, left⟩ := h.kept.withdrawOverrides w.st.overriddenLists
  have keeps : Keeps w.st (w.st.overriddenLists.foldl (fun w a => withdrawOp a .override w) w).st :=
    keeps_foldl_work _ (fun w a => keeps_withdrawOp a .override w) _ w
  unfold Machine.releaseAll
  dsimp only
  refine Held.storeEmptied ?_
  rw [Work.map_st]
  generalize (w.st.overriddenLists.foldl (fun w a => withdrawOp a .override w) w).st = u at kept left keeps
  refine held_of_kept (A := fun _ => True) (kept.withOverrides 0) (fun _ => trivial) ?_ (keeps.configFault.trans fault)
  have none : overrideLists u = 0 := by
    unfold overrideLists
    rw [List.countP_eq_zero]
    intro b _ standing
    obtain ⟨before, notIn⟩ := left b standing
    exact notIn (List.mem_filter.2 ⟨List.mem_finRange b, before⟩)
  exact none.symm

end Sys2Proof.Machine

end
/-! # Every step keeps the claim lists sound (O9) -/

section

namespace Sys2Proof.Machine

/-! ## The invariant in the obligation's terms -/

theorem held_of_sound {s : State} (lists : ListsSound s) (zones : ZonesSound s) : Held s := by
  obtain ⟨list, maps, counted, fault⟩ := lists
  obtain ⟨records, once, listed, -, -⟩ := zones
  refine ⟨⟨⟨once, fun z _ => listed z, fun z no => absurd trivial no, fun z _ staged none => ?_⟩, fun a _ => ?_, fun a => ?_,
    fun z a _ => maps z a⟩, counted, fault⟩
  · obtain ⟨-, stage, -⟩ := records z
    exact staged (stage.1 none)
  · obtain ⟨length, sources, rank, active, -⟩ := list a
    exact ⟨length, sources, rank, active⟩
  · obtain ⟨-, -, -, -, target⟩ := list a
    exact target

theorem Held.sound {s : State} (h : Held s) : ListsSound s := by
  refine ⟨fun a => ?_, fun z a => h.kept.maps z a trivial, h.counted, h.fault⟩
  obtain ⟨length, sources, rank, active⟩ := h.kept.lists a trivial
  exact ⟨length, sources, rank, active, h.kept.targets a⟩

/-! ## The requests of the panels (R43 to R50) -/

/-- A panel put into or taken out of a zone's sources leaves the claims. -/
theorem sameClaims_setSource (s : State) (z : Fin 24) (p : Panel) (b : Bool) :
    SameClaims s (s.setZone z ((s.zone z).setSource p b)) := by
  cases p with
  | panelA => exact sameClaims_setZone rfl rfl .inl
  | panelB => exact sameClaims_setZone rfl rfl .inl

/-- Every TEST run ends before a FIRE run starts (R44 step 1). -/
theorem Held.endTests (why : EndReason) (z : Fin 24) (l : List (Fin 24)) (once : l.Nodup) {w : Work} (h : Held w.st)
    (active : ∀ y ∈ l, (w.st.zone y).mode ≠ .none) (ends : (w.st.zone z).mode = .none ∨ z ∈ l) :
    Held (l.foldl (fun w y => Machine.endInstance y why w) w).st ∧
      ((l.foldl (fun w y => Machine.endInstance y why w) w).st.zone z).mode = .none ∧
      (l.foldl (fun w y => Machine.endInstance y why w) w).st.configFault = w.st.configFault := by
  induction l generalizing w with
  | nil => exact ⟨h, ends.resolve_right List.not_mem_nil, rfl⟩
  | cons y l ih =>
    obtain ⟨notIn, once⟩ := List.nodup_cons.1 once
    obtain ⟨held, ended, others, fault⟩ := h.endInstance (active y (List.mem_cons_self ..)) why
    obtain ⟨all, none, sameFault⟩ := ih once held
      (fun x mem => by
        rw [others x (by rintro rfl; exact notIn mem)]
        exact active x (List.mem_cons_of_mem _ mem))
      (by
        by_cases same : z = y
        · subst same; exact .inl ended
        · rw [others z same]
          exact ends.imp id fun mem => (List.mem_cons.1 mem).resolve_left same)
    rw [List.foldl_cons]
    exact ⟨all, none, sameFault.trans fault⟩

theorem keeps_bringForward (z : Fin 24) (w : Work) : Keeps w.st (bringForward z w).st := by
  have put : ∀ cs, Keeps w.st (w.map fun s => s.setZone z { s.zone z with stage := some cs }).st := fun cs =>
    keeps_setZone _ _ _ rfl rfl rfl rfl rfl rfl
  unfold bringForward
  split
  · exact Keeps.refl _
  · dsimp only
    split
    · exact Keeps.refl _
    · exact Keeps.refl _
    · split
      · exact keeps_issueStage _ _ _ _
      · split
        · exact keeps_issueStage _ _ _ _
        · split
          · exact keeps_issueStage _ _ _ _
          · exact put _
    · split
      · exact put _
      · exact put _
    · split
      · exact keeps_expireWindow _ _ _
      · exact put _

theorem keeps_unholdZone (w : Work) (z : Fin 24) : Keeps w.st (unholdZone w z).st := by
  have cleared : Keeps w.st (w.map fun s => (s.setZone z { w.st.zone z with held := false }).raiseFlags).st :=
    Keeps.trans (keeps_setZone w.st z { w.st.zone z with held := false } rfl rfl rfl rfl rfl rfl) (keeps_raiseFlags _)
  unfold unholdZone
  dsimp only
  split
  · split
    · exact cleared
    · exact cleared.trans (keeps_bringForward z _)
  · exact Keeps.refl _

/-- The release of stand-down leaves the modes and CONFIG-FAULT. -/
theorem releaseStandDown_frame (w : Work) :
    (∀ z, ((releaseStandDown w).st.zone z).mode = (w.st.zone z).mode) ∧
      (releaseStandDown w).st.configFault = w.st.configFault := by
  have kept := keeps_foldl_work unholdZone keeps_unholdZone (List.finRange 24)
    (w.map fun s => { s with standDown := false, standDownOption := none }.raiseFlags)
  unfold releaseStandDown
  exact ⟨kept.mode, kept.configFault⟩

theorem Held.startFire {p : Panel} {z : Fin 24} {w : Work} (h : Held w.st) (fault : w.st.configFault = false)
    (notFire : (w.st.zone z).mode ≠ .fire) : Held (startFire p z w).st := by
  have tests : ∀ y, y ∈ w.st.testZones ↔ (w.st.zone y).mode = .test := fun y => by simp [State.testZones]
  have ends : (w.st.zone z).mode = .none ∨ z ∈ w.st.testZones := by
    cases mode : (w.st.zone z).mode with
    | none => exact .inl rfl
    | test => exact .inr ((tests z).2 mode)
    | fire => exact absurd mode notFire
  obtain ⟨held, none, sameFault⟩ := h.endTests .abortedByAlarm z w.st.testZones
    ((List.nodup_finRange 24).filter _) (fun y mem => by rw [(tests y).1 mem]; simp) ends
  unfold Machine.startFire
  dsimp only
  rw [Work.map_st]
  generalize w.st.testZones.foldl (fun w y => Machine.endInstance y .abortedByAlarm w) w = v at held none sameFault
  have judged : Held (alarmStandDown v).st ∧ ((alarmStandDown v).st.zone z).mode = .none ∧
      (alarmStandDown v).st.configFault = false := by
    unfold alarmStandDown
    split
    · obtain ⟨mode, kept⟩ := releaseStandDown_frame v
      exact ⟨held.releaseStandDown, (mode z).trans none, kept.trans (sameFault.trans fault)⟩
    · exact ⟨held, none, sameFault.trans fault⟩
  obtain ⟨judgedHeld, idle, noFault⟩ := judged
  exact judgedHeld.startZone noFault idle (by simp [startedRecord]) rfl

theorem Held.zoneAlarm {s : State} (h : Held s) (p : Panel) (b : Byte) : Held (takeZoneAlarm p b s).1 := by
  unfold takeZoneAlarm
  split
  · exact h
  · rename_i noFault
    have fault : s.configFault = false := by simpa using noFault
    split
    · exact h
    · unfold alarmZone
      split
      · split
        · exact h
        · exact h.same (sameClaims_setSource s _ p true)
      · rename_i mode
        exact Held.runEvent (h.startFire (w := Work.start s) fault (by rw [Work.start_st, mode]; simp))
      · rename_i mode
        exact Held.runEvent (h.startFire (w := Work.start s) fault (by rw [Work.start_st, mode]; simp))

/-- A zone with an alarm source is in FIRE (R41). -/
theorem fire_of_source {s : State} (zones : ZonesSound s) {z : Fin 24} {p : Panel} (source : (s.zone z).hasSource p = true) :
    (s.zone z).mode = .fire := by
  obtain ⟨records, -⟩ := zones
  obtain ⟨-, -, -, sources, -⟩ := records z
  cases p with
  | panelA => exact sources.1 (.inl source)
  | panelB => exact sources.1 (.inr source)

theorem Held.zoneReset {s : State} (h : Held s) (zones : ZonesSound s) (p : Panel) (b : Byte) : Held (takeZoneReset p b s).1 := by
  unfold takeZoneReset
  split
  · exact h
  · rename_i z _
    have set := sameClaims_setSource s z p false
    unfold resetZone
    dsimp only
    split
    · exact h
    · rename_i source
      split
      · exact h.same set
      · have fire := fire_of_source zones (by simpa using source)
        have active : (((Work.start s).map fun s => s.setZone z ((s.zone z).setSource p false)).st.zone z).mode ≠ .none := by
          rw [Work.map_st, Work.start_st, set.mode, fire]
          simp
        obtain ⟨ended, -⟩ := Held.endInstance
          (w := (Work.start s).map fun s => s.setZone z ((s.zone z).setSource p false)) (h.same set) active .ended
        have whole : Held (endFire p z (Work.start s)).st := by
          unfold endFire
          exact ended.storeEmptied
        dsimp only [zoneReply]
        exact Held.runEvent whole

theorem Held.testStart {s : State} (h : Held s) (zone reason : Byte) : Held (takeTestStart zone reason s).1 := by
  unfold takeTestStart
  split
  · exact h
  · rename_i noFault
    split
    · exact h
    · rename_i z _
      split
      · exact h
      · split
        · exact h
        · split
          · rename_i normal
            have idle := (allZonesNormal_iff s).1 normal z
            exact Held.runEvent (h.startZone (by simpa using noFault) idle (by simp [startedRecord]) rfl)
          · exact h

theorem Held.testEnd {s : State} (h : Held s) (zone : Byte) : Held (takeTestEnd zone s).1 := by
  unfold takeTestEnd
  split
  · exact h
  · rename_i z _
    split
    · rename_i test
      obtain ⟨ended, -⟩ := Held.endInstance (w := Work.start s) h (z := z) (by rw [Work.start_st, test]; simp) .ended
      have whole : Held (endTest z (Work.start s)).st := by
        unfold endTest
        exact ended.storeEmptied
      dsimp only
      exact Held.runEvent whole
    · exact h
    · exact h

/-! ## The requests of the Override Line and the Building Line (R32 to R35, R151 to R160) -/

theorem Held.overrideSet {s : State} (h : Held s) (a k : Byte) (v : Half) : Held (takeOverrideSet a k v s).1 := by
  unfold takeOverrideSet
  split
  · exact h
  · rename_i noFault
    split
    · exact h
    · split
      · exact h
      · split
        · exact h
        · exact (h.placeOverride (w := Work.start s) (by simpa using noFault) _ _).engineLoop engineRounds

theorem Held.overrideRelease {s : State} (h : Held s) (a : Byte) : Held (takeOverrideRelease a s).1 := by
  unfold takeOverrideRelease
  split
  · unfold takeReleaseAll
    split
    · exact h
    · rename_i some
      have fault : s.configFault = false := by
        obtain ⟨b, mem⟩ := List.exists_mem_of_ne_nil s.overriddenLists (by simpa using some)
        obtain ⟨-, standing⟩ := List.mem_filter.1 mem
        obtain ⟨c, c_mem, -⟩ := (claimOf_isSome_iff _ _).1 standing
        exact h.noFault_of_claim c_mem
      exact Held.runEvent (h.releaseAll (w := Work.start s) fault)
  · unfold takeReleaseOne
    split
    · exact h
    · split
      · rename_i standing
        exact Held.runEvent (h.releaseOne (w := Work.start s) standing)
      · exact h

theorem Held.standDown {s : State} (h : Held s) (o : Byte) : Held (takeStandDown o s).1 := by
  have marked : ∀ (b : Bool) (o : Option StandDownOption),
      SameClaims s { s with standDown := b, standDownOption := o }.raiseFlags :=
    fun b o => sameClaims_of_fields rfl rfl rfl rfl rfl rfl
  unfold takeStandDown
  split
  · exact h
  · split
    · unfold standDownReply replaceOption
      dsimp only
      split
      · exact h
      · exact h.same (marked _ _)
    · split
      · exact (h.same (marked _ _)).same (sameClaims_foldl _ sameClaims_holdZone _ _)
      · exact h

/-- The NORMAL-SHED mark is no part of the claims. -/
theorem sameClaims_clearNormalShed (a : Fin 64) (s : State) : SameClaims s (clearNormalShed a s) := by
  have claims : ∀ b, ((clearNormalShed a s).claimList b).claims = (s.claimList b).claims ∧
      ((clearNormalShed a s).claimList b).target = (s.claimList b).target := fun b => by
    unfold clearNormalShed
    by_cases same : b = a
    · subst same
      rw [setList_claimList_same]
      exact ⟨rfl, rfl⟩
    · rw [setList_claimList_other _ _ same]
      exact ⟨rfl, rfl⟩
  exact ⟨rfl, rfl, rfl, rfl, fun b => (claims b).1, fun b => (claims b).2, fun _ => rfl, fun _ => rfl, fun _ => .inl⟩

/-- A NORMAL claim placed outside CONFIG-FAULT (R32 step 4). -/
theorem Held.placeNormal {s : State} (h : Held s) (fault : s.configFault = false) (a : Fin 64) (c : Command) :
    Held (runEventWith s (placeNormal a c)).1 ∧ (runEventWith s (placeNormal a c)).1.configFault = false := by
  have cleared : Held ((Work.start s).map (clearNormalShed a)).st := h.same (sameClaims_clearNormalShed a s)
  have kept := cleared.kept.placeOp a (src := .normal) (cmd := c) noZone_normal
  have keeps := keeps_placeOp a .normal c ((Work.start s).map (clearNormalShed a))
  obtain ⟨claims, others⟩ := placeOp_claims a .normal c cleared.kept.zones.once
  have active : ClaimActive ((Work.start s).map (clearNormalShed a)).st ⟨.normal, c⟩ := fun z =>
    ⟨fun e => absurd e (noZone_normal z).2, fun e => absurd e (noZone_normal z).1⟩
  have placed := placeClaim_placedIn (cleared.kept.lists a trivial) active
  have overrides : SameOverrides ((Work.start s).map (clearNormalShed a)).st (Machine.placeNormal a c (Work.start s)).1.st := by
    refine ⟨keeps.overrides, fun b => ?_⟩
    unfold Machine.placeNormal
    by_cases same : b = a
    · subst same
      rw [claims]
      exact placed.overridden (by simp)
    · rw [others b same]
  have noFault : (Machine.placeNormal a c (Work.start s)).1.st.configFault = false := keeps.configFault.trans fault
  have held : Held (Machine.placeNormal a c (Work.start s)).1.st :=
    held_of_kept (A := fun _ => True) kept (fun _ => trivial) (overrides.counted cleared.counted) noFault
  exact ⟨held.engineLoop engineRounds, (keeps_engineLoop engineRounds _).configFault.trans noFault⟩

theorem Held.normalSet {s : State} (h : Held s) (a k : Byte) (v : Half) : Held (takeNormalSet a k v s).1 := by
  unfold takeNormalSet
  split
  · exact h
  · rename_i noFault
    split
    · exact h
    · split
      · exact h
      · exact (h.placeNormal (by simpa using noFault) _ _).1

/-- A NORMAL claim withdrawn (R33). -/
theorem Held.withdrawNormal {w : Work} (h : Held w.st) {a : Fin 64}
    (standing : (claimOf (w.st.claimList a).claims .normal).isSome = true) : Held (withdrawOp a .normal w).st := by
  obtain ⟨c, mem, -⟩ := (claimOf_isSome_iff _ _).1 standing
  obtain ⟨kept, others, same⟩ := h.kept.withdrawOp a .normal
  have keeps := keeps_withdrawOp a .normal w
  rw [removeClaim_overridden (by simp)] at same
  refine held_of_kept (A := fun _ => True) kept (fun _ => trivial) (SameOverrides.counted ⟨keeps.overrides, fun b => ?_⟩ h.counted)
    (keeps.configFault.trans (h.noFault_of_claim mem))
  by_cases ofList : b = a
  · subst ofList; exact same
  · rw [others b ofList]

theorem Held.normalRelease {s : State} (h : Held s) (a : Byte) : Held (takeNormalRelease a s).1 := by
  unfold takeNormalRelease
  split
  · exact h
  · rename_i a _
    have clear := sameClaims_clearNormalShed a s
    dsimp only
    split
    · rename_i standing
      exact Held.runEvent (Held.withdrawNormal (w := (Work.start s).map (clearNormalShed a)) (h.same clear)
        (by rw [Work.map_st, Work.start_st, clear.claims]; exact standing))
    · split
      · exact h.same clear
      · exact h

theorem Held.applyPairs (pairs : List (Fin 64 × Command)) {r : State × List (Fin 64 × Placing)} (h : Held r.1)
    (fault : r.1.configFault = false) : Held (pairs.foldl applyPair r).1 := by
  induction pairs generalizing r with
  | nil => exact h
  | cons x pairs ih =>
    obtain ⟨held, noFault⟩ := h.placeNormal fault x.1 x.2
    exact ih (r := applyPair r x) held noFault

theorem Held.normalGroup {s : State} (h : Held s) (body : List Byte) : Held (takeNormalGroup body s).1 := by
  unfold takeNormalGroup
  split
  · exact h
  · rename_i noFault
    split
    · exact h
    · split
      · exact h
      · split
        · exact h
        · split
          · exact h
          · exact Held.applyPairs _ (r := (s, [])) h (by simpa using noFault)

/-! ## The store, the samples and the conversions -/

theorem sameClaims_store (s : State) (st : Store) : SameClaims s { s with store := st } :=
  sameClaims_of_fields rfl rfl rfl rfl rfl rfl

theorem Held.configWrite {s : State} (h : Held s) (body : List Byte) : Held (takeConfigWrite body s).1 := by
  obtain e | ⟨_, _, e⟩ := takeConfigWrite_cases body s
  · rwa [e]
  · rw [e]; exact h.same (sameClaims_store s _)

theorem Held.configActivate {s : State} (h : Held s) (body : List Byte) : Held (takeConfigActivate body s).1 := by
  obtain e | ⟨_, _, e⟩ | ⟨sec, img, -, -, e⟩ := takeConfigActivate_cases body s
  · rwa [e]
  · rw [e]; exact h.same (sameClaims_store s _)
  · rw [e]; exact h.startWrite sec _

theorem Held.sample {s : State} (h : Held s) (i : Fin 128) (n : Nat) : Held (takeSample i n s) := by
  unfold takeSample
  dsimp only
  have taken : Held { s with inputs := s.inputs.set i (sampleInput (s.filterCount i) s.inputs[i] n) } :=
    h.same (sameClaims_of_fields rfl rfl rfl rfl rfl rfl)
  split
  · exact taken
  · exact Held.runEvent (taken.same (sameClaims_handInput i (Work.start _)))

theorem Held.conversion {s : State} (h : Held s) (c : Fin 16) (code : BitVec 10) :
    Held (takeConversion c code { s with scan := s.scan + 1 }) := by
  unfold takeConversion
  dsimp only
  split
  · exact Held.runEvent (Held.channelNotice c (h.same (sameClaims_of_fields rfl rfl rfl rfl rfl rfl)))
  · exact h.same (sameClaims_of_fields rfl rfl rfl rfl rfl rfl)

theorem Held.supply {s : State} (h : Held s) (code : BitVec 10) : Held (takeSupply code { s with scan := s.scan + 1 }) := by
  unfold takeSupply
  dsimp only
  have read : Held { s with scan := s.scan + 1, supply := supplyAfter s.supply (supplyReading code.toNat) } :=
    h.same (sameClaims_of_fields rfl rfl rfl rfl rfl rfl)
  split
  · exact Held.runEvent (Held.supplyLowEvent read)
  · exact Held.runEvent (Held.supplyOkEvent read)
  · exact read
  · exact read

/-! ## Every command -/

theorem held_rule : CommandRule (fun s => Held s ∧ ZonesSound s) Held where
  ports _ _ _ h _ := ⟨h.1.same (sameClaims_of_fields rfl rfl rfl rfl rfl rfl), h.2⟩
  stays _ h := h.1
  quiet _ _ _ h := h.same (sameClaims_of_fields rfl rfl rfl rfl rfl rfl)
  zoneAlarm p b _ h := h.1.zoneAlarm p b
  zoneReset p b _ h := h.1.zoneReset h.2 p b
  overrideSet a c v _ h := h.1.overrideSet a c v
  overrideRelease a _ h := h.1.overrideRelease a
  standDown o _ h := h.1.standDown o
  release _ h := Held.runEvent h.1.releaseStandDown
  clearFault a s h := Held.runEvent
    ((h.1.same (sameClaims_damperEvent a _ (Work.start s))).same (sameClaims_fanEvent a _ _))
  normalSet a c v _ h := h.1.normalSet a c v
  normalRelease a _ h := h.1.normalRelease a
  normalGroup body _ h := h.1.normalGroup body
  testStart z r _ h := h.1.testStart z r
  testEnd z _ h := h.1.testEnd z
  configWrite body _ h := h.1.configWrite body
  configActivate body _ h := h.1.configActivate body
  sample i n _ h := h.1.sample i n
  keySample _ _ h := h.1.same (sameClaims_of_fields rfl rfl rfl rfl rfl rfl)
  conversion c code _ h := h.1.conversion c code
  supply code _ h := h.1.supply code
  write _ h := h.1.completeWrite
  damper a act s h _ := Held.runEvent (h.1.same (sameClaims_damperEvent a act (Work.start s)))
  fan a act s h _ := Held.runEvent (h.1.same (sameClaims_fanEvent a act (Work.start s)))
  stage _ _ _ s h stage k := Held.runEvent (Held.stageAct (w := Work.start s) h.1 stage k)

theorem held_exec {c : Instr} {s t : State} (h : Held s) (zones : ZonesSound s) (e : exec c s = .next t) : Held t := by
  cases routine : c.routine with
  | true => exact held_rule.exec routine ⟨h, zones⟩ e
  | false =>
    cases c with
    | coldStart =>
      obtain rfl := Host.Outcome.next.inj e
      exact held_coldStart _ s
    | powerLoss =>
      obtain rfl := Host.Outcome.next.inj e
      exact held_losePower s
    | warmRestartStart cause =>
      obtain rfl := Host.Outcome.next.inj e
      exact h.startWarmRestart cause
    | supervisor =>
      obtain rfl := Host.Outcome.next.inj e
      exact h.startWarmRestart .supervisor
    | warmRestartEnd =>
      obtain rfl := Host.Outcome.next.inj e
      split
      · exact h.endWarmRestart
      · exact h
    | speedFrameBoundary o =>
      obtain rfl := Host.Outcome.next.inj e
      unfold whileRunning
      split
      · exact h.same (sameClaims_of_fields rfl rfl rfl rfl rfl rfl)
      · exact h
    | _ => cases routine

/-- Settles O9: every list operation leaves its list in order and the maps in agreement, and every command is made of those. -/
theorem listsStaySound : Obligations.ListsStaySound := by
  intro s t lists zones e
  have held := held_of_sound lists zones
  unfold step at e
  split at e
  · obtain rfl := Host.Outcome.next.inj e
    exact (held.same (sameClaims_of_fields rfl rfl rfl rfl rfl rfl)).sound
  · rename_i c rest _
    have queued : Held { s with pending := rest } := held.same (sameClaims_of_fields rfl rfl rfl rfl rfl rfl)
    have queuedZones : ZonesSound { s with pending := rest } := zones
    exact (held_exec queued queuedZones e).sound

end Sys2Proof.Machine

end
/-! # The reset state meets every invariant -/

section

namespace Sys2Proof.Machine

theorem reset_drive (a : Fin 64) : State.reset.drive a = .none := by simp [State.reset, State.drive]

theorem reset_zone (z : Fin 24) : State.reset.zone z = zoneAtRest := by simp [State.reset, State.zone]

theorem reset_sector (sec : Sector) : State.reset.store.sector sec = blankSector := by cases sec <;> rfl

theorem storeSound_reset : StoreSound State.reset := by
  have blank : ∀ sec, SectorSound sec blankSector := fun sec =>
    ⟨by cases sec <;> rfl, ⟨fun img staged => (by cases staged), fun writing => (by cases writing)⟩⟩
  refine ⟨fun sec => by rw [reset_sector]; exact blank sec, fun x y writing => ?_, by decide⟩
  rw [reset_sector] at writing
  cases writing

theorem drivesSound_reset : DrivesSound State.reset := by
  obtain ⟨⟨-, -, -, -, -, -, -, -, -, -, filters, -⟩, -⟩ := resetIsAColdStart
  refine ⟨fun a => ?_, fun fault => absurd fault (by decide), fun _ => filters⟩
  rw [reset_drive]
  exact driveSound_none _

theorem zonesSound_reset : ZonesSound State.reset := by
  refine ⟨fun z => ?_, List.nodup_nil, fun z => ?_, fun z y test => ?_, by decide⟩
  · rw [reset_zone]
    simp [ZoneSound, zoneAtRest]
  · rw [reset_zone]
    simp [zoneAtRest, State.reset]
  · rw [reset_zone] at test
    cases test

theorem listsSound_reset : ListsSound State.reset := by
  refine (held_of_empty idle_reset rfl fun a => ?_).sound
  simp [State.reset, State.claimList, State.record, restCommand]

theorem speedsSound_reset : SpeedsSound State.reset := by
  intro a f r sd drive
  rw [reset_drive] at drive
  cases drive

theorem fansOrdered_reset : FansOrdered State.reset.plant := by
  intro a r sd record
  simp [State.reset] at record

theorem limitsOrdered_reset : LimitsOrdered State.reset := by
  refine ⟨fansOrdered_reset, fun _ => ?_, fun img writing => by cases writing⟩
  change FansOrdered (plantOf [])
  rw [plantOf_nil]
  exact fansOrdered_reset

/-- Settles O5: blank images, no drive, no run, no claim. -/
theorem resetIsSound : Obligations.ResetIsSound :=
  ⟨storeSound_reset, drivesSound_reset, zonesSound_reset, listsSound_reset, speedsSound_reset, limitsOrdered_reset⟩

end Sys2Proof.Machine

end
/-! # One claim list by itself: target, placing and re-offer by rank (R19, R22 to R31) -/

section

namespace Sys2Proof.Machine

/-! ## The target and concordance (R28, R31) -/

theorem deriveTarget_nil (rest : Option Command) : deriveTarget rest [] = rest := rfl

theorem deriveTarget_noRun {head : Claim} (h : ∀ v, head.cmd ≠ .run v) (rest : Option Command) (below : List Claim) :
    deriveTarget rest (head :: below) = some head.cmd := by
  unfold deriveTarget
  cases cmd : head.cmd with
  | run v => exact absurd cmd (h v)
  | _ => simp only [cmd]

theorem deriveTarget_run {head : Claim} {v : Nat} (h : head.cmd = .run v) (rest : Option Command) (below : List Claim) :
    deriveTarget rest (head :: below) =
      some (.run (((head :: below).map (speedAtLevel head.src.level)).foldl max 0)) := by
  simp only [deriveTarget, h]

theorem speedAtLevel_run {c : Claim} {level v : Nat} (same : c.src.level = level) (run : c.cmd = .run v) :
    speedAtLevel level c = v := by
  simp [speedAtLevel, run, same]

/-- A claim's speed at a level is that of a RUN at the level, or 0. -/
theorem speedAtLevel_cases (level : Nat) (c : Claim) :
    speedAtLevel level c = 0 ∨ (c.src.level = level ∧ c.cmd = .run (speedAtLevel level c)) := by
  unfold speedAtLevel
  split
  · rename_i v run
    split
    · rename_i same
      exact .inr ⟨same, run⟩
    · exact .inl rfl
  · exact .inl rfl

theorem le_foldl_max {l : List Nat} {x : Nat} (h : x ∈ l) : x ≤ l.foldl max 0 :=
  (List.max?_le_iff (xs := 0 :: l) rfl).1 (Nat.le_refl _) x (List.mem_cons_of_mem _ h)

theorem foldl_max_mem (l : List Nat) : l.foldl max 0 = 0 ∨ l.foldl max 0 ∈ l :=
  List.mem_cons.1 (List.max?_mem (xs := 0 :: l) rfl)

/-- Settles O15: the maximum over the HEAD's level is attained, by the HEAD itself where every speed there is 0. -/
theorem targetIsTheHeads : Obligations.TargetIsTheHeads := by
  intro rest claims
  refine ⟨fun empty => by rw [empty, deriveTarget_nil], ?_⟩
  rintro head below rfl
  refine ⟨fun noRun => deriveTarget_noRun noRun rest below, fun v run => ⟨_, deriveTarget_run run rest below, ?_, ?_⟩⟩
  · have headSpeed : v ≤ ((head :: below).map (speedAtLevel head.src.level)).foldl max 0 :=
      le_foldl_max (List.mem_map.2 ⟨head, List.mem_cons_self .., speedAtLevel_run rfl run⟩)
    rcases foldl_max_mem ((head :: below).map (speedAtLevel head.src.level)) with zero | attained
    · rw [zero] at headSpeed ⊢
      exact ⟨head, List.mem_cons_self .., rfl, by rw [run, Nat.le_zero.1 headSpeed]⟩
    · obtain ⟨c, mem, speed⟩ := List.mem_map.1 attained
      rcases speedAtLevel_cases head.src.level c with none | ⟨level, cmd⟩
      · rw [none] at speed
        rw [← speed] at headSpeed ⊢
        exact ⟨head, List.mem_cons_self .., rfl, by rw [run, Nat.le_zero.1 headSpeed]⟩
      · rw [speed] at cmd
        exact ⟨c, mem, level, cmd⟩
  · intro c mem x level cmd
    exact le_foldl_max (List.mem_map.2 ⟨c, mem, speedAtLevel_run level cmd⟩)

theorem concordant_iff (c : Command) (target : Option Command) :
    concordant c target = true ↔
      (c = .openPos ∧ target = some .openPos) ∨ (c = .closedPos ∧ target = some .closedPos) ∨
        (c = .off ∧ target = some .off) ∨ (∃ x y, c = .run x ∧ target = some (.run y)) := by
  cases target with
  | none => cases c <;> simp [concordant]
  | some t => cases c <;> cases t <;> simp [concordant]

theorem concordant_self (c : Command) : concordant c (some c) = true := by cases c <;> rfl

/-- Settles O13: the table of R31 row by row, and the HEAD by whether its command is RUN. -/
theorem concordanceByTheTable : Obligations.ConcordanceByTheTable := by
  refine ⟨concordant_iff, fun rest head below => ?_⟩
  by_cases run : ∃ v, head.cmd = .run v
  · obtain ⟨v, run⟩ := run
    rw [deriveTarget_run run, run]
    rfl
  · rw [deriveTarget_noRun (not_exists.1 run)]
    exact concordant_self head.cmd

/-! ## Rank (R19) -/

/-- A claim is of no zone or of a zone that stands in the Activation List. -/
def ZoneListed (act : List (Fin 24)) (c : Claim) : Prop := ∀ z, c.src = .test z ∨ c.src = .fire z → z ∈ act

theorem zoneListed_zoneSource {act : List (Fin 24)} {z : Fin 24} (mem : z ∈ act) (r : ZoneRecord) (cmd : Command) :
    ZoneListed act ⟨zoneSource r z, cmd⟩ := by
  intro y ofZone
  rcases zoneSource_isZone r z with src | src <;> rw [src] at ofZone <;> simp_all

/-- Two claims of different sources, each of no zone or of a listed one, rank one above the other (R19). -/
theorem outranks_total_of_listed {act : List (Fin 24)} {c x : Claim} (hc : ZoneListed act c) (other : c.src ≠ x.src) :
    outranks act c x = true ∨ outranks act x c = true := by
  have age : ∀ {z y : Fin 24}, z ∈ act → z ≠ y → act.idxOf z < act.idxOf y ∨ act.idxOf y < act.idxOf z :=
    fun mem differs => lt_or_gt_of_ne fun same => differs ((List.idxOf_inj mem).1 same)
  obtain ⟨csrc, ccmd⟩ := c
  obtain ⟨xsrc, xcmd⟩ := x
  simp only [outranks_iff]
  cases csrc with
  | normal => cases xsrc <;> simp_all [Source.level]
  | override => cases xsrc <;> simp_all [Source.level]
  | test z =>
    cases xsrc with
    | test y => simpa [Source.level, Source.age] using age (hc z (.inl rfl)) (fun e => other (congrArg Source.test e))
    | _ => simp [Source.level]
  | fire z =>
    cases xsrc with
    | fire y => simpa [Source.level, Source.age] using age (hc z (.inr rfl)) (fun e => other (congrArg Source.fire e))
    | _ => simp [Source.level]

/-- Rank looks at the sources alone. -/
theorem outranks_congr (act : List (Fin 24)) {c c' x x' : Claim} (hc : c'.src = c.src) (hx : x'.src = x.src) :
    outranks act c' x' = outranks act c x := by
  simp only [outranks, hc, hx]

theorem replaceClaim_pairwise {act : List (Fin 24)} {cs : List Claim}
    (rank : cs.Pairwise (fun c x => outranks act c x = true)) (src : Source) (cmd : Command) :
    (replaceClaim cs src cmd).Pairwise (fun c x => outranks act c x = true) := by
  have sources : ∀ y : Claim, (if y.src = src then { y with cmd := cmd } else y).src = y.src := fun y => by split <;> rfl
  exact List.pairwise_map.2 (rank.imp fun above => (outranks_congr act (sources _) (sources _)).trans above)

/-! ## Placing (R22, R23, R24) -/

theorem placeClaim_held {cs : List Claim} {src : Source} {old : Claim} (found : claimOf cs src = some old)
    (act : List (Fin 24)) (cmd : Command) :
    placeClaim act cs src cmd = if old.cmd = cmd then (cs, .same) else (replaceClaim cs src cmd, .replaced) := by
  simp only [placeClaim, found]

theorem placeClaim_room {cs : List Claim} {src : Source} (absent : claimOf cs src = none) (room : cs.length < 6)
    (act : List (Fin 24)) (cmd : Command) :
    placeClaim act cs src cmd = (insertClaim act ⟨src, cmd⟩ cs, .placed) := by
  simp only [placeClaim, absent]
  exact if_pos room

theorem placeClaim_full {front : List Claim} {low : Claim} {src : Source} (absent : claimOf (front ++ [low]) src = none)
    (full : 6 ≤ (front ++ [low]).length) (act : List (Fin 24)) (cmd : Command) :
    placeClaim act (front ++ [low]) src cmd =
      if outranks act ⟨src, cmd⟩ low then (insertClaim act ⟨src, cmd⟩ front, .placedShedding low)
      else (front ++ [low], .shedAtOnce) := by
  simp only [placeClaim, absent, List.getLast?_concat, List.dropLast_concat]
  exact if_neg (Nat.not_lt.2 full)

/-- A source's own command placed again leaves a list of distinct sources. -/
theorem replaceClaim_same {cs : List Claim} (sources : (cs.map (·.src)).Nodup) {src : Source} {old : Claim}
    (found : claimOf cs src = some old) : replaceClaim cs src old.cmd = cs := by
  obtain ⟨old_mem, old_src⟩ := claimOf_mem found
  refine (List.map_congr_left fun c mem => ?_).trans (List.map_id' cs)
  split
  · rename_i same
    rw [List.inj_on_of_nodup_map sources mem old_mem (same.trans old_src.symm)]
  · rfl

/-- A list as it is, or its front and its lowest claim where it is full. -/
theorem claims_cases (cs : List Claim) : cs.length < 6 ∨ ∃ front low, cs = front ++ [low] ∧ 6 ≤ (front ++ [low]).length := by
  rcases Nat.lt_or_ge cs.length 6 with room | full
  · exact .inl room
  · rcases List.eq_nil_or_concat' cs with rfl | ⟨front, low, rfl⟩
    · exact absurd full (by simp)
    · exact .inr ⟨front, low, rfl, full⟩

/-- A placing keeps the rank order (R22, R23, R24). -/
theorem placeClaim_pairwise {act : List (Fin 24)} {cs : List Claim} {src : Source} {cmd : Command}
    (rank : cs.Pairwise (fun c x => outranks act c x = true)) (listed : ZoneListed act ⟨src, cmd⟩) :
    (placeClaim act cs src cmd).1.Pairwise (fun c x => outranks act c x = true) := by
  have insert : ∀ l : List Claim, l.Sublist cs → claimOf cs src = none →
      (insertClaim act ⟨src, cmd⟩ l).Pairwise (fun c x => outranks act c x = true) := fun l sub absent =>
    insertClaim_pairwise (rank.sublist sub) fun x mem =>
      outranks_total_of_listed listed (Ne.symm ((claimOf_none_iff cs src).1 absent x (sub.subset mem)))
  cases found : claimOf cs src with
  | some old =>
    rw [placeClaim_held found]
    split
    · exact rank
    · exact replaceClaim_pairwise rank src cmd
  | none =>
    rcases claims_cases cs with room | ⟨front, low, rfl, full⟩
    · rw [placeClaim_room found room]
      exact insert _ (List.Sublist.refl _) found
    · rw [placeClaim_full found full]
      split
      · exact insert _ (List.sublist_append_left front [low]) found
      · exact rank

/-- The lowest of several claims in rank order is no OVERRIDE claim. -/
theorem low_notOverride {act : List (Fin 24)} {front : List Claim} {low : Claim} (some : front ≠ [])
    (rank : (front ++ [low]).Pairwise (fun c x => outranks act c x = true)) : low.src ≠ .override := by
  intro isOverride
  obtain ⟨c, mem⟩ := List.exists_mem_of_ne_nil front some
  have above := (List.pairwise_append.1 rank).2.2 c mem low (List.mem_singleton_self _)
  rw [outranks_iff, isOverride] at above
  cases src : c.src <;> simp [src, Source.level, Source.age] at above

/-- Settles O16, by the cases of R22, R23 and R24. -/
theorem placingByRank : Obligations.PlacingByRank := by
  intro act claims src cmd ranked distinct listed _ r
  rw [rankOrdered_iff] at ranked
  rw [sourcesDistinct_iff] at distinct
  have rank : r.1.Pairwise (fun c x => outranks act c x = true) := placeClaim_pairwise ranked listed
  refine ⟨(rankOrdered_iff _ _).2 rank, fun old found => ?_, fun absent room => ?_, fun absent full => ?_⟩
  · have placed : r = _ := placeClaim_held found act cmd
    change r.1 = replaceClaim claims src cmd ∧ _
    rw [placed]
    by_cases same : old.cmd = cmd
    · rw [if_pos same, if_pos same, ← same, replaceClaim_same distinct found]
      exact ⟨rfl, rfl⟩
    · rw [if_neg same, if_neg same]
      exact ⟨rfl, rfl⟩
  · have placed : r = _ := placeClaim_room absent room act cmd
    rw [placed]
    exact ⟨insertClaim_perm act _ claims, rfl⟩
  · obtain few | ⟨front, low, rfl, least⟩ := claims_cases claims
    · exact absurd full (by omega)
    have placed : r = _ := placeClaim_full absent least act cmd
    have some : front ≠ [] := by rintro rfl; simp at full
    refine ⟨front, low, rfl, fun under => ?_, fun above => ?_, fun isOverride => ?_, low_notOverride some ranked⟩
    · rw [placed, under]
      exact ⟨rfl, rfl⟩
    · rw [placed, above]
      exact ⟨insertClaim_perm act _ front, rfl⟩
    · subst isOverride
      have above : outranks act ⟨.override, cmd⟩ low = true := override_outranks (low_notOverride some ranked)
      rw [placed, above]
      simp

/-! ## Re-offer (R27) -/

/-- The SHED claim of a zone on an actuator, where its map has one. -/
def shedClaimOf (s : State) (a : Fin 64) (z : Fin 24) : Option Claim :=
  match (s.zone z).map[a] with
  | some e => if e.status = .shed then some ⟨zoneSource (s.zone z) z, e.cmd⟩ else none
  | none => none

theorem shedClaims_eq (s : State) (a : Fin 64) : shedClaims s a = s.activation.filterMap (shedClaimOf s a) := rfl

theorem shedClaimOf_iff {s : State} {a : Fin 64} {z : Fin 24} {c : Claim} : shedClaimOf s a z = some c ↔
    ∃ e, (s.zone z).map[a] = some e ∧ e.status = .shed ∧ c = ⟨zoneSource (s.zone z) z, e.cmd⟩ := by
  unfold shedClaimOf
  cases entry : (s.zone z).map[a] with
  | none => simp
  | some e =>
    by_cases shed : e.status = .shed
    · simp [shed, eq_comm]
    · simp [shed]

/-- A zone's step of a re-offer inserts its SHED claim while there is room. -/
theorem reofferZone_eq (s : State) (a : Fin 64) (cs : List Claim) (z : Fin 24) :
    reofferZone s a cs z =
      match shedClaimOf s a z with
      | some c => if cs.length < 6 then insertClaim s.activation c cs else cs
      | none => cs := by
  unfold reofferZone shedClaimOf
  cases (s.zone z).map[a] with
  | none => simp
  | some e => by_cases shed : e.status = .shed <;> simp [shed, maxClaims]

theorem insertClaim_sublist (act : List (Fin 24)) (c : Claim) (cs : List Claim) : cs.Sublist (insertClaim act c cs) := by
  induction cs with
  | nil => exact List.nil_sublist _
  | cons x xs ih =>
    unfold insertClaim
    split
    · exact List.sublist_cons_self c _
    · exact ih.cons_cons x

/-- What the zones of a list re-offer: the old claims in their order, and the SHED claims in the zones' order while there is
room. -/
theorem reofferFold_adds (s : State) (a : Fin 64) (l : List (Fin 24)) {cs : List Claim} (few : cs.length ≤ 6) :
    (l.foldl (reofferZone s a) cs).Perm (cs ++ (l.filterMap (shedClaimOf s a)).take (6 - cs.length)) ∧
      cs.Sublist (l.foldl (reofferZone s a) cs) := by
  induction l generalizing cs with
  | nil => simp
  | cons z l ih =>
    rw [List.foldl_cons, reofferZone_eq, List.filterMap_cons]
    cases shed : shedClaimOf s a z with
    | none => exact ih few
    | some c =>
      dsimp only
      split
      · rename_i room
        have length := insertClaim_length s.activation c cs
        obtain ⟨perm, sub⟩ := ih (cs := insertClaim s.activation c cs) (by omega)
        refine ⟨perm.trans ?_, (insertClaim_sublist _ _ _).trans sub⟩
        obtain ⟨n, left⟩ : ∃ n, 6 - cs.length = n + 1 := ⟨5 - cs.length, by omega⟩
        rw [length, left, List.take_succ_cons, show 6 - (cs.length + 1) = n by omega]
        exact ((insertClaim_perm _ c cs).append_right _).trans List.perm_middle.symm
      · rename_i full
        obtain ⟨perm, sub⟩ := ih few
        rw [show 6 - cs.length = 0 by omega] at perm ⊢
        exact ⟨by simpa using perm, sub⟩

theorem reoffer_adds (s : State) (a : Fin 64) {cs : List Claim} (few : cs.length ≤ 6) :
    (reoffer s a cs).Perm (cs ++ (shedClaims s a).take (6 - cs.length)) ∧ cs.Sublist (reoffer s a cs) :=
  reofferFold_adds s a s.activation few

/-- Zones that are listed and whose sources hold no claim re-enter a list at their ranks. -/
theorem reofferFold_pairwise {s : State} {a : Fin 64} {l : List (Fin 24)} (once : l.Nodup) (sub : l ⊆ s.activation)
    {cs : List Claim} (rank : cs.Pairwise (fun c x => outranks s.activation c x = true))
    (absent : ∀ c ∈ cs, ∀ x ∈ l.filterMap (shedClaimOf s a), c.src ≠ x.src) :
    (l.foldl (reofferZone s a) cs).Pairwise (fun c x => outranks s.activation c x = true) := by
  induction l generalizing cs with
  | nil => exact rank
  | cons z l ih =>
    obtain ⟨notIn, once⟩ := List.nodup_cons.1 once
    obtain ⟨mem, sub⟩ := List.cons_subset.1 sub
    rw [List.foldl_cons, reofferZone_eq]
    cases shed : shedClaimOf s a z with
    | none =>
      rw [List.filterMap_cons_none shed] at absent
      exact ih once sub rank absent
    | some c =>
      rw [List.filterMap_cons_some shed] at absent
      obtain ⟨e, -, -, rfl⟩ := shedClaimOf_iff.1 shed
      have later : ∀ c ∈ cs, ∀ x ∈ l.filterMap (shedClaimOf s a), c.src ≠ x.src := fun c hc x hx =>
        absent c hc x (List.mem_cons_of_mem _ hx)
      dsimp only
      split
      · refine ih once sub (insertClaim_pairwise rank fun x x_mem =>
          outranks_total_of_listed (zoneListed_zoneSource mem _ _) (absent x x_mem _ (List.mem_cons_self ..)).symm) ?_
        · intro x x_mem y y_mem
          rcases mem_insertClaim.1 x_mem with rfl | x_mem
          · obtain ⟨v, v_mem, v_shed⟩ := List.mem_filterMap.1 y_mem
            obtain ⟨e', -, -, rfl⟩ := shedClaimOf_iff.1 v_shed
            intro same
            exact notIn (zoneSource_inj same ▸ v_mem)
          · exact later x x_mem y y_mem
      · exact ih once sub rank later

/-- Settles O17, by induction on the zones that re-offer. -/
theorem reofferFillsTheList : Obligations.ReofferFillsTheList := by
  intro s a claims few
  obtain ⟨perm, sub⟩ := reoffer_adds s a few
  have length := perm.length_eq
  rw [List.length_append, List.length_take] at length
  refine ⟨perm, sub, by omega, fun c mem => ?_, fun room z mem e entry shed => ?_, fun once rank _ absent => ?_⟩
  · refine (List.mem_append.1 (perm.mem_iff.1 mem)).imp id fun mem => ?_
    obtain ⟨z, z_mem, shed⟩ := List.mem_filterMap.1 (shedClaims_eq s a ▸ List.mem_of_mem_take mem)
    exact ⟨z, z_mem, shedClaimOf_iff.1 shed⟩
  · have all : (shedClaims s a).take (6 - claims.length) = shedClaims s a := List.take_of_length_le (by omega)
    rw [all] at perm
    refine perm.mem_iff.2 (List.mem_append_right _ ?_)
    rw [shedClaims_eq]
    exact List.mem_filterMap.2 ⟨z, mem, shedClaimOf_iff.2 ⟨e, entry, shed, rfl⟩⟩
  · exact reofferFold_pairwise once (List.Subset.refl _) rank absent

end Sys2Proof.Machine

end
/-! # One list operated on, and nothing else of the part (R21 to R33, R52) -/

section

namespace Sys2Proof.Machine

/-! ## The maps -/

/-- Two states whose zone records differ at most in the statuses of the entries for one actuator (R52). -/
def MapsBut (a : Fin 64) (s t : State) : Prop :=
  ∀ z, ∃ m : Vector (Option MapEntry) 64, t.zone z = { s.zone z with map := m } ∧
    (∀ b, b ≠ a → m[b] = (s.zone z).map[b]) ∧ m[a].map (·.cmd) = (s.zone z).map[a].map (·.cmd)

theorem MapsBut.of_zones {a : Fin 64} {s t : State} (h : t.zones = s.zones) : MapsBut a s t := fun z =>
  ⟨(s.zone z).map, by simp only [State.zone, h], fun _ _ => rfl, rfl⟩

theorem MapsBut.trans {a : Fin 64} {s t u : State} (x : MapsBut a s t) (y : MapsBut a t u) : MapsBut a s u := by
  intro z
  obtain ⟨m, zone, others, cmd⟩ := x z
  obtain ⟨m', zone', others', cmd'⟩ := y z
  rw [zone] at zone' others' cmd'
  exact ⟨m', zone', fun b other => (others' b other).trans (others b other), cmd'.trans cmd⟩

theorem refreshEntry_but (a : Fin 64) (s : State) (z : Fin 24) : MapsBut a s (refreshEntry a s z) := by
  have zone : (refreshEntry a s z).zone z = refreshedRecord a s z := by
    rw [refreshEntry_eq]
    simp [State.zone]
  intro y
  by_cases same : y = z
  · subst same
    obtain ⟨-, -, others⟩ := refreshedRecord_frame a s y
    refine ⟨(refreshedRecord a s y).map, ?_, others, ?_⟩
    · rw [zone]
      unfold refreshedRecord
      split <;> rfl
    · rw [refreshedRecord_entry, Option.map_map]
      rfl
  · refine ⟨(s.zone y).map, ?_, fun _ _ => rfl, rfl⟩
    rw [refreshEntry_eq]
    exact State.setZone_zone_other s _ same

/-- The entries judged anew write the zones' records alone, and of those the statuses for one actuator. -/
theorem refreshEntries_frame (a : Fin 64) (s : State) :
    (∃ zs, refreshEntries a s = { s with zones := zs }) ∧ MapsBut a s (refreshEntries a s) := by
  refine foldl_keeps (P := fun t => (∃ zs, t = { s with zones := zs }) ∧ MapsBut a s t) (refreshEntry a) ?_ s.activation
    ⟨⟨s.zones, rfl⟩, .of_zones rfl⟩
  rintro _ z ⟨⟨zs, rfl⟩, maps⟩
  exact ⟨⟨_, refreshEntry_eq a _ z⟩, maps.trans (refreshEntry_but a _ z)⟩

/-! ## The flags that a drive's fault sets (R98, R122, R176) -/

/-- A drive written with a fault that has appeared or been cleared sets every flag. -/
theorem handNotice_flags {a : Fin 64} {x y : Drive} {w : Work}
    (fault : ((handNotice a x y (w.map fun s => s.setDrive a y)).st.drive a).fault ≠ x.fault) :
    FlagsSet (handNotice a x y (w.map fun s => s.setDrive a y)).st := by
  obtain ⟨ps, frame⟩ := handNotice_st a x y (w.map fun s => s.setDrive a y)
  have drive : (handNotice a x y (w.map fun s => s.setDrive a y)).st.drive a = y := by
    rw [frame]
    exact State.setDrive_drive_same w.st a y
  rw [drive] at fault
  unfold handNotice
  rw [if_neg (Ne.symm fault)]
  dsimp only
  split
  · exact raiseFlags_set _
  · exact raiseFlags_set _

theorem damperEvent_flags {a : Fin 64} {act : DamperCtx → DamperDrive → DamperDrive} {w : Work}
    (fault : ((damperEvent a act w).st.drive a).fault ≠ (w.st.drive a).fault) : FlagsSet (damperEvent a act w).st := by
  unfold damperEvent at fault ⊢
  split at fault
  · rename_i d ctx drive hctx
    rw [drive] at fault
    exact handNotice_flags fault
  · exact absurd rfl fault

theorem fanEvent_flags {a : Fin 64} {act : FanCtx → FanDrive → FanDrive} {w : Work}
    (fault : ((fanEvent a act w).st.drive a).fault ≠ (w.st.drive a).fault) : FlagsSet (fanEvent a act w).st := by
  unfold fanEvent at fault ⊢
  split at fault
  · rename_i f ctx drive hctx
    rw [drive] at fault
    exact handNotice_flags fault
  · exact absurd rfl fault

theorem FlagsSet.keeps {s t : State} (h : FlagsSet s) (k : Keeps s t) : FlagsSet t := fun l => k.flags l (h l)

theorem handTarget_flags {a : Fin 64} {c : Command} {w : Work}
    (fault : ((handTarget a c w).st.drive a).fault ≠ (w.st.drive a).fault) : FlagsSet (handTarget a c w).st := by
  unfold handTarget at fault ⊢
  split
  · rename_i side toward
    rw [toward] at fault
    by_cases first : ((damperEvent a (damperTarget side) w).st.drive a).fault = (w.st.drive a).fault
    · exact fanEvent_flags (by rw [first]; exact fault)
    · exact (damperEvent_flags first).keeps (keeps_fanEvent _ _ _)
  · rename_i toward
    rw [toward] at fault
    exact fanEvent_flags fault

/-! ## The relation of the statements -/

theorem samePorts_of_ports {s t : State} (h : t.ports = s.ports) : SamePorts s t := fun l => by simp only [State.port, h]

/-- The list of an actuator written without a new target. -/
theorem onlyList_setList (s : State) (a : Fin 64) (l : ClaimList)
    (target : l.target = (s.claimList a).target ∨ l.target = none) : OnlyList a s (s.setList a l) := by
  have written : ((s.setList a l).claimList a).target = l.target := by rw [State.setList_claimList_same]
  refine ⟨⟨l, s.drive a, s.zones, s.ports, by rw [State.set_drive]; rfl⟩, samePorts_of_ports rfl, ⟨fun _ => rfl, ?_, ?_⟩,
    MapsBut.of_zones rfl⟩
  · intro c set differs
    rw [written] at set
    exact target.elim (fun same => absurd (same.symm.trans set) differs) fun none => absurd (none.symm.trans set) (by simp)
  · exact fun fault => absurd rfl fault

theorem OnlyList.refl (a : Fin 64) (s : State) : OnlyList a s s := by
  have written := onlyList_setList s a (s.claimList a) (.inl rfl)
  have same : s.setList a (s.claimList a) = s := by simp [State.setList, State.claimList]
  rwa [same] at written

/-- A list written without a new target before it is operated on. -/
theorem OnlyList.ofSetList {s t : State} {a : Fin 64} {l : ClaimList} (h : OnlyList a (s.setList a l) t)
    (target : l.target = (s.claimList a).target) : OnlyList a s t := by
  obtain ⟨⟨l', d, zs, ps, frame⟩, ports, follows, maps⟩ := h
  refine ⟨⟨l', d, zs, ps, ?_⟩, ports, ?_, maps⟩
  · rw [frame]
    simp [State.setList]
  · unfold DriveFollows at follows ⊢
    rw [State.setList_claimList_same, target] at follows
    exact follows

theorem OnlyList.claimList_other {s t : State} {a b : Fin 64} (h : OnlyList a s t) (other : b ≠ a) :
    t.claimList b = s.claimList b := by
  obtain ⟨⟨l, d, zs, ps, rfl⟩, -⟩ := h
  exact State.setList_claimList_other s l other

theorem OnlyList.drive_other {s t : State} {a b : Fin 64} (h : OnlyList a s t) (other : b ≠ a) : t.drive b = s.drive b := by
  obtain ⟨⟨l, d, zs, ps, rfl⟩, -⟩ := h
  exact State.setDrive_drive_other s d other

theorem refreshEntries_lists (a : Fin 64) (s : State) : (refreshEntries a s).lists = s.lists := by
  obtain ⟨⟨zs, frame⟩, -⟩ := refreshEntries_frame a s
  rw [frame]

theorem refreshEntries_list (a b : Fin 64) (s : State) : (refreshEntries a s).claimList b = s.claimList b := by
  simp only [State.claimList, refreshEntries_lists]

theorem OnlyList.refresh {s t : State} {a : Fin 64} (h : OnlyList a s t) : OnlyList a s (refreshEntries a t) := by
  obtain ⟨⟨zs', frame'⟩, judged⟩ := refreshEntries_frame a t
  obtain ⟨⟨l, d, zs, ps, frame⟩, ports, follows, maps⟩ := h
  refine ⟨⟨l, d, zs', ps, by rw [frame', frame]⟩, ?_, ?_, MapsBut.trans maps judged⟩
  · rw [frame']
    exact ports
  · rw [frame']
    exact follows

/-! ## The end of an operation (R21, R28, R29, R30) -/

/-- A list written with a new target that its drive takes. -/
theorem onlyList_handTarget (a : Fin 64) (l : ClaimList) (c : Command) (w : Work) (target : l.target = some c)
    (new : l.target ≠ (w.st.claimList a).target) :
    OnlyList a w.st (handTarget a c (w.map fun s => s.setList a l)).st ∧
      (handTarget a c (w.map fun s => s.setList a l)).st.claimList a = l := by
  obtain ⟨ps, frame⟩ := handTarget_st a c (w.map fun s => s.setList a l)
  have flags := handTarget_flags (a := a) (c := c) (w := w.map fun s => s.setList a l)
  have kept := (keeps_setList w.st a l).trans (keeps_handTarget a c (w.map fun s => s.setList a l))
  have drive : (handTarget a c (w.map fun s => s.setList a l)).st.drive a = targetActed (w.st.setList a l) a c := by
    rw [frame]
    exact State.setDrive_drive_same (w.st.setList a l) a _
  have list : (handTarget a c (w.map fun s => s.setList a l)).st.claimList a = l := by
    rw [frame]
    exact State.setList_claimList_same w.st a l
  refine ⟨⟨⟨l, _, w.st.zones, ps, frame⟩, kept.ports, ⟨fun stays => ?_, fun x set _ => ?_, flags⟩,
    MapsBut.of_zones (by rw [frame]; rfl)⟩, list⟩
  · rw [list] at stays
    exact stays.elim (fun same => absurd same new) (fun none => absurd (none.symm.trans target) (by simp))
  · rw [list, target] at set
    obtain rfl := Option.some.inj set
    rw [drive]
    exact (targetActed_taken (w.st.setList a l) a c).congr rfl rfl

theorem endListOp_only (a : Fin 64) (cs : List Claim) (m : Bool) (w : Work) :
    OnlyList a w.st (endListOp a cs m w).st ∧
      (endListOp a cs m w).st.claimList a =
        { claims := cs, target := deriveTarget (restCommand (w.st.record a)) cs, normalShed := m } := by
  unfold endListOp
  simp only [Work.map_st, refreshEntries_list]
  split
  · rename_i same
    exact ⟨(onlyList_setList w.st a _ (.inl same)).refresh, State.setList_claimList_same w.st a _⟩
  · rename_i new
    split
    · rename_i c target
      obtain ⟨only, list⟩ := onlyList_handTarget a
        { claims := cs, target := deriveTarget (restCommand (w.st.record a)) cs, normalShed := m } c w target new
      exact ⟨only.refresh, list⟩
    · rename_i none
      exact ⟨(onlyList_setList w.st a _ (.inr none)).refresh, State.setList_claimList_same w.st a _⟩

/-! ## Placing and withdrawing -/

/-- A placing writes its list and what hangs on it, with the claims that R22 to R24 give and the NORMAL-SHED mark set where a
NORMAL claim is shed (R25); the target is derived from new claims, and stays with the old ones. -/
theorem placeOp_only (a : Fin 64) (src : Source) (cmd : Command) (w : Work) :
    let p := placeClaim w.st.activation (w.st.claimList a).claims src cmd
    OnlyList a w.st (placeOp a src cmd w).1.st ∧ (placeOp a src cmd w).2 = p.2 ∧
      ∃ target, (placeOp a src cmd w).1.st.claimList a =
          { claims := p.1, target := target, normalShed := (w.st.claimList a).normalShed || shedsNormal src p.2 } ∧
        (target = deriveTarget (restCommand (w.st.record a)) p.1 ∨
          (p.1 = (w.st.claimList a).claims ∧ target = (w.st.claimList a).target)) := by
  intro p
  have unchanged : p.2 = .same ∨ p.2 = .shedAtOnce → p.1 = (w.st.claimList a).claims := placeClaim_unchanged
  unfold placeOp
  dsimp only
  split
  · rename_i same
    have mark : shedsNormal src .same = false := by simp [shedsNormal, Placing.shedClaim]
    refine ⟨OnlyList.refl a w.st, same.symm, _, ?_, .inr ⟨unchanged (.inl same), rfl⟩⟩
    simp only [p, same, mark, Bool.or_false]
    rw [show (placeClaim w.st.activation (w.st.claimList a).claims src cmd).1 = _ from unchanged (.inl same)]
  · rename_i shed
    simp only [Work.map_st, refreshEntries_list]
    refine ⟨(onlyList_setList w.st a _ (.inl ?_)).refresh, rfl, _, ?_, .inr ⟨unchanged (.inr shed), rfl⟩⟩
    · rfl
    · rw [State.setList_claimList_same, unchanged (.inr shed)]
  · obtain ⟨only, list⟩ := endListOp_only a p.1 ((w.st.claimList a).normalShed || shedsNormal src p.2) w
    exact ⟨only, rfl, _, list, .inl rfl⟩

/-- A placing leaves a derived target. -/
theorem placeOp_targeted (a : Fin 64) (src : Source) (cmd : Command) (w : Work) (targeted : Targeted w.st a) :
    let p := placeClaim w.st.activation (w.st.claimList a).claims src cmd
    (placeOp a src cmd w).1.st.claimList a =
      { claims := p.1
        target := deriveTarget (restCommand (w.st.record a)) p.1
        normalShed := (w.st.claimList a).normalShed || shedsNormal src p.2 } := by
  intro p
  obtain ⟨-, -, target, list, derived | ⟨same, kept⟩⟩ := placeOp_only a src cmd w
  · rw [list, derived]
  · rw [list, kept, show p.1 = _ from same, ← targeted]

theorem withdrawOp_only {a : Fin 64} {src : Source} {w : Work} (standing : claimOf (w.st.claimList a).claims src ≠ none) :
    let cs := reoffer w.st a (removeClaim (w.st.claimList a).claims src)
    OnlyList a w.st (withdrawOp a src w).st ∧
      (withdrawOp a src w).st.claimList a =
        { claims := cs, target := deriveTarget (restCommand (w.st.record a)) cs
          normalShed := (w.st.claimList a).normalShed } := by
  rw [withdrawOp_eq standing]
  exact endListOp_only a _ _ w

end Sys2Proof.Machine

end
/-! # The requests that place NORMAL claims (R32 to R35) -/

section

namespace Sys2Proof.Machine

/-! ## NORMAL-SET (R32) -/

/-- A placing sheds a claim of another source. -/
theorem placeClaim_shedSource {act : List (Fin 24)} {cs : List Claim} {src : Source} {cmd : Command} {low : Claim}
    (h : (placeClaim act cs src cmd).2 = .placedShedding low) : low.src ≠ src := by
  cases found : claimOf cs src with
  | some old =>
    rw [placeClaim_held found] at h
    split at h <;> cases h
  | none =>
    rcases claims_cases cs with room | ⟨front, x, rfl, full⟩
    · rw [placeClaim_room found room] at h
      cases h
    · rw [placeClaim_full found full] at h
      split at h
      · obtain rfl := Placing.placedShedding.inj h
        exact (claimOf_none_iff _ _).1 found x (List.mem_append_right _ (List.mem_singleton_self x))
      · cases h

/-- A NORMAL claim's placing sets the NORMAL-SHED mark exactly where it sheds the claim at once (R25). -/
theorem shedsNormal_normal_iff {act : List (Fin 24)} {cs : List Claim} {cmd : Command} :
    shedsNormal .normal (placeClaim act cs .normal cmd).2 = true ↔ (placeClaim act cs .normal cmd).2 = .shedAtOnce := by
  cases placed : (placeClaim act cs .normal cmd).2 with
  | placedShedding low =>
    have other := placeClaim_shedSource placed
    simp [shedsNormal, Placing.shedClaim, other]
  | _ => simp [shedsNormal, Placing.shedClaim]

theorem clearNormalShed_claimList (a : Fin 64) (s : State) :
    (clearNormalShed a s).claimList a = { s.claimList a with normalShed := false } := State.setList_claimList_same ..

/-- What NORMAL-SET makes of the part before the engine: its list with the claim placed, the mark for that placing alone. -/
theorem placeNormal_only (a : Fin 64) (cmd : Command) (s : State) (targeted : Targeted s a) :
    let p := placeClaim s.activation (s.claimList a).claims .normal cmd
    OnlyList a s (placeNormal a cmd (Work.start s)).1.st ∧ (placeNormal a cmd (Work.start s)).2 = p.2 ∧
      (placeNormal a cmd (Work.start s)).1.st.claimList a =
        { claims := p.1
          target := deriveTarget (restCommand (s.record a)) p.1
          normalShed := shedsNormal .normal p.2 } := by
  have list := clearNormalShed_claimList a s
  have cleared : Targeted ((Work.start s).map (clearNormalShed a)).st a := targeted.same (sameClaims_clearNormalShed a s)
  obtain ⟨only, placing, -⟩ := placeOp_only a .normal cmd ((Work.start s).map (clearNormalShed a))
  have written := placeOp_targeted a .normal cmd ((Work.start s).map (clearNormalShed a)) cleared
  simp only [Work.map_st, Work.start_st, list, Bool.false_or] at placing written
  exact ⟨only.ofSetList rfl, placing, written⟩

/-- NORMAL-SET past its checks (R32 step 4). -/
theorem takeNormalSet_placed {s : State} {b code : Byte} {v : Half} {a : Fin 64} {cmd : Command}
    (fault : s.configFault = false) (configured : s.configuredActuator b = some a)
    (matching : matchingCommand (s.record a) code v = some cmd) :
    takeNormalSet b code v s =
      (settled (placeNormal a (capSpeed cmd) (Work.start s)).1,
        { result := (placeNormal a (capSpeed cmd) (Work.start s)).2.result
          body := .normalSet (placeNormal a (capSpeed cmd) (Work.start s)).2.placement
            ((settled (placeNormal a (capSpeed cmd) (Work.start s)).1).claimList a).target }) := by
  simp only [takeNormalSet, fault, configured, matching]
  rfl

/-- Settles O35: the placing of R22 to R24 on the list with its mark cleared. -/
theorem normalSetPlacesItsClaim : Obligations.NormalSetPlacesItsClaim := by
  intro b code v a cmd s takes fault configured matching targeted
  obtain ⟨only, placing, list⟩ := placeNormal_only a (capSpeed cmd) s targeted
  have answer := request_answers (k := 0x30) takes (takeNormalSet_placed fault configured matching)
  rw [placing] at answer
  refine ⟨(placeNormal a (capSpeed cmd) (Work.start s)).1, ⟨answer, ?_, ?_, ?_, fun same => ?_⟩, only⟩
  · rw [list]
  · rw [list]
  · rw [list]
    exact shedsNormal_normal_iff
  · obtain ⟨-, -, ⟨stays, -⟩, -⟩ := only
    exact stays (.inl same)

/-! ## NORMAL-RELEASE (R33) -/

theorem takeNormalRelease_held {s : State} {b : Byte} {a : Fin 64} (configured : s.configuredActuator b = some a)
    (standing : (claimOf (s.claimList a).claims .normal).isSome = true) :
    takeNormalRelease b s =
      (settled (withdrawOp a .normal ((Work.start s).map (clearNormalShed a))),
        { result := .done
          body := .target ((settled (withdrawOp a .normal ((Work.start s).map (clearNormalShed a)))).claimList a).target }) := by
  simp only [takeNormalRelease, configured, if_pos standing]
  rfl

theorem takeNormalRelease_marked {s : State} {b : Byte} {a : Fin 64} (configured : s.configuredActuator b = some a)
    (absent : claimOf (s.claimList a).claims .normal = none) (mark : (s.claimList a).normalShed = true) :
    takeNormalRelease b s = (clearNormalShed a s, { result := .done, body := .target (s.claimList a).target }) := by
  simp only [takeNormalRelease, configured, absent, mark]
  rfl

theorem takeNormalRelease_none {s : State} {b : Byte} {a : Fin 64} (configured : s.configuredActuator b = some a)
    (absent : claimOf (s.claimList a).claims .normal = none) (mark : (s.claimList a).normalShed = false) :
    takeNormalRelease b s = (s, { result := .noChange, body := .target (s.claimList a).target }) := by
  simp only [takeNormalRelease, configured, absent, mark]
  rfl

/-- Settles O36, by the three cases of R33. -/
theorem normalReleaseWithdraws : Obligations.NormalReleaseWithdraws := by
  intro b a s takes configured
  refine ⟨fun c held => ?_, fun absent mark => ?_, fun absent mark => ?_⟩
  · have list := clearNormalShed_claimList a s
    have standing : claimOf (((Work.start s).map (clearNormalShed a)).st.claimList a).claims .normal ≠ none := by
      rw [Work.map_st, Work.start_st, list, held]
      simp
    obtain ⟨only, written⟩ := withdrawOp_only standing
    simp only [Work.map_st, Work.start_st, list] at written
    refine ⟨_, request_answers takes (takeNormalRelease_held configured (by rw [held]; rfl)), ?_, ?_, ?_, only.ofSetList rfl⟩
    · rw [written]
      rfl
    · rw [written]
      rfl
    · rw [written]
  · exact request_answers takes (takeNormalRelease_marked configured absent mark)
  · exact request_answers takes (takeNormalRelease_none configured absent mark)

/-! ## NORMAL-GROUP (R34, R35) -/

theorem firstIndex_none {α : Type} {fails : α → Bool} {l : List α} {i : Nat} (h : ∀ x ∈ l, fails x = false) :
    firstIndex fails l i = none := by
  induction l generalizing i with
  | nil => rfl
  | cons x l ih =>
    rw [firstIndex, h x (List.mem_cons_self ..)]
    exact ih fun y mem => h y (List.mem_cons_of_mem _ mem)

/-- The first index at which a check fails is the one that fails with none before it. -/
theorem firstIndex_first {α : Type} {fails : α → Bool} {l : List α} {i n : Nat} {x : α} (at_i : l[i]? = some x)
    (fault : fails x = true) (before : ∀ j y, j < i → l[j]? = some y → fails y = false) :
    firstIndex fails l n = some (n + i) := by
  induction l generalizing i n with
  | nil => simp at at_i
  | cons y l ih =>
    cases i with
    | zero =>
      obtain rfl : y = x := by simpa using at_i
      rw [firstIndex, fault]
      rfl
    | succ i =>
      rw [firstIndex, before 0 y (Nat.succ_pos i) rfl]
      refine (ih (n := n + 1) (by simpa using at_i) fun j z less at_j => ?_).trans (congrArg some (by omega))
      exact before (j + 1) z (Nat.succ_lt_succ less) (by simpa using at_j)

theorem repeatedIndex_none {l : List GroupPair} {seen : List Byte} {n : Nat}
    (once : (l.map (·.actuator)).Nodup) (new : ∀ p ∈ l, p.actuator ∉ seen) : repeatedIndex l seen n = none := by
  induction l generalizing seen n with
  | nil => rfl
  | cons p l ih =>
    obtain ⟨notIn, once⟩ := List.nodup_cons.1 once
    rw [repeatedIndex, if_neg (new p (List.mem_cons_self ..))]
    refine ih once fun q mem again => (List.mem_cons.1 again).elim (fun same => ?_) (new q (List.mem_cons_of_mem _ mem))
    exact notIn (List.mem_map.2 ⟨q, mem, same⟩)

/-- The index reported is the first whose actuator an earlier pair names (log 37). -/
theorem repeatedIndex_first {l : List GroupPair} {seen : List Byte} {i n : Nat}
    (again : ¬ (seen.reverse ++ (l.take (i + 1)).map (·.actuator)).Nodup)
    (before : (seen.reverse ++ (l.take i).map (·.actuator)).Nodup) : repeatedIndex l seen n = some (n + i) := by
  induction l generalizing seen i n with
  | nil => exact absurd before (by simpa using again)
  | cons p l ih =>
    cases i with
    | zero =>
      have mem : p.actuator ∈ seen := by
        by_contra new
        refine again ?_
        simp only [List.take_zero, List.map_nil, List.append_nil, List.nodup_reverse] at before
        simpa [List.nodup_append, before] using fun x (mem : x ∈ seen) (same : x = p.actuator) => new (same ▸ mem)
      rw [repeatedIndex, if_pos mem]
      rfl
    | succ i =>
      have shift : ∀ m, seen.reverse ++ ((p :: l).take (m + 1)).map (·.actuator) =
          (p.actuator :: seen).reverse ++ (l.take m).map (·.actuator) := fun m => by simp
      rw [shift] at again before
      have new : p.actuator ∉ seen := by
        have once := (List.nodup_append.1 before).1
        rw [List.nodup_reverse] at once
        exact (List.nodup_cons.1 once).1
      rw [repeatedIndex, if_neg new]
      exact (ih (n := n + 1) again before).trans (congrArg some (by omega))

/-! ### The checks of R34 in their order -/

section

variable {body : List Byte} {s : State} (fault : s.configFault = false)
include fault

theorem takeNormalGroup_noGroup (none : groupOf body = none) :
    takeNormalGroup body s = refuse s .refusedForm := by
  simp only [takeNormalGroup, fault, none]
  rfl

variable {pairs : List GroupPair} (group : groupOf body = some pairs)
include group

theorem takeNormalGroup_unconfigured {i : Nat} (first : firstIndex s.pairUnconfigured pairs 0 = some i) :
    takeNormalGroup body s = refusePair s .refusedRange i := by
  simp only [takeNormalGroup, fault, group, first]
  rfl

variable (configured : firstIndex s.pairUnconfigured pairs 0 = none)
include configured

theorem takeNormalGroup_mismatched {i : Nat} (first : firstIndex s.pairMismatched pairs 0 = some i) :
    takeNormalGroup body s = refusePair s .refusedForm i := by
  simp only [takeNormalGroup, fault, group, configured, first]
  rfl

variable (matching : firstIndex s.pairMismatched pairs 0 = none)
include matching

theorem takeNormalGroup_repeated {i : Nat} (first : repeatedIndex pairs [] 0 = some i) :
    takeNormalGroup body s = refusePair s .refusedForm i := by
  simp only [takeNormalGroup, fault, group, configured, matching, first]
  rfl

theorem takeNormalGroup_applied (once : repeatedIndex pairs [] 0 = none) :
    takeNormalGroup body s = groupReply ((pairs.filterMap s.pairCommand).foldl applyPair (s, [])) := by
  simp only [takeNormalGroup, fault, group, configured, matching, once]
  rfl

end

/-! ### The group as a run of NORMAL-SETs (R35) -/

/-- The reply of a NORMAL-SET of a pair and what the group notes of the pair. -/
structure PairNoted (p : GroupPair) (y : Reply) (x : Fin 64 × Placing) : Prop where
  actuator : actuatorOf p.actuator = some x.1
  result : y.result = x.2.result
  body : ∃ target, y.body = .normalSet x.2.placement target

/-- The replies and the notes of a group, pair by pair. -/
structure PairsNoted (pairs : List GroupPair) (ys : List Reply) (xs : List (Fin 64 × Placing)) : Prop where
  replies : ys.length = pairs.length
  notes : xs.length = pairs.length
  each : ∀ (i : Nat) (p : GroupPair) (y : Reply) (x : Fin 64 × Placing),
    pairs[i]? = some p → ys[i]? = some y → xs[i]? = some x → PairNoted p y x

theorem PairsNoted.nil : PairsNoted [] [] [] := ⟨rfl, rfl, fun i p _ _ at_p => by simp at at_p⟩

theorem PairsNoted.cons {pairs : List GroupPair} {ys : List Reply} {xs : List (Fin 64 × Placing)} {p : GroupPair} {y : Reply}
    {x : Fin 64 × Placing} (first : PairNoted p y x) (rest : PairsNoted pairs ys xs) :
    PairsNoted (p :: pairs) (y :: ys) (x :: xs) where
  replies := by simp [rest.replies]
  notes := by simp [rest.notes]
  each i q v n at_q at_v at_n := by
    cases i with
    | zero =>
      simp only [List.getElem?_cons_zero, Option.some.injEq] at at_q at_v at_n
      subst at_q at_v at_n
      exact first
    | succ i =>
      simp only [List.getElem?_cons_succ] at at_q at_v at_n
      exact rest.each i q v n at_q at_v at_n

theorem pairCommand_some {s : State} {p : GroupPair} {x : Fin 64 × Command} (h : s.pairCommand p = some x) :
    s.configuredActuator p.actuator = some x.1 ∧
      ∃ cmd, matchingCommand (s.record x.1) p.code p.speed = some cmd ∧ x.2 = capSpeed cmd := by
  unfold State.pairCommand at h
  split at h
  · cases h
  · rename_i a configured
    obtain ⟨cmd, matching, rfl⟩ := Option.map_eq_some_iff.1 h
    exact ⟨configured, cmd, matching, rfl⟩

theorem actuatorOf_configured {s : State} {b : Byte} {a : Fin 64} (h : s.configuredActuator b = some a) :
    actuatorOf b = some a := by
  unfold State.configuredActuator at h
  split at h
  · cases h
  · rename_i x number
    split at h
    · cases h
    · rw [number, Option.some.inj h]

theorem pairCommand_congr {s t : State} (plant : t.plant = s.plant) (p : GroupPair) : t.pairCommand p = s.pairCommand p := by
  have record : ∀ a, t.record a = s.record a := fun a => by simp only [State.record, plant]
  have configured : ∀ b, t.configuredActuator b = s.configuredActuator b := fun b => by
    simp only [State.configuredActuator, record]
  simp only [State.pairCommand, configured, record]

/-- One pair applied is its NORMAL-SET. -/
theorem applyPair_normalSet {s : State} (fault : s.configFault = false) {p : GroupPair} {x : Fin 64 × Command}
    (h : s.pairCommand p = some x) (noted : List (Fin 64 × Placing)) :
    ∃ n, applyPair (s, noted) x = ((takeNormalSet p.actuator p.code p.speed s).1, noted ++ [n]) ∧
      PairNoted p (takeNormalSet p.actuator p.code p.speed s).2 n := by
  obtain ⟨configured, cmd, matching, command⟩ := pairCommand_some h
  obtain ⟨a, c⟩ := x
  dsimp only at configured matching command
  subst command
  rw [takeNormalSet_placed fault configured matching]
  exact ⟨(a, (placeNormal a (capSpeed cmd) (Work.start s)).2), rfl,
    ⟨actuatorOf_configured configured, rfl, _, rfl⟩⟩

/-- A NORMAL-SET leaves the plant and CONFIG-FAULT. -/
theorem applyPair_frame (r : State × List (Fin 64 × Placing)) (x : Fin 64 × Command) :
    (applyPair r x).1.plant = r.1.plant ∧ (applyPair r x).1.configFault = r.1.configFault := by
  have engine := keeps_runEventWith r.1 (placeNormal x.1 x.2)
  have placing := keeps_placeOp x.1 .normal x.2 ((Work.start r.1).map (clearNormalShed x.1))
  exact ⟨engine.plant.trans placing.plant, engine.configFault.trans placing.configFault⟩

/-- One pair of a run of NORMAL-SETs. -/
def groupStep (r : State × List Reply) (p : GroupPair) : State × List Reply :=
  ((takeNormalSet p.actuator p.code p.speed r.1).1, r.2 ++ [(takeNormalSet p.actuator p.code p.speed r.1).2])

theorem groupRun_eq (pairs : List GroupPair) (s : State) : groupRun pairs s = pairs.foldl groupStep (s, []) := rfl

/-- The pairs of a group applied in turn are their NORMAL-SETs in turn, pair by pair (R35). -/
theorem applyPairs_groupRun (s : State) (pairs : List GroupPair) (all : ∀ p ∈ pairs, (s.pairCommand p).isSome = true)
    {t : State} (plant : t.plant = s.plant) (fault : t.configFault = false) (replies : List Reply)
    (noted : List (Fin 64 × Placing)) :
    ∃ (u : State) (ys : List Reply) (xs : List (Fin 64 × Placing)),
      pairs.foldl groupStep (t, replies) = (u, replies ++ ys) ∧
        (pairs.filterMap s.pairCommand).foldl applyPair (t, noted) = (u, noted ++ xs) ∧ PairsNoted pairs ys xs := by
  induction pairs generalizing t replies noted with
  | nil => exact ⟨t, [], [], by simp, by simp, .nil⟩
  | cons p pairs ih =>
    obtain ⟨c, command⟩ := Option.isSome_iff_exists.1 (all p (List.mem_cons_self ..))
    obtain ⟨n, applied, first⟩ := applyPair_normalSet fault ((pairCommand_congr plant p).trans command) noted
    obtain ⟨plantKept, faultKept⟩ := applyPair_frame (t, noted) c
    rw [applied] at plantKept faultKept
    obtain ⟨u, ys, xs, run, apply, rest⟩ := ih (fun q mem => all q (List.mem_cons_of_mem _ mem))
      (plantKept.trans plant) (faultKept.trans fault)
      (replies ++ [(takeNormalSet p.actuator p.code p.speed t).2]) (noted ++ [n])
    refine ⟨u, (takeNormalSet p.actuator p.code p.speed t).2 :: ys, n :: xs, ?_, ?_, rest.cons first⟩
    · rw [List.foldl_cons, groupStep, run, List.append_assoc, List.singleton_append]
    · rw [List.filterMap_cons_some command, List.foldl_cons, applied, apply, List.append_assoc, List.singleton_append]

/-- The group is DONE exactly where one of its NORMAL-SETs is. -/
theorem PairsNoted.pairDone_any {pairs : List GroupPair} {ys : List Reply} {xs : List (Fin 64 × Placing)}
    (h : PairsNoted pairs ys xs) : xs.any pairDone = ys.any (fun y => y.result == .done) := by
  have same : xs.map (fun x => x.2.result) = ys.map (·.result) := by
    refine List.ext_getElem (by simp [h.replies, h.notes]) fun i hx hy => ?_
    rw [List.length_map] at hx hy
    have least : i < pairs.length := h.replies ▸ hy
    have result := (h.each i pairs[i] ys[i] xs[i] (List.getElem?_eq_getElem least) (List.getElem?_eq_getElem hy)
      (List.getElem?_eq_getElem hx)).result
    rw [List.getElem_map, List.getElem_map, result]
  calc xs.any pairDone = (xs.map (fun x => x.2.result)).any (· == .done) := by rw [List.any_map]; rfl
    _ = (ys.map (·.result)).any (· == .done) := by rw [same]
    _ = ys.any (fun y => y.result == .done) := by rw [List.any_map]; rfl

/-- Settles O37: the checks in their order, and the pairs applied as NORMAL-SETs in turn. -/
theorem aGroupIsItsNormalSets : Obligations.AGroupIsItsNormalSets := by
  intro body s takes fault
  refine ⟨fun none => request_refused takes (takeNormalGroup_noGroup fault none), fun pairs group => ?_⟩
  refine ⟨fun i p at_i none before => ?_, fun configured => ⟨fun i p at_i none before => ?_, fun matching => ?_⟩⟩
  · have first : firstIndex s.pairUnconfigured pairs 0 = some (0 + i) :=
      firstIndex_first at_i (by simp [State.pairUnconfigured, none]) fun j q less at_j => by
        simpa [State.pairUnconfigured, Option.isSome_iff_ne_none] using before j q less at_j
    rw [Nat.zero_add] at first
    exact request_answers takes (takeNormalGroup_unconfigured fault group first)
  · have passed : firstIndex s.pairUnconfigured pairs 0 = Option.none := firstIndex_none fun q mem => by
      simpa [State.pairUnconfigured, Option.isSome_iff_ne_none] using configured q mem
    have first : firstIndex s.pairMismatched pairs 0 = some (0 + i) :=
      firstIndex_first at_i (by simp [State.pairMismatched, none]) fun j q less at_j => by
        simpa [State.pairMismatched, Option.isSome_iff_ne_none] using before j q less at_j
    rw [Nat.zero_add] at first
    exact request_answers takes (takeNormalGroup_mismatched fault group passed first)
  · have passed : firstIndex s.pairUnconfigured pairs 0 = none := firstIndex_none fun q mem => by
      simpa [State.pairUnconfigured, Option.isSome_iff_ne_none] using configured q mem
    have matched : firstIndex s.pairMismatched pairs 0 = none := firstIndex_none fun q mem => by
      simpa [State.pairMismatched, Option.isSome_iff_ne_none] using matching q mem
    refine ⟨fun i again before => ?_, fun once => ?_⟩
    · have first := repeatedIndex_first (seen := []) (n := 0) (by simpa using again) (by simpa using before)
      rw [Nat.zero_add] at first
      exact request_answers takes (takeNormalGroup_repeated fault group passed matched first)
    · obtain ⟨u, ys, xs, run, apply, noted⟩ := applyPairs_groupRun s pairs matching rfl fault [] []
      rw [← groupRun_eq, List.nil_append] at run
      rw [List.nil_append] at apply
      have answer := request_answers (k := 0x32) takes
        ((takeNormalGroup_applied fault group passed matched (repeatedIndex_none once (by simp))).trans rfl)
      rw [apply] at answer
      refine ⟨xs.map (fun x => (x.2.placement, (u.claimList x.1).target)), ?_⟩
      rw [run]
      refine ⟨?_, by simp [noted.notes], fun i p x at_p at_x => ?_⟩
      · rw [← noted.pairDone_any]
        exact answer
      · rw [List.getElem?_map, Option.map_eq_some_iff] at at_x
        obtain ⟨n, at_n, rfl⟩ := at_x
        have less : i < ys.length := by
          rw [noted.replies]
          exact (List.getElem?_eq_some_iff.1 at_p).1
        have at_y : ys[i]? = some ys[i] := List.getElem?_eq_getElem less
        obtain ⟨number, -, target, replied⟩ := noted.each i p ys[i] n at_p at_y at_n
        refine ⟨⟨ys[i], target, at_y, replied⟩, fun a at_a => ?_⟩
        rw [Option.some.inj (at_a.symm.trans number)]

end Sys2Proof.Machine

end

/-! # Overrides through the Sequence Engine (R24, R27, R28, R152) -/

section

namespace Sys2Proof.Machine

/-! ## The OVERRIDE claims of a list -/

/-- The OVERRIDE claims of a list. -/
def overridesOf (cs : List Claim) : List Claim := cs.filter (fun c => c.src = .override)

theorem overridesOf_nil_iff (cs : List Claim) : overridesOf cs = [] ↔ ∀ c ∈ cs, c.src ≠ .override := by
  simp [overridesOf]

/-- Whether a list is overridden is told by its OVERRIDE claims. -/
theorem claimOf_override (cs : List Claim) : claimOf cs .override = (overridesOf cs).head? := by
  rw [overridesOf, List.head?_filter, claimOf]
  congr 1

theorem overridesOf_insertClaim {c : Claim} (other : c.src ≠ .override) (act : List (Fin 24)) (cs : List Claim) :
    overridesOf (insertClaim act c cs) = overridesOf cs := by
  induction cs with
  | nil => simp [insertClaim, overridesOf, other]
  | cons x cs ih =>
    unfold insertClaim
    split
    · simp [overridesOf, other]
    · simp only [overridesOf, List.filter_cons] at ih ⊢
      rw [ih]

theorem overridesOf_replaceClaim {src : Source} (other : src ≠ .override) (cs : List Claim) (cmd : Command) :
    overridesOf (replaceClaim cs src cmd) = overridesOf cs := by
  induction cs with
  | nil => rfl
  | cons x cs ih =>
    simp only [overridesOf, replaceClaim] at ih
    simp only [overridesOf, replaceClaim, List.map_cons, List.filter_cons, ih]
    by_cases same : x.src = src
    · simp [same, other]
    · simp [same]

/-- A placing of another source adds and sheds no OVERRIDE claim (R24). -/
theorem overridesOf_placeClaim {src : Source} (other : src ≠ .override) (act : List (Fin 24)) (cs : List Claim) (cmd : Command) :
    overridesOf (placeClaim act cs src cmd).1 = overridesOf cs := by
  cases found : claimOf cs src with
  | some old =>
    rw [placeClaim_held found]
    split
    · rfl
    · exact overridesOf_replaceClaim other cs cmd
  | none =>
    rcases claims_cases cs with room | ⟨front, low, rfl, full⟩
    · rw [placeClaim_room found room]
      exact overridesOf_insertClaim other act cs
    · rw [placeClaim_full found full]
      split
      · rename_i above
        have notOverride : low.src ≠ .override := fun isOverride => by
          rw [not_outranks_override isOverride other] at above
          cases above
        refine (overridesOf_insertClaim other act front).trans ?_
        simp [overridesOf, notOverride]
      · rfl

/-- A claim of another source enters below an OVERRIDE claim at the head. -/
theorem insertClaim_below {o c : Claim} (isOverride : o.src = .override) (other : c.src ≠ .override) (act : List (Fin 24))
    (below : List Claim) : insertClaim act c (o :: below) = o :: insertClaim act c below := by
  rw [insertClaim, not_outranks_override isOverride other]
  rfl

/-- A placing of another source leaves an OVERRIDE claim at the head (R19, R24). -/
theorem placeClaim_below {o : Claim} (isOverride : o.src = .override) {src : Source} (other : src ≠ .override)
    (act : List (Fin 24)) (below : List Claim) (cmd : Command) :
    ∃ below', (placeClaim act (o :: below) src cmd).1 = o :: below' := by
  have differs : o.src ≠ src := fun same => other (same.symm.trans isOverride)
  cases found : claimOf (o :: below) src with
  | some old =>
    rw [placeClaim_held found]
    split
    · exact ⟨below, rfl⟩
    · exact ⟨replaceClaim below src cmd, by simp [replaceClaim, differs]⟩
  | none =>
    rcases claims_cases (o :: below) with room | ⟨front, low, whole, full⟩
    · rw [placeClaim_room found room]
      exact ⟨_, insertClaim_below isOverride other act below⟩
    · rw [whole] at found ⊢
      rw [placeClaim_full found full]
      cases front with
      | nil => simp at full
      | cons x front =>
        obtain ⟨rfl, rfl⟩ := List.cons.inj whole
        split
        · exact ⟨_, insertClaim_below isOverride other act front⟩
        · exact ⟨_, rfl⟩

/-! ## A rule of the lists through the engine -/

/-- What to show of the claim lists so that the Sequence Engine keeps `P`: the lists tell it, and a zone's claim placed keeps
it (R65). -/
structure ListRule (P : State → Prop) : Prop where
  lists : ∀ s t, P s → t.lists = s.lists → P t
  place : ∀ w a src cmd, P w.st → src ≠ .override → P (placeOp a src cmd w).1.st

theorem judgeStage_lists (s : State) (z : Fin 24) : (judgeStage s z).lists = s.lists := by
  unfold judgeStage
  dsimp only
  split
  · rfl
  · split <;> rfl

theorem judgeSub_lists (s : State) (z : Fin 24) : (judgeSub s z).lists = s.lists := by
  unfold judgeSub
  dsimp only
  split <;> rfl

theorem finishStage_lists (s : State) (z : Fin 24) (cs : CurrentStage) : (finishStage s z cs).lists = s.lists := by
  unfold finishStage
  dsimp only
  split
  · rfl
  · split <;> rfl

theorem resumeZone_lists (touched : List (Fin 64)) (s : State) (z : Fin 24) : (resumeZone touched s z).lists = s.lists := by
  unfold resumeZone
  dsimp only
  split
  · split
    · split <;> rfl
    · rfl
  · rfl

theorem zoneSource_notOverride (r : ZoneRecord) (z : Fin 24) : zoneSource r z ≠ .override := by
  rcases zoneSource_isZone r z with src | src <;> rw [src] <;> exact nofun

namespace ListRule

variable {P : State → Prop} (R : ListRule P)
include R

theorem placeCommand (z : Fin 24) (c : StageCommand) {w : Work} (h : P w.st) : P (placeCommand z w c).st := by
  unfold Machine.placeCommand
  dsimp only [Work.map_st]
  refine R.lists _ _ (R.place _ _ _ _ ?_ (zoneSource_notOverride _ _)) (refreshEntries_lists _ _)
  exact R.lists _ _ h rfl

theorem issueStage (z : Fin 24) (cs : CurrentStage) (mark : Bool) {w : Work} (h : P w.st) : P (issueStage z cs mark w).st :=
  R.lists _ _ (foldl_work_keeps _ (fun _ c => R.placeCommand z c) _ h) rfl

theorem takeStage (z : Fin 24) (cs : CurrentStage) {w : Work} (h : P w.st) : P (takeStage z cs w).st := by
  unfold Machine.takeStage
  split
  · exact R.issueStage _ _ _ h
  · dsimp only
    split
    · exact R.lists _ _ h (finishStage_lists _ _ _)
    · exact R.issueStage _ _ _ h
    · exact R.issueStage _ _ _ h
    · exact R.lists _ _ h rfl

theorem advanceZone (z : Fin 24) {w : Work} (h : P w.st) : P (advanceZone z w).st := by
  unfold Machine.advanceZone
  split
  · exact h
  · split
    · exact R.takeStage _ _ h
    · exact R.lists _ _ h (finishStage_lists _ _ _)

theorem judged {w : Work} (h : P w.st) : P ((resumeZones w).map judgeZones).st :=
  foldl_keeps _ (fun s z h => R.lists _ _ h ((judgeSub_lists _ z).trans (judgeStage_lists s z))) _
    (foldl_keeps _ (fun s z h => R.lists _ _ h (resumeZone_lists w.touched s z)) _ h)

theorem engineLoop (n : Nat) {w : Work} (h : P w.st) : P (engineLoop n w).st := by
  induction n generalizing w with
  | zero => exact h
  | succ n ih =>
    simp only [Machine.engineLoop]
    split
    · exact R.judged h
    · exact ih (R.advanceZone _ (R.judged h))

theorem settled {w : Work} (h : P w.st) : P (settled w) := R.engineLoop engineRounds h

end ListRule

/-- The engine adds and sheds no OVERRIDE claim. -/
def SameOverridesOf (s t : State) : Prop :=
  ∀ a, overridesOf (t.claimList a).claims = overridesOf (s.claimList a).claims

theorem sameOverridesOf_rule (s : State) : ListRule (SameOverridesOf s) where
  lists t u h same a := by
    have list : u.claimList a = t.claimList a := by simp only [State.claimList, same]
    rw [list]
    exact h a
  place w b src cmd h other a := by
    obtain ⟨only, -, target, list, -⟩ := placeOp_only b src cmd w
    by_cases same : a = b
    · subst same
      rw [list]
      exact (overridesOf_placeClaim other _ _ _).trans (h a)
    · rw [only.claimList_other same]
      exact h a

theorem SameOverridesOf.refl (s : State) : SameOverridesOf s s := fun _ => rfl

/-- An OVERRIDE claim governs an actuator: it is the one OVERRIDE claim of the list, at the head, and its command the target (R28). -/
def Governs (a : Fin 64) (cmd : Command) (s : State) : Prop :=
  (∃ below, (s.claimList a).claims = ⟨.override, cmd⟩ :: below ∧ ∀ c ∈ below, c.src ≠ .override) ∧
    (s.claimList a).target = some cmd

theorem governs_rule (a : Fin 64) (cmd : Command) : ListRule (Governs a cmd) where
  lists s t h same := by
    have list : t.claimList a = s.claimList a := by simp only [State.claimList, same]
    unfold Governs
    rw [list]
    exact h
  place w b src c h other := by
    obtain ⟨only, -, target, list, targeted⟩ := placeOp_only b src c w
    by_cases same : a = b
    · subst same
      obtain ⟨⟨below, claims, alone⟩, derived⟩ := h
      have overrides := overridesOf_placeClaim other w.st.activation (w.st.claimList a).claims c
      rw [claims] at list targeted overrides
      obtain ⟨below', placed⟩ := placeClaim_below (o := ⟨.override, cmd⟩) rfl other w.st.activation below c
      rw [placed] at list targeted overrides
      have alone' : ∀ c ∈ below', c.src ≠ .override := by
        rw [← overridesOf_nil_iff] at alone ⊢
        have split : ∀ l, overridesOf ((⟨.override, cmd⟩ : Claim) :: l) = ⟨.override, cmd⟩ :: overridesOf l := fun _ => rfl
        rw [split, split, alone] at overrides
        exact (List.cons.inj overrides).2
      refine ⟨⟨below', by rw [list], alone'⟩, ?_⟩
      rw [list]
      rcases targeted with new | ⟨-, old⟩
      · exact new.trans (deriveTarget_override alone')
      · exact old.trans derived
    · unfold Governs
      rw [only.claimList_other same]
      exact h

/-! ## OVERRIDE-SET (R152) -/

section

variable {cs : List Claim} (alone : ∀ c ∈ cs.tail, c.src ≠ .override)
include alone

/-- The one OVERRIDE claim of a list is its head. -/
theorem override_head {old : Claim} (found : claimOf cs .override = some old) :
    ∃ below, cs = old :: below ∧ ∀ c ∈ below, c.src ≠ .override := by
  obtain ⟨mem, isOverride⟩ := claimOf_mem found
  cases cs with
  | nil => cases mem
  | cons x below =>
    rcases List.mem_cons.1 mem with rfl | inBelow
    · exact ⟨below, rfl, alone⟩
    · exact absurd isOverride (alone old inBelow)

/-- An OVERRIDE claim placed is the HEAD, and the only OVERRIDE claim (R22, R23, R24). -/
theorem placeClaim_override_head (act : List (Fin 24)) (cmd : Command) :
    ∃ below, (placeClaim act cs .override cmd).1 = ⟨.override, cmd⟩ :: below ∧ ∀ c ∈ below, c.src ≠ .override := by
  cases found : claimOf cs .override with
  | some old =>
    obtain ⟨-, isOverride⟩ := claimOf_mem found
    obtain ⟨below, rfl, others⟩ := override_head alone found
    rw [placeClaim_held found]
    have kept : replaceClaim below .override cmd = below :=
      (List.map_congr_left fun c mem => if_neg (others c mem)).trans (List.map_id' below)
    split
    · rename_i same
      exact ⟨below, by rw [← same, ← isOverride], others⟩
    · refine ⟨below, ?_, others⟩
      change (if old.src = .override then { old with cmd := cmd } else old) :: replaceClaim below .override cmd = _
      rw [kept, if_pos isOverride, isOverride]
  | none =>
    have none := (claimOf_none_iff cs _).1 found
    rcases claims_cases cs with room | ⟨front, low, rfl, full⟩
    · rw [placeClaim_room found room]
      exact ⟨cs, insertClaim_override none, none⟩
    · have others : ∀ c ∈ front, c.src ≠ .override := fun c mem => none c (List.mem_append_left _ mem)
      rw [placeClaim_full found full, if_pos (override_outranks (none low (by simp)))]
      exact ⟨front, insertClaim_override others, others⟩

end

theorem placeClaim_override_held {cs : List Claim} {old : Claim} (found : claimOf cs .override = some old) (act : List (Fin 24))
    (cmd : Command) : (placeClaim act cs .override cmd).2 = if old.cmd = cmd then .same else .replaced := by
  rw [placeClaim_held found]
  split <;> rfl

/-- A list with room sheds nothing for an OVERRIDE claim, and a full one its lowest claim (R23, R24). -/
theorem placeClaim_override_new {cs : List Claim} (absent : claimOf cs .override = none) (act : List (Fin 24)) (cmd : Command) :
    (cs.length < 6 ∧ (placeClaim act cs .override cmd).2 = .placed) ∨
      (¬ cs.length < 6 ∧ ∃ low, cs.getLast? = some low ∧ (placeClaim act cs .override cmd).2 = .placedShedding low) := by
  rcases claims_cases cs with room | ⟨front, low, rfl, full⟩
  · rw [placeClaim_room absent room]
    exact .inl ⟨room, rfl⟩
  · have above : outranks act ⟨.override, cmd⟩ low = true :=
      override_outranks ((claimOf_none_iff _ _).1 absent low (by simp))
    rw [placeClaim_full absent full, if_pos above]
    exact .inr ⟨Nat.not_lt.2 full, low, List.getLast?_concat, rfl⟩

/-- The answer to an OVERRIDE-SET is NO-CHANGE exactly with placement SAME: the claim is never shed (R24, R152). -/
theorem override_result (act : List (Fin 24)) (cs : List Claim) (cmd : Command) :
    (placeClaim act cs .override cmd).2.result =
      if (placeClaim act cs .override cmd).2.placement = .same then .noChange else .done := by
  cases found : claimOf cs .override with
  | some old =>
    rw [placeClaim_override_held found]
    split <;> rfl
  | none =>
    rcases placeClaim_override_new found act cmd with ⟨-, placed⟩ | ⟨-, low, -, placed⟩ <;> rw [placed] <;> rfl

/-- What OVERRIDE-SET makes of the part before the engine: its list with the claim placed, and the override counted. -/
theorem placeOverride_only (a : Fin 64) (cmd : Command) (s : State) (targeted : Targeted s a) :
    let p := placeClaim s.activation (s.claimList a).claims .override cmd
    let t := (placeOverride a cmd (Work.start s)).1.st
    OnlyList a s { t with overrides := s.overrides } ∧ Keeps s { t with overrides := s.overrides } ∧
      (placeOverride a cmd (Work.start s)).2 = p.2 ∧ t.overrides = s.overrides + (if p.2.inserted then 1 else 0) ∧
      t.claimList a =
        { claims := p.1
          target := deriveTarget (restCommand (s.record a)) p.1
          normalShed := (s.claimList a).normalShed || shedsNormal .override p.2 } := by
  intro p t
  obtain ⟨only, placing, -⟩ := placeOp_only a .override cmd (Work.start s)
  have list := placeOp_targeted a .override cmd (Work.start s) targeted
  have kept := keeps_placeOp a .override cmd (Work.start s)
  have uncounted : { t with overrides := s.overrides } = (placeOp a .override cmd (Work.start s)).1.st := by
    change { (placeOp a .override cmd (Work.start s)).1.st with overrides := (Work.start s).st.overrides } = _
    rw [← kept.overrides]
  have counted : t.overrides = (placeOp a .override cmd (Work.start s)).1.st.overrides +
      (if (placeOp a .override cmd (Work.start s)).2.inserted then 1 else 0) := rfl
  rw [uncounted, counted, kept.overrides, placing]
  exact ⟨only, kept, placing, rfl, list⟩

/-- OVERRIDE-SET past its checks (R152). -/
theorem takeOverrideSet_placed {s : State} {b code : Byte} {v : Half} {a : Fin 64} {cmd : Command}
    (fault : s.configFault = false) (configured : s.configuredActuator b = some a)
    (matching : matchingCommand (s.record a) code v = some cmd) (range : speedInRange cmd = true) :
    takeOverrideSet b code v s =
      (settled (placeOverride a cmd (Work.start s)).1,
        { result := (placeOverride a cmd (Work.start s)).2.result
          body := .overrideSet (placeOverride a cmd (Work.start s)).2.placement
            ((placeOverride a cmd (Work.start s)).2.shedClaim.map (·.src))
            ((settled (placeOverride a cmd (Work.start s)).1).claimList a).target }) := by
  simp only [takeOverrideSet, fault, configured, matching, range]
  rfl

/-- Settles O30: the placed OVERRIDE claim governs, and the engine, whose claims rank below it, keeps it so. -/
theorem anOverrideGoverns : Obligations.AnOverrideGoverns := by
  intro b code v a cmd s takes fault configured matching range alone targeted
  have answer := request_answers (k := 0x20) takes (takeOverrideSet_placed fault configured matching range)
  obtain ⟨only, kept, placing, counted, list⟩ := placeOverride_only a cmd s targeted
  have engine : Keeps _ (settled (placeOverride a cmd (Work.start s)).1) :=
    keeps_engineLoop engineRounds (placeOverride a cmd (Work.start s)).1
  have governs : Governs a cmd (placeOverride a cmd (Work.start s)).1.st := by
    obtain ⟨below, claims, others⟩ := placeClaim_override_head alone s.activation cmd
    rw [Governs, list, claims]
    exact ⟨⟨below, rfl, others⟩, deriveTarget_override (rest := restCommand (s.record a)) others⟩
  obtain ⟨⟨after, governed, -⟩, target⟩ := (governs_rule a cmd).settled governs
  rw [target, placing, override_result] at answer
  refine ⟨_, _, _, answer, target, by rw [governed]; rfl, fun old found => ?_, fun absent => ?_, only, by rw [list], ?_,
    engine.activation.trans kept.activation, engine.standDown.trans kept.standDown, engine.store.trans kept.store,
    engine.plant.trans kept.plant, engine.sequences.trans kept.sequences⟩
  · rw [engine.overrides, counted, placeClaim_override_held found]
    split <;> exact ⟨rfl, rfl, rfl⟩
  · rw [engine.overrides, counted]
    rcases placeClaim_override_new absent s.activation cmd with ⟨room, placed⟩ | ⟨full, low, last, placed⟩
    · rw [placed, if_pos room]
      exact ⟨rfl, rfl, rfl⟩
    · rw [placed, if_neg full, last]
      exact ⟨rfl, rfl, rfl⟩
  · rw [list]
    simp [shedsNormal]

end Sys2Proof.Machine

end

/-! # OVERRIDE-RELEASE and the PENDING images that it lets in (R26, R27, R154, R155, R187) -/

section

namespace Sys2Proof.Machine

/-! ## The event of an empty part at the Configuration Store (R155, R187) -/

theorem storeEmptied_occupied {w : Work} (h : w.st.mayApply = false) : storeEmptied w = w := by
  rw [storeEmptied, h]
  rfl

theorem applyIfPending_none {sec : Sector} {w : Work} (h : (w.st.store.sector sec).activation ≠ .pending) :
    applyIfPending sec w = w := if_neg h

theorem storeEmptied_may {w : Work} (h : w.st.mayApply = true) :
    storeEmptied w = applyIfPending .sequences (applyIfPending .plant w) := if_pos h

theorem storeEmptied_noneWaits {w : Work} (plant : w.st.store.plant.activation ≠ .pending)
    (sequences : w.st.store.sequences.activation ≠ .pending) : storeEmptied w = w := by
  cases may : w.st.mayApply with
  | false => exact storeEmptied_occupied may
  | true =>
    rw [storeEmptied_may may, applyIfPending_none (sec := .plant) plant, applyIfPending_none (sec := .sequences) sequences]

/-- The event of an empty part does nothing where no image waits, a zone is active or an override stands. -/
theorem storeEmptied_quiet {w : Work}
    (h : (w.st.store.plant.activation ≠ .pending ∧ w.st.store.sequences.activation ≠ .pending) ∨ w.st.activation ≠ [] ∨
      w.st.overrides ≠ 0) : storeEmptied w = w := by
  rcases h with ⟨plant, sequences⟩ | occupied
  · exact storeEmptied_noneWaits plant sequences
  · refine storeEmptied_occupied ?_
    rw [← Bool.not_eq_true, mayApply_iff]
    exact fun ⟨empty, zero⟩ => occupied.elim (fun active => active empty) (fun held => held zero)

theorem storeEmptied_activation (w : Work) : (storeEmptied w).st.activation = w.st.activation := by
  unfold storeEmptied
  split
  · rw [applyIfPending_activation, applyIfPending_activation]
  · rfl

theorem storeEmptied_overrides (w : Work) : (storeEmptied w).st.overrides = w.st.overrides := by
  unfold storeEmptied
  split
  · rw [applyIfPending_overrides, applyIfPending_overrides]
  · rfl

theorem applyIfPending_sequences_lists (w : Work) : (applyIfPending .sequences w).st.lists = w.st.lists := by
  unfold applyIfPending
  split <;> rfl

/-- A PENDING PLANT image applied is in force, and its application touches neither SEQUENCES nor its sector. -/
theorem applyIfPending_plant {w : Work} (h : w.st.store.plant.activation = .pending) :
    PlantInForce (plantOf w.st.store.plant.stored) (applyIfPending .plant w).st ∧ FlagsSet (applyIfPending .plant w).st ∧
      (applyIfPending .plant w).st.store = w.st.store.setSector .plant { w.st.store.plant with activation := .none } ∧
      (applyIfPending .plant w).st.sequences = w.st.sequences := by
  have applied : applyIfPending .plant w = applySector .plant w := if_pos h
  have plant : applySector .plant w = applyPlant (plantOf w.st.store.plant.stored) (w.map fun s => s.setActivation .plant .none) :=
    rfl
  rw [applied]
  refine ⟨?_, ?_, applySector_store .plant w, ?_⟩
  · rw [plant]
    exact applyPlant_inForce _ _
  · rw [plant]
    exact (applyPlant_effect _ _).2.1
  · rw [plant]
    exact (keeps_applyPlant _ _).sequences

/-- A SEQUENCES image applied leaves the plant in force. -/
theorem applyIfPending_sequences_frame (w : Work) {p : PlantImage} (h : PlantInForce p w.st) (flags : FlagsSet w.st) :
    PlantInForce p (applyIfPending .sequences w).st ∧ FlagsSet (applyIfPending .sequences w).st := by
  unfold applyIfPending
  split
  · exact ⟨h, raiseFlags_set _⟩
  · exact ⟨h, flags⟩

/-- Both sectors at the event of an empty part: a PENDING image is in force with its activation state NONE, and the other stays. -/
theorem storeEmptied_applies {w : Work} (may : w.st.mayApply = true) :
    (w.st.store.plant.activation = .pending →
      (storeEmptied w).st.store.plant = { w.st.store.plant with activation := .none } ∧
        PlantInForce (plantOf w.st.store.plant.stored) (storeEmptied w).st ∧ FlagsSet (storeEmptied w).st) ∧
    (w.st.store.plant.activation ≠ .pending →
      (storeEmptied w).st.store.plant = w.st.store.plant ∧ (storeEmptied w).st.plant = w.st.plant) ∧
    (w.st.store.sequences.activation = .pending →
      (storeEmptied w).st.store.sequences = { w.st.store.sequences with activation := .none } ∧
        (storeEmptied w).st.sequences = sequencesOf w.st.store.sequences.stored ∧ FlagsSet (storeEmptied w).st) ∧
    (w.st.store.sequences.activation ≠ .pending →
      (storeEmptied w).st.store.sequences = w.st.store.sequences ∧ (storeEmptied w).st.sequences = w.st.sequences) := by
  have store : (applyIfPending .sequences (applyIfPending .plant w)).st.store.plant = (applyIfPending .plant w).st.store.plant :=
    applyIfPending_sector_other (sec := .sequences) (other := .plant) _ (by decide)
  have waits : (applyIfPending .plant w).st.store.sequences = w.st.store.sequences :=
    applyIfPending_sector_other (sec := .plant) (other := .sequences) _ (by decide)
  have sequences : (applyIfPending .plant w).st.sequences = w.st.sequences := by
    by_cases pending : w.st.store.plant.activation = .pending
    · exact (applyIfPending_plant pending).2.2.2
    · rw [applyIfPending_none (sec := .plant) pending]
  rw [storeEmptied_may may]
  refine ⟨fun pending => ?_, fun idle => ?_, fun pending => ?_, fun idle => ?_⟩
  · obtain ⟨force, flags, stored, -⟩ := applyIfPending_plant pending
    exact ⟨by rw [store, stored]; rfl, applyIfPending_sequences_frame _ force flags⟩
  · rw [applyIfPending_none (sec := .plant) idle]
    unfold applyIfPending
    split <;> exact ⟨rfl, rfl⟩
  · have pending' : ((applyIfPending .plant w).st.store.sector .sequences).activation = .pending := by
      change (applyIfPending .plant w).st.store.sequences.activation = .pending
      rw [waits, pending]
    rw [applyIfPending, if_pos pending']
    exact ⟨congrArg (fun x : SectorState => { x with activation := .none }) waits,
      congrArg (fun x : SectorState => sequencesOf x.stored) waits, raiseFlags_set _⟩
  · have idle' : ((applyIfPending .plant w).st.store.sector .sequences).activation ≠ .pending := by
      change (applyIfPending .plant w).st.store.sequences.activation ≠ .pending
      rw [waits]
      exact idle
    rw [applyIfPending_none idle']
    exact ⟨waits, sequences⟩

/-- The event of an empty part leaves the lists, or empties every one of them. -/
theorem storeEmptied_lists (w : Work) :
    (storeEmptied w).st.lists = w.st.lists ∨
      (w.st.mayApply = true ∧ ∀ a, ((storeEmptied w).st.claimList a).claims = []) := by
  cases may : w.st.mayApply with
  | false => exact .inl (by rw [storeEmptied_occupied may])
  | true =>
    by_cases pending : w.st.store.plant.activation = .pending
    · obtain ⟨-, ⟨-, -, lists⟩, -⟩ := (storeEmptied_applies may).1 pending
      exact .inr ⟨rfl, fun a => (lists a).1⟩
    · rw [storeEmptied_may may, applyIfPending_none (sec := .plant) pending, applyIfPending_sequences_lists]
      exact .inl rfl

theorem keeps_settled (w : Work) : Keeps w.st (settled w) := keeps_engineLoop engineRounds w

/-- After the event of an empty part a PENDING image is applied where the part is empty, and waits where it is not. -/
theorem pendingApplied_storeEmptied (w : Work) : PendingApplied w.st (settled (storeEmptied w)) := by
  have engine := keeps_settled (storeEmptied w)
  have activation := engine.activation.trans (storeEmptied_activation w)
  have overrides := engine.overrides.trans (storeEmptied_overrides w)
  unfold PendingApplied
  rw [activation, overrides]
  refine ⟨fun empty none => ?_, fun occupied => ?_⟩
  · have idle : settled (storeEmptied w) = (storeEmptied w).st :=
      engineLoop_idle ((storeEmptied_activation w).trans empty)
    rw [idle]
    exact storeEmptied_applies ((mayApply_iff _).2 ⟨empty, none⟩)
  · rw [storeEmptied_quiet (.inr occupied)] at engine ⊢
    exact ⟨engine.store, engine.plant, engine.sequences⟩

theorem PendingApplied.congr {s s' t : State} (h : PendingApplied s t) (store : s'.store = s.store) (plant : s'.plant = s.plant)
    (sequences : s'.sequences = s.sequences) : PendingApplied s' t := by
  unfold PendingApplied at h ⊢
  rwa [store, plant, sequences]

/-! ## Withdrawing with re-offer (R26, R27) -/

theorem overridesOf_removeClaim (cs : List Claim) : overridesOf (removeClaim cs .override) = [] := by
  simp [overridesOf_nil_iff, removeClaim]

/-- Re-offer adds no OVERRIDE claim. -/
theorem overridesOf_reoffer (s : State) (a : Fin 64) (cs : List Claim) : overridesOf (reoffer s a cs) = overridesOf cs := by
  rw [reoffer_eq]
  induction s.activation generalizing cs with
  | nil => rfl
  | cons z l ih =>
    rw [List.foldl_cons, ih]
    obtain same | ⟨e, -, -, -, inserted⟩ := reofferZone_cases s a cs z
    · rw [same]
    · rw [inserted]
      exact overridesOf_insertClaim (zoneSource_notOverride _ _) _ _

/-- A re-offer looks at the maps' entries for its own actuator. -/
theorem OnlyList.reoffer_other {s t : State} {a b : Fin 64} (h : OnlyList a s t) (other : b ≠ a) (cs : List Claim) :
    reoffer t b cs = reoffer s b cs := by
  obtain ⟨⟨l, d, zs, ps, frame⟩, -, -, maps⟩ := h
  have activation : t.activation = s.activation := by rw [frame]
  have shed : ∀ z, shedClaimOf t b z = shedClaimOf s b z := fun z => by
    obtain ⟨m, zone, others, -⟩ := maps z
    unfold shedClaimOf zoneSource
    rw [zone]
    dsimp only
    rw [others b other]
  have step : reofferZone t b = reofferZone s b := by
    funext cs z
    rw [reofferZone_eq, reofferZone_eq, shed, activation]
  rw [reoffer_eq, reoffer_eq, step, activation]

/-- An actuator's list from which its OVERRIDE claim has been withdrawn with re-offer, its target derived anew and taken by its
drive (R26 to R29). -/
structure OverrideLeft (a : Fin 64) (s t : State) : Prop where
  claims : (t.claimList a).claims = reoffer s a ((s.claimList a).claims.filter (fun c => c.src != .override))
  target : (t.claimList a).target = deriveTarget (restCommand (s.record a)) (t.claimList a).claims
  drive : DriveFollows a s t

theorem OverrideLeft.overridesOf {a : Fin 64} {s t : State} (h : OverrideLeft a s t) :
    overridesOf (t.claimList a).claims = [] := by
  rw [h.claims, overridesOf_reoffer]
  exact overridesOf_removeClaim _

theorem overridden_iff (s : State) (a : Fin 64) : s.overridden a = true ↔ overridesOf (s.claimList a).claims ≠ [] := by
  rw [State.overridden, claimOf_override]
  cases overridesOf (s.claimList a).claims <;> simp

theorem overridden_congr {s t : State} {a b : Fin 64}
    (h : overridesOf (t.claimList b).claims = overridesOf (s.claimList a).claims) : t.overridden b = s.overridden a := by
  rw [Bool.eq_iff_iff, overridden_iff, overridden_iff, h]

theorem withdrawOverride_left {a : Fin 64} {w : Work} (standing : w.st.overridden a = true) :
    OnlyList a w.st (withdrawOp a .override w).st ∧ OverrideLeft a w.st (withdrawOp a .override w).st := by
  have found : claimOf (w.st.claimList a).claims .override ≠ none := by
    simpa [State.overridden, Option.isSome_iff_ne_none] using standing
  obtain ⟨only, list⟩ := withdrawOp_only found
  have ⟨_, _, follows, _⟩ := only
  exact ⟨only, ⟨by rw [list]; rfl, by rw [list], follows⟩⟩

/-- What a drive makes of its target is told by its own list and drive. -/
theorem DriveFollows.afterOther {a b : Fin 64} {s t u : State} (h : DriveFollows b t u) (only : OnlyList a s t) (other : b ≠ a) :
    DriveFollows b s u := by
  have list := only.claimList_other other
  have drive := only.drive_other other
  obtain ⟨⟨l, d, zs, ps, frame⟩, -⟩ := only
  obtain ⟨stays, takes, flags⟩ := h
  rw [list, drive] at stays
  rw [list, drive] at takes
  rw [drive] at flags
  exact ⟨stays, fun c target differs => (takes c target differs).congr (by rw [frame]; rfl) (by rw [frame]; rfl), flags⟩

/-- What a drive has made of its target stands while its list and its drive do. -/
theorem DriveFollows.thenOther {a : Fin 64} {s t u : State} (h : DriveFollows a s t) (list : u.claimList a = t.claimList a)
    (drive : u.drive a = t.drive a) (kept : Keeps t u) : DriveFollows a s u := by
  obtain ⟨stays, takes, flags⟩ := h
  unfold DriveFollows
  rw [list, drive]
  exact ⟨stays, takes, fun fault => (flags fault).keeps kept⟩

/-- The OVERRIDE claims of several lists withdrawn in turn: each of those lists is left by itself, and every other list and drive is
as it was (R154, log 25). -/
theorem withdrawOverrides_left (l : List (Fin 64)) (once : l.Nodup) {w : Work} (standing : ∀ a ∈ l, w.st.overridden a = true) :
    (∀ a ∈ l, OverrideLeft a w.st (l.foldl (fun w a => withdrawOp a .override w) w).st) ∧
      ∀ a, a ∉ l → (l.foldl (fun w a => withdrawOp a .override w) w).st.claimList a = w.st.claimList a ∧
        (l.foldl (fun w a => withdrawOp a .override w) w).st.drive a = w.st.drive a := by
  induction l generalizing w with
  | nil => exact ⟨fun a mem => absurd mem List.not_mem_nil, fun a _ => ⟨rfl, rfl⟩⟩
  | cons a l ih =>
    obtain ⟨notIn, once⟩ := List.nodup_cons.1 once
    obtain ⟨only, left⟩ := withdrawOverride_left (standing a (List.mem_cons_self ..))
    have differs : ∀ b ∈ l, b ≠ a := fun b mem same => notIn (same ▸ mem)
    have still : ∀ b ∈ l, (withdrawOp a .override w).st.overridden b = true := fun b mem => by
      unfold State.overridden
      rw [only.claimList_other (differs b mem)]
      exact standing b (List.mem_cons_of_mem _ mem)
    obtain ⟨withdrawn, others⟩ := ih once still
    rw [List.foldl_cons]
    refine ⟨fun b mem => ?_, fun b notMem => ?_⟩
    · rcases List.mem_cons.1 mem with rfl | mem
      · obtain ⟨list, drive⟩ := others b notIn
        have kept : Keeps (withdrawOp b .override w).st (l.foldl (fun w a => withdrawOp a .override w) (withdrawOp b .override w)).st :=
          keeps_foldl_work _ (fun w a => keeps_withdrawOp a .override w) _ _
        exact ⟨by rw [list]; exact left.claims, by rw [list]; exact left.target, left.drive.thenOther list drive kept⟩
      · obtain ⟨claims, target, follows⟩ := withdrawn b mem
        have other := differs b mem
        refine ⟨?_, ?_, follows.afterOther only other⟩
        · rw [claims, only.claimList_other other, only.reoffer_other other]
        · rw [target]
          congr 2
          simp only [State.record, (keeps_withdrawOp a .override w).plant]
    · obtain ⟨other, notIn⟩ := List.ne_and_not_mem_of_not_mem_cons notMem
      obtain ⟨list, drive⟩ := others b notIn
      exact ⟨list.trans (only.claimList_other other), drive.trans (only.drive_other other)⟩

/-! ## OVERRIDE-RELEASE of one actuator (R154) -/

theorem configuredActuator_notAll {s : State} {b : Byte} {a : Fin 64} (h : s.configuredActuator b = some a) : b ≠ 0xFF := by
  rintro rfl
  have none : s.configuredActuator 0xFF = none := rfl
  rw [none] at h
  cases h

theorem takeOverrideRelease_one {s : State} {b : Byte} {a : Fin 64} (configured : s.configuredActuator b = some a) :
    takeOverrideRelease b s =
      if s.overridden a then
        (settled (releaseOne a (Work.start s)),
          { result := .done, body := .target ((settled (releaseOne a (Work.start s))).claimList a).target })
      else (s, { result := .noChange, body := .target (s.claimList a).target }) := by
  rw [takeOverrideRelease, if_neg (configuredActuator_notAll configured), takeReleaseOne, configured]
  rfl

/-- The event of an empty part stands behind every release: with overrides left it does nothing. -/
theorem releaseOne_eq (a : Fin 64) (w : Work) :
    releaseOne a w = storeEmptied ((withdrawOp a .override w).map fun s => { s with overrides := s.overrides - 1 }) := by
  unfold releaseOne
  dsimp only
  split
  · rfl
  · rename_i some
    exact (storeEmptied_quiet (.inr (.inr some))).symm

/-- The override count as lists tell it, one release on. -/
theorem overrideLists_released {a : Fin 64} {s t : State} (only : OnlyList a s t) (standing : s.overridden a = true)
    (left : t.overridden a = false) : overrideLists s = overrideLists t + 1 := by
  have count := overrideLists_one (a := a) (s := s) (t := t) fun b other => by rw [only.claimList_other other]
  have before : (claimOf (s.claimList a).claims .override).isSome = true := standing
  have after : (claimOf (t.claimList a).claims .override).isSome = false := left
  rw [before, after] at count
  simpa using count.symm

theorem overridden_of_overrideLists_zero {s : State} (h : overrideLists s = 0) (a : Fin 64) : s.overridden a = false := by
  rw [overrideLists, List.countP_eq_zero] at h
  simpa [State.overridden] using h a (List.mem_finRange a)

/-- What stands after the event of an empty part and the engine: the lists overridden are those that were, for the event empties
lists only where none is. -/
theorem storeEmptied_settled (w : Work) (counted : w.st.overrides = overrideLists w.st) :
    let t := settled (storeEmptied w)
    PendingApplied w.st t ∧ (∀ a, t.overridden a = w.st.overridden a) ∧ t.overrides = w.st.overrides ∧
      t.activation = w.st.activation := by
  refine ⟨pendingApplied_storeEmptied w, fun a => ?_, (keeps_settled _).overrides.trans (storeEmptied_overrides w),
    (keeps_settled _).activation.trans (storeEmptied_activation w)⟩
  rw [overridden_congr ((sameOverridesOf_rule (storeEmptied w).st).settled (SameOverridesOf.refl _) a)]
  rcases storeEmptied_lists w with same | ⟨may, empty⟩
  · exact overridden_congr (by simp only [State.claimList, same])
  · have none := ((mayApply_iff _).1 may).2
    rw [overridden_of_overrideLists_zero (counted.symm.trans none)]
    simp [State.overridden, claimOf, empty a]

/-- The release of one override (R154, R155). -/
theorem releaseOne_done {s : State} (counted : s.overrides = overrideLists s) {a : Fin 64} (standing : s.overridden a = true) :
    let v := (withdrawOp a .override (Work.start s)).st
    let w := releaseOne a (Work.start s)
    let t := settled w
    OnlyList a s v ∧ OverrideLeft a s v ∧
      ((s.store.plant.activation ≠ .pending ∧ s.store.sequences.activation ≠ .pending) ∨ s.activation ≠ [] ∨ s.overrides ≠ 1 →
        w.st = { v with overrides := s.overrides - 1 }) ∧
      PendingApplied s t ∧ t.overridden a = false ∧ (∀ c, c ≠ a → t.overridden c = s.overridden c) ∧
      t.overrides = s.overrides - 1 ∧ t.activation = s.activation := by
  intro v w t
  obtain ⟨only, left⟩ := withdrawOverride_left (w := Work.start s) standing
  have kept : Keeps s v := keeps_withdrawOp a .override (Work.start s)
  have gone : v.overridden a = false := by
    rw [← Bool.not_eq_true, overridden_iff]
    exact fun some => some left.overridesOf
  have lists : overrideLists s = overrideLists v + 1 := overrideLists_released only standing gone
  let x : Work := (withdrawOp a .override (Work.start s)).map fun s => { s with overrides := s.overrides - 1 }
  have withdrawn : x.st = { v with overrides := s.overrides - 1 } := by
    change { v with overrides := v.overrides - 1 } = _
    rw [kept.overrides]
  have whole : w = storeEmptied x := releaseOne_eq a (Work.start s)
  have recounted : x.st.overrides = overrideLists x.st := by
    have same : overrideLists x.st = overrideLists v := rfl
    rw [same, withdrawn]
    change s.overrides - 1 = overrideLists v
    omega
  obtain ⟨pending, overridden, overrides, activation⟩ := storeEmptied_settled x recounted
  rw [← whole] at pending overridden overrides activation
  rw [withdrawn] at overrides activation
  refine ⟨only, left, fun waits => ?_, pending.congr kept.store.symm kept.plant.symm kept.sequences.symm,
    (overridden a).trans gone, fun c other => (overridden c).trans ?_, overrides, activation.trans kept.activation⟩
  · rw [whole, ← withdrawn, storeEmptied_quiet]
    rw [withdrawn]
    dsimp only
    rw [kept.store, kept.activation]
    exact waits.imp id (Or.imp id fun many => by omega)
  · change v.overridden c = s.overridden c
    unfold State.overridden
    rw [only.claimList_other other]
    rfl

/-! ## OVERRIDE-RELEASE of ALL (R154) -/

theorem takeOverrideRelease_all (s : State) :
    takeOverrideRelease 0xFF s =
      if s.overriddenLists.isEmpty then (s, { result := .noChange, body := .released 0 })
      else (settled (releaseAll s.overriddenLists (Work.start s)), { result := .done, body := .released (overrideLists s) }) := by
  have count : s.overriddenLists.length = overrideLists s := by
    rw [State.overriddenLists, overrideLists, List.countP_eq_length_filter]
    rfl
  rw [← count]
  rfl

theorem overriddenLists_isEmpty (s : State) : s.overriddenLists.isEmpty = true ↔ ∀ a, s.overridden a = false := by
  simp [State.overriddenLists, List.filter_eq_nil_iff]

theorem mem_overriddenLists (s : State) (a : Fin 64) : a ∈ s.overriddenLists ↔ s.overridden a = true := by
  simp [State.overriddenLists]

/-- The release of every override (R154, R155). -/
theorem releaseAll_done (s : State) :
    let w := releaseAll s.overriddenLists (Work.start s)
    let t := settled w
    ((s.store.plant.activation ≠ .pending ∧ s.store.sequences.activation ≠ .pending) ∨ s.activation ≠ [] → ∀ a,
        (s.overridden a = false → w.st.claimList a = s.claimList a ∧ w.st.drive a = s.drive a) ∧
        (s.overridden a = true → OverrideLeft a s w.st)) ∧
      PendingApplied s t ∧ (∀ a, t.overridden a = false) ∧ t.overrides = 0 ∧ t.activation = s.activation := by
  intro w t
  obtain ⟨left, others⟩ := withdrawOverrides_left s.overriddenLists ((List.nodup_finRange 64).filter _) (w := Work.start s)
    fun a mem => (mem_overriddenLists s a).1 mem
  have kept : Keeps s (s.overriddenLists.foldl (fun w a => withdrawOp a .override w) (Work.start s)).st :=
    keeps_foldl_work _ (fun w a => keeps_withdrawOp a .override w) _ (Work.start s)
  let x : Work := (s.overriddenLists.foldl (fun w a => withdrawOp a .override w) (Work.start s)).map
    fun s => { s with overrides := 0 }
  have none : ∀ a, x.st.overridden a = false := fun a => by
    rw [← Bool.not_eq_true, overridden_iff, not_not]
    by_cases standing : s.overridden a = true
    · exact (left a ((mem_overriddenLists s a).2 standing)).overridesOf
    · obtain ⟨list, -⟩ := others a fun mem => standing ((mem_overriddenLists s a).1 mem)
      rw [overridden_iff, not_not] at standing
      exact (congrArg (fun l : ClaimList => overridesOf l.claims) list).trans standing
  have counted : x.st.overrides = overrideLists x.st :=
    (List.countP_eq_zero.2 fun a _ standing => absurd standing (by rw [← State.overridden, none a]; simp)).symm
  obtain ⟨pending, overridden, overrides, activation⟩ := storeEmptied_settled x counted
  refine ⟨fun waits a => ?_, pending.congr kept.store.symm kept.plant.symm kept.sequences.symm,
    fun a => (overridden a).trans (none a), overrides, activation.trans kept.activation⟩
  have quiet : w = x := by
    refine storeEmptied_quiet ?_
    rw [show x.st.store = s.store from kept.store, show x.st.activation = s.activation from kept.activation]
    exact waits.imp id .inl
  rw [quiet]
  refine ⟨fun idle => others a fun mem => ?_, fun standing => ?_⟩
  · rw [(mem_overriddenLists s a).1 mem] at idle
    cases idle
  · obtain ⟨claims, target, drive⟩ := left a ((mem_overriddenLists s a).2 standing)
    exact ⟨claims, target, drive⟩

/-- Settles O31: each list is left by its own withdrawal, the engine adds and sheds no OVERRIDE claim, and the event of an empty part
applies what waits. -/
theorem releaseWithdrawsOverrides : Obligations.ReleaseWithdrawsOverrides := by
  intro s takes counted
  refine ⟨fun b a configured => ⟨fun idle => ?_, fun standing => ?_⟩, fun idle => ?_, fun ⟨a, standing⟩ => ?_⟩
  · exact request_answers takes ((takeOverrideRelease_one configured).trans (by rw [idle]; rfl))
  · obtain ⟨only, left, waits, rest⟩ := releaseOne_done counted standing
    exact ⟨_, _, request_answers takes ((takeOverrideRelease_one configured).trans (if_pos standing)), only,
      ⟨left.claims, left.target⟩, waits, rest⟩
  · exact request_answers takes ((takeOverrideRelease_all s).trans (if_pos ((overriddenLists_isEmpty s).2 idle)))
  · have some : ¬ s.overriddenLists.isEmpty = true := fun empty => by
      rw [(overriddenLists_isEmpty s).1 empty a] at standing
      cases standing
    obtain ⟨lists, rest⟩ := releaseAll_done s
    refine ⟨_, request_answers takes ((takeOverrideRelease_all s).trans (if_neg some)), fun waits a => ?_, rest⟩
    obtain ⟨idle, left⟩ := lists waits a
    exact ⟨idle, fun standing => ⟨⟨(left standing).claims, (left standing).target⟩, (left standing).drive⟩⟩

end Sys2Proof.Machine

end
/-! # The zones' runs through an event's operations and the Sequence Engine (R41, R42, R62 to R79) -/

section

namespace Sys2Proof.Machine

/-! ## What the operations of a run write -/

/-- Two states that agree in the zones' records, the claim lists, the Activation List and stand-down. -/
structure SameRuns (s t : State) : Prop where
  zones : t.zones = s.zones
  lists : t.lists = s.lists
  activation : t.activation = s.activation
  standDown : t.standDown = s.standDown
  standDownOption : t.standDownOption = s.standDownOption

theorem SameRuns.refl (s : State) : SameRuns s s := ⟨rfl, rfl, rfl, rfl, rfl⟩

theorem SameRuns.zone {s t : State} (h : SameRuns s t) (z : Fin 24) : t.zone z = s.zone z := by
  simp only [State.zone, h.zones]

/-- Drives and ports are no part of the runs. -/
theorem sameRuns_framed {s t : State} (h : ∃ ds ps, t = { s with drives := ds, ports := ps }) : SameRuns s t := by
  obtain ⟨ds, ps, rfl⟩ := h
  exact ⟨rfl, rfl, rfl, rfl, rfl⟩

/-- What an operation of a run writes of a zone's record: mode and sources stay, and so does whether there is a stage and a failed
count; a phase other than NORMAL is written where there is a stage, the held flag is set in FIRE while stand-down is SET, and the
suspended flag where there is a run. -/
structure RunWrite (down : Prop) (old new : ZoneRecord) : Prop where
  mode : new.mode = old.mode
  sourceA : new.sourceA = old.sourceA
  sourceB : new.sourceB = old.sourceB
  stage : new.stage = none ↔ old.stage = none
  failed : new.failed = none ↔ old.failed = none
  phase : new.phase = old.phase ∨ (new.phase ≠ .normal ∧ old.stage ≠ none)
  held : new.held = true → old.held = true ∨ (old.mode = .fire ∧ down)
  suspended : new.suspended = true → old.suspended = true ∨ old.mode ≠ .none

theorem RunWrite.refl (down : Prop) (r : ZoneRecord) : RunWrite down r r :=
  ⟨rfl, rfl, rfl, .rfl, .rfl, .inl rfl, .inl, .inl⟩

theorem runWrite_map (down : Prop) (r : ZoneRecord) (m : Vector (Option MapEntry) 64) :
    RunWrite down r { r with map := m } := { RunWrite.refl down r with }

/-- A stage written where there is one. -/
theorem runWrite_stage (down : Prop) {r : ZoneRecord} (staged : r.stage ≠ none) (cs : CurrentStage) :
    RunWrite down r { r with stage := some cs } :=
  { RunWrite.refl down r with stage := ⟨nofun, fun none => absurd none staged⟩ }

/-- What to show so that the operations of runs keep `P`, of the zones that `A` names as those that may act: every active zone may. -/
structure ZoneRule (A : Fin 24 → Prop) (P : State → Prop) : Prop where
  active : ∀ s z, P s → z ∈ s.activation → A z
  same : ∀ s t, P s → SameRuns s t → P t
  write : ∀ s z r, P s → A z → RunWrite (s.standDown = true) (s.zone z) r → P (s.setZone z r)
  place : ∀ w a z cmd, P w.st → A z → P (placeOp a (zoneSource (w.st.zone z) z) cmd w).1.st

theorem foldl_keeps_mem {P : State → Prop} {α : Type} {f : State → α → State} {l : List α}
    (k : ∀ s, ∀ x ∈ l, P s → P (f s x)) {s : State} (h : P s) : P (l.foldl f s) := by
  induction l generalizing s with
  | nil => exact h
  | cons x l ih => exact ih (fun s y mem => k s y (List.mem_cons_of_mem _ mem)) (k s x (List.mem_cons_self ..) h)

theorem foldl_work_keeps_mem {P : State → Prop} {α : Type} {f : Work → α → Work} {l : List α}
    (k : ∀ w, ∀ x ∈ l, P w.st → P (f w x).st) {w : Work} (h : P w.st) : P (l.foldl f w).st := by
  induction l generalizing w with
  | nil => exact h
  | cons x l ih => exact ih (fun w y mem => k w y (List.mem_cons_of_mem _ mem)) (k w x (List.mem_cons_self ..) h)

/-! ## Maps alone -/

/-- Two states whose zone records differ in their maps alone. -/
def MapsAlone (s t : State) : Prop := ∀ z, ∃ m, t.zone z = { s.zone z with map := m }

theorem MapsAlone.refl (s : State) : MapsAlone s s := fun z => ⟨(s.zone z).map, rfl⟩

theorem MapsAlone.trans {s t u : State} (x : MapsAlone s t) (y : MapsAlone t u) : MapsAlone s u := by
  intro z
  obtain ⟨m, zone⟩ := x z
  obtain ⟨m', zone'⟩ := y z
  exact ⟨m', by rw [zone', zone]⟩

theorem MapsBut.alone {a : Fin 64} {s t : State} (h : MapsBut a s t) : MapsAlone s t := fun z =>
  let ⟨m, zone, _⟩ := h z
  ⟨m, zone⟩

theorem OnlyList.mapsBut {a : Fin 64} {s t : State} (h : OnlyList a s t) : MapsBut a s t := h.2.2.2

theorem MapsAlone.stage {s t : State} (h : MapsAlone s t) (z : Fin 24) : (t.zone z).stage = (s.zone z).stage := by
  obtain ⟨m, zone⟩ := h z
  rw [zone]

theorem MapsAlone.phase {s t : State} (h : MapsAlone s t) (z : Fin 24) : (t.zone z).phase = (s.zone z).phase := by
  obtain ⟨m, zone⟩ := h z
  rw [zone]

theorem mapsAlone_setMap (s : State) (z : Fin 24) (m : Vector (Option MapEntry) 64) :
    MapsAlone s (s.setZone z { s.zone z with map := m }) := by
  intro y
  by_cases same : y = z
  · subst same
    exact ⟨m, State.setZone_zone_same ..⟩
  · exact ⟨(s.zone y).map, State.setZone_zone_other s _ same⟩

theorem mapsAlone_placeCommand (z : Fin 24) (w : Work) (c : StageCommand) : MapsAlone w.st (placeCommand z w c).st := by
  unfold placeCommand
  dsimp only [Work.map_st]
  refine MapsAlone.trans ?_ (refreshEntries_frame _ _).2.alone
  exact (mapsAlone_setMap w.st z _).trans (placeOp_only _ _ _ (w.map _)).1.mapsBut.alone

theorem mapsAlone_placeCommands (z : Fin 24) (l : List StageCommand) (w : Work) :
    MapsAlone w.st (l.foldl (placeCommand z) w).st := by
  induction l generalizing w with
  | nil => exact MapsAlone.refl _
  | cons c l ih => exact (mapsAlone_placeCommand z w c).trans (ih _)

/-! ## The rule through every operation -/

namespace ZoneRule

variable {A : Fin 24 → Prop} {P : State → Prop} (R : ZoneRule A P)
include R

theorem raiseFlags {s : State} (h : P s) : P s.raiseFlags := R.same s _ h ⟨rfl, rfl, rfl, rfl, rfl⟩

theorem refreshEntries (a : Fin 64) {s : State} (h : P s) : P (refreshEntries a s) := by
  refine foldl_keeps_mem (fun t z mem ht => ?_) h
  unfold refreshEntry
  dsimp only
  split
  · exact ht
  · exact R.write t z _ ht (R.active s z h mem) (runWrite_map _ _ _)

theorem damperEvent (a : Fin 64) (act : DamperCtx → DamperDrive → DamperDrive) {w : Work} (h : P w.st) :
    P (damperEvent a act w).st := by
  obtain ⟨ps, frame⟩ := damperEvent_st a act w
  exact R.same _ _ h (sameRuns_framed ⟨_, _, frame⟩)

theorem fanEvent (a : Fin 64) (act : FanCtx → FanDrive → FanDrive) {w : Work} (h : P w.st) : P (fanEvent a act w).st := by
  obtain ⟨ps, frame⟩ := fanEvent_st a act w
  exact R.same _ _ h (sameRuns_framed ⟨_, _, frame⟩)

theorem handInput (i : Fin 128) {w : Work} (h : P w.st) : P (handInput i w).st := by
  unfold Machine.handInput
  split
  · exact h
  · dsimp only
    split
    · exact R.fanEvent _ _ h
    · exact R.damperEvent _ _ h
    · exact R.damperEvent _ _ h
    · exact h

theorem handChannel (c : Fin 16) {w : Work} (h : P w.st) : P (handChannel c w).st := by
  refine foldl_work_keeps _ (fun w a h => ?_) _ h
  split
  · exact R.fanEvent _ _ h
  · exact h

/-! ### Judging and finishing -/

theorem judgeStage {z : Fin 24} (may : A z) {s : State} (h : P s) : P (judgeStage s z) := by
  unfold Machine.judgeStage
  dsimp only
  split
  · exact h
  · rename_i cs stage
    split
    · refine R.write s z _ h may { RunWrite.refl _ (s.zone z) with stage := ?_, failed := ?_ }
      · rw [stage]
        exact ⟨nofun, nofun⟩
      · exact Option.map_eq_none_iff
    · exact h

theorem judgeSub {z : Fin 24} (may : A z) {s : State} (h : P s) : P (judgeSub s z) := by
  unfold Machine.judgeSub
  dsimp only
  split
  · exact h
  · exact R.raiseFlags (R.write s z _ h may { RunWrite.refl _ (s.zone z) with })

theorem judgeZones {s : State} (h : P s) : P (judgeZones s) :=
  foldl_keeps_mem (fun _ z mem ht => R.judgeSub (R.active s z h mem) (R.judgeStage (R.active s z h mem) ht)) h

theorem finishStage {z : Fin 24} (may : A z) {s : State} (staged : (s.zone z).stage ≠ none) (cs : CurrentStage) (h : P s) :
    P (finishStage s z cs) := by
  have some : ∀ x : CurrentStage, (some x = none ↔ (s.zone z).stage = none) := fun x =>
    ⟨nofun, fun none => absurd none staged⟩
  unfold Machine.finishStage
  dsimp only
  split
  · exact R.raiseFlags (R.write s z _ h may
      { RunWrite.refl _ (s.zone z) with stage := some _, phase := .inr ⟨nofun, staged⟩ })
  · split
    · exact R.raiseFlags (R.write s z _ h may
        { RunWrite.refl _ (s.zone z) with stage := some _, phase := .inr ⟨nofun, staged⟩ })
    · exact R.write s z _ h may { RunWrite.refl _ (s.zone z) with stage := some _ }

theorem expireWindow {z : Fin 24} (may : A z) {s : State} (staged : (s.zone z).stage ≠ none) (cs : CurrentStage) (h : P s) :
    P (expireWindow s z cs) := by
  unfold Machine.expireWindow
  refine R.finishStage may (by rw [State.setZone_zone_same]; exact staged) _ (R.write s z _ h may ?_)
  exact { RunWrite.refl _ (s.zone z) with failed := Option.map_eq_none_iff }

theorem resumeZone (touched : List (Fin 64)) {z : Fin 24} (may : A z) {s : State} (h : P s) : P (resumeZone touched s z) := by
  unfold Machine.resumeZone
  dsimp only
  split
  · rename_i cs _ stage
    have staged : (s.zone z).stage ≠ none := by rw [stage]; nofun
    split
    · split
      · exact R.raiseFlags (R.write s z _ h may { RunWrite.refl _ (s.zone z) with phase := .inr ⟨nofun, staged⟩ })
      · refine R.raiseFlags (R.write s z _ h may
          { RunWrite.refl (s.standDown = true) (s.zone z) with
            stage := ⟨nofun, fun none => absurd none staged⟩
            phase := .inr ⟨nofun, staged⟩
            held := fun held => ?_ })
        simp only [Bool.or_eq_true, Bool.and_eq_true, beq_iff_eq] at held
        exact held.imp id And.symm
    · exact h
  · exact h

theorem resumeZones {w : Work} (h : P w.st) : P (resumeZones w).st :=
  foldl_keeps_mem (fun _ z mem => R.resumeZone w.touched (R.active w.st z h mem)) h

/-! ### Taking and issuing -/

theorem placeCommand {z : Fin 24} (may : A z) (c : StageCommand) {w : Work} (h : P w.st) : P (placeCommand z w c).st := by
  refine R.refreshEntries _ ?_
  have source : ∀ s : State, ∀ m, zoneSource ((s.setZone z { s.zone z with map := m }).zone z) z = zoneSource (s.zone z) z :=
    fun s m => by rw [State.setZone_zone_same]; rfl
  have placed := fun m => R.place (w.map fun s => s.setZone z { w.st.zone z with map := m }) c.actuator z c.cmd
    (R.write w.st z _ h may (runWrite_map _ _ m)) may
  simp only [Work.map_st, source] at placed
  exact placed _

theorem placeCommands {z : Fin 24} (may : A z) (l : List StageCommand) {w : Work} (h : P w.st) :
    P (l.foldl (Machine.placeCommand z) w).st := foldl_work_keeps _ (fun _ c => R.placeCommand may c) l h

theorem issueStage {z : Fin 24} (may : A z) {w : Work} (staged : (w.st.zone z).stage ≠ none) (cs : CurrentStage) (mark : Bool)
    (h : P w.st) : P (issueStage z cs mark w).st := by
  refine R.write _ z _ (R.placeCommands may _ h) may (runWrite_stage _ ?_ _)
  rwa [(mapsAlone_placeCommands z _ w).stage z]

theorem takeStage {z : Fin 24} (may : A z) {w : Work} (staged : (w.st.zone z).stage ≠ none) (cs : CurrentStage) (h : P w.st) :
    P (takeStage z cs w).st := by
  unfold Machine.takeStage
  split
  · exact R.issueStage may staged cs _ h
  · dsimp only
    split
    · exact R.finishStage may staged _ h
    · exact R.issueStage may staged cs _ h
    · exact R.issueStage may staged cs _ h
    · exact R.write _ z _ h may (runWrite_stage _ staged _)

theorem advanceZone {z : Fin 24} (may : A z) {w : Work} (h : P w.st) : P (advanceZone z w).st := by
  unfold Machine.advanceZone
  split
  · exact h
  · rename_i cs stage
    have staged : (w.st.zone z).stage ≠ none := by rw [stage]; nofun
    split
    · exact R.takeStage may staged cs h
    · exact R.finishStage may staged cs h

theorem engineLoop (n : Nat) {w : Work} (h : P w.st) : P (engineLoop n w).st := by
  induction n generalizing w with
  | zero => exact h
  | succ n ih =>
    have judged : P ((Machine.resumeZones w).map Machine.judgeZones).st := R.judgeZones (R.resumeZones h)
    simp only [Machine.engineLoop]
    split
    · exact judged
    · rename_i z found
      exact ih (R.advanceZone (R.active _ z judged (List.mem_of_find?_eq_some found)) judged)

theorem settled {w : Work} (h : P w.st) : P (settled w) := R.engineLoop engineRounds h

end ZoneRule

end Sys2Proof.Machine

end
/-! # Sound zones through an event (R41, R42, R46, R49, R151, R157) -/

section

namespace Sys2Proof.Machine

/-! ## The invariant with zones that still wait for their release -/

/-- One zone record is sound, where it may be held in some circumstance (R41, R46, R157). -/
structure RunSound (mayHold : Prop) (r : ZoneRecord) : Prop where
  phase : r.mode = .none ↔ r.phase = .normal
  stage : r.mode = .none ↔ r.stage = none
  failed : r.mode = .none ↔ r.failed = none
  sources : (r.sourceA = true ∨ r.sourceB = true) ↔ r.mode = .fire
  held : r.held = true → r.mode = .fire ∧ mayHold
  suspended : r.suspended = true → r.mode ≠ .none

/-- The zones are sound, but for the held flags of some zones that outlive stand-down: those that its release has yet to clear
(R159). -/
structure RunsSound (L : Fin 24 → Prop) (s : State) : Prop where
  record : ∀ z, RunSound (s.standDown = true ∨ L z) (s.zone z)
  once : s.activation.Nodup
  listed : ∀ z, z ∈ s.activation ↔ (s.zone z).mode ≠ .none
  alone : ∀ z y, (s.zone z).mode = .test → (s.zone y).mode ≠ .none → y = z
  option : s.standDown = true ↔ s.standDownOption.isSome = true

/-- No zone waits for its release. -/
def NoneWaits : Fin 24 → Prop := fun _ => False

theorem zonesSound_iff (s : State) : ZonesSound s ↔ RunsSound NoneWaits s := by
  have may : (s.standDown = true ∨ False) ↔ s.standDown = true := by simp
  constructor
  · rintro ⟨records, once, listed, alone, option⟩
    refine ⟨fun z => ?_, once, listed, alone, option⟩
    obtain ⟨phase, stage, failed, sources, held, suspended⟩ := records z
    exact ⟨phase, stage, failed, sources, fun h => (held h).imp id .inl, suspended⟩
  · rintro ⟨records, once, listed, alone, option⟩
    refine ⟨fun z => ?_, once, listed, alone, option⟩
    obtain ⟨phase, stage, failed, sources, held, suspended⟩ := records z
    exact ⟨phase, stage, failed, sources, fun h => (held h).imp id may.1, suspended⟩

/-! ## One record -/

theorem RunSound.mono {p q : Prop} {r : ZoneRecord} (h : RunSound p r) (may : p → q) : RunSound q r :=
  { h with held := fun held => (h.held held).imp id may }

theorem RunSound.active_of_stage {p : Prop} {r : ZoneRecord} (h : RunSound p r) (staged : r.stage ≠ none) : r.mode ≠ .none :=
  fun none => staged (h.stage.1 none)

/-- What an operation of a run writes is sound. -/
theorem RunSound.write {p down : Prop} {old new : ZoneRecord} (h : RunSound p old) (w : RunWrite down old new) (may : down → p) :
    RunSound p new where
  phase := by
    rw [w.mode]
    rcases w.phase with same | ⟨going, staged⟩
    · rw [same]
      exact h.phase
    · exact ⟨fun none => absurd none (h.active_of_stage staged), fun normal => absurd normal going⟩
  stage := by rw [w.mode, w.stage]; exact h.stage
  failed := by rw [w.mode, w.failed]; exact h.failed
  sources := by rw [w.mode, w.sourceA, w.sourceB]; exact h.sources
  held held := by
    rw [w.mode]
    exact (w.held held).elim h.held fun ⟨fire, down⟩ => ⟨fire, may down⟩
  suspended suspended := by
    rw [w.mode]
    exact (w.suspended suspended).elim h.suspended id

/-- A record with its values of no run (R41). -/
theorem runSound_ended (p : Prop) (s : State) (r : ZoneRecord) (why : EndReason) : RunSound p (endedRecord s r why) where
  phase := ⟨fun _ => rfl, fun _ => rfl⟩
  stage := ⟨fun _ => rfl, fun _ => rfl⟩
  failed := ⟨fun _ => rfl, fun _ => rfl⟩
  sources := ⟨fun some => some.elim nofun nofun, nofun⟩
  held := nofun
  suspended := nofun

/-! ## All the records -/

section

variable {L : Fin 24 → Prop} {s t : State} (h : RunsSound L s)
include h

/-- The zones stay sound where their modes and the Activation List stand, and each record is sound. -/
theorem RunsSound.transfer {L' : Fin 24 → Prop} (activation : t.activation = s.activation)
    (option : t.standDown = true ↔ t.standDownOption.isSome = true)
    (mode : ∀ z, (t.zone z).mode = (s.zone z).mode) (record : ∀ z, RunSound (t.standDown = true ∨ L' z) (t.zone z)) :
    RunsSound L' t where
  record := record
  once := by rw [activation]; exact h.once
  listed z := by rw [activation, mode]; exact h.listed z
  alone z y := by rw [mode, mode]; exact h.alone z y
  option := option

/-- More zones may wait. -/
theorem RunsSound.mono {L' : Fin 24 → Prop} (more : ∀ z, L z → L' z) : RunsSound L' s :=
  { h with record := fun z => (h.record z).mono (Or.imp id (more z)) }

theorem RunsSound.same (same : SameRuns s t) : RunsSound L t := by
  refine h.transfer same.activation (by rw [same.standDown, same.standDownOption]; exact h.option)
    (fun z => by rw [same.zone]) fun z => ?_
  rw [same.zone, same.standDown]
  exact h.record z

theorem RunsSound.ofFields (zones : t.zones = s.zones) (activation : t.activation = s.activation)
    (standDown : t.standDown = s.standDown) (option : t.standDownOption = s.standDownOption) : RunsSound L t := by
  have zone : ∀ z, t.zone z = s.zone z := fun z => by simp only [State.zone, zones]
  refine h.transfer activation (by rw [standDown, option]; exact h.option) (fun z => by rw [zone]) fun z => ?_
  rw [zone, standDown]
  exact h.record z

theorem RunsSound.setZone {z : Fin 24} {r : ZoneRecord} (mode : r.mode = (s.zone z).mode)
    (sound : RunSound (s.standDown = true ∨ L z) r) : RunsSound L (s.setZone z r) := by
  refine h.transfer rfl h.option (fun y => ?_) fun y => ?_
  · by_cases same : y = z
    · subst same; rw [State.setZone_zone_same, mode]
    · rw [State.setZone_zone_other s r same]
  · by_cases same : y = z
    · subst same; rw [State.setZone_zone_same]; exact sound
    · rw [State.setZone_zone_other s r same]; exact h.record y

theorem RunsSound.maps (activation : t.activation = s.activation) (standDown : t.standDown = s.standDown)
    (option : t.standDownOption = s.standDownOption) (maps : MapsAlone s t) : RunsSound L t := by
  refine h.transfer activation (by rw [standDown, option]; exact h.option) (fun z => ?_) fun z => ?_
  · obtain ⟨m, zone⟩ := maps z
    rw [zone]
  · obtain ⟨m, zone⟩ := maps z
    rw [zone, standDown]
    exact (h.record z).write (runWrite_map (s.standDown = true) _ m) .inl

theorem RunsSound.onlyList {a : Fin 64} (only : OnlyList a s t) : RunsSound L t := by
  have ⟨⟨l, d, zs, ps, frame⟩, _⟩ := only
  exact h.maps (by rw [frame]) (by rw [frame]) (by rw [frame]) only.mapsBut.alone

theorem RunsSound.active_of_stage {z : Fin 24} (staged : (s.zone z).stage ≠ none) : (s.zone z).mode ≠ .none :=
  (h.record z).active_of_stage staged

/-- A zone's run has ended: the zone has left the Activation List and its record has its values of no run (R47). -/
theorem RunsSound.without {z : Fin 24} (activation : t.activation = s.activation.filter (fun y => y != z))
    (standDown : t.standDown = s.standDown) (option : t.standDownOption = s.standDownOption)
    (ended : (t.zone z).mode = .none) (sound : RunSound (s.standDown = true ∨ L z) (t.zone z))
    (others : ∀ y, y ≠ z → ∃ m, t.zone y = { s.zone y with map := m }) : RunsSound L t := by
  have mode : ∀ y, y ≠ z → (t.zone y).mode = (s.zone y).mode := fun y other => by
    obtain ⟨m, zone⟩ := others y other
    rw [zone]
  refine ⟨fun y => ?_, by rw [activation]; exact h.once.filter _, fun y => ?_, fun y x test active => ?_,
    by rw [standDown, option]; exact h.option⟩
  · rw [standDown]
    by_cases same : y = z
    · rw [same]
      exact sound
    · obtain ⟨m, zone⟩ := others y same
      rw [zone]
      exact (h.record y).write (runWrite_map (s.standDown = true) _ m) .inl
  · rw [activation, List.mem_filter]
    by_cases same : y = z
    · simp [same, ended]
    · rw [mode y same, ← h.listed y]
      simp [same]
  · have testing : y ≠ z := by rintro rfl; rw [ended] at test; cases test
    have running : x ≠ z := by rintro rfl; exact active ended
    rw [mode y testing] at test
    rw [mode x running] at active
    exact h.alone y x test active

/-- A zone's run has started: the zone stands at the tail of the Activation List (R42), and a TEST runs alone (R49). -/
theorem RunsSound.started {z : Fin 24} {r : ZoneRecord} (idle : (s.zone z).mode = .none) (runs : r.mode ≠ .none)
    (sound : RunSound (s.standDown = true ∨ L z) r) (noTest : ∀ y, (s.zone y).mode ≠ .test)
    (alone : r.mode = .test → ∀ y, (s.zone y).mode = .none) : RunsSound L (startZone z r s) := by
  have zone : (startZone z r s).zone z = r := State.setZone_zone_same { s with activation := s.activation ++ [z] } z r
  have other : ∀ y, y ≠ z → (startZone z r s).zone y = s.zone y := fun y differs =>
    State.setZone_zone_other { s with activation := s.activation ++ [z] } r differs
  have activation : (startZone z r s).activation = s.activation ++ [z] := rfl
  have new : z ∉ s.activation := fun mem => (h.listed z).1 mem idle
  refine ⟨fun y => ?_, ?_, fun y => ?_, fun y x test active => ?_, h.option⟩
  · change RunSound (s.standDown = true ∨ L y) _
    by_cases same : y = z
    · subst same
      rw [zone]
      exact sound
    · rw [other y same]
      exact h.record y
  · rw [activation]
    exact h.once.append (List.nodup_singleton z) (by simpa using new)
  · rw [activation, List.mem_append, List.mem_singleton]
    by_cases same : y = z
    · subst same
      rw [zone]
      exact ⟨fun _ => runs, fun _ => .inr rfl⟩
    · rw [other y same, ← h.listed y]
      simp [same]
  · by_cases testing : y = z
    · subst testing
      rw [zone] at test
      by_contra differs
      rw [other x differs] at active
      exact active (alone test x)
    · rw [other y testing] at test
      exact absurd test (noTest y)

end

/-! ## The rule -/

theorem runsSound_rule (L : Fin 24 → Prop) : ZoneRule (fun _ => True) (RunsSound L) where
  active _ _ _ _ := trivial
  same _ _ h same := h.same same
  write _ _ _ h _ w := h.setZone w.mode ((h.record _).write w .inl)
  place w a _ cmd h _ := h.onlyList (placeOp_only a _ cmd w).1

theorem RunsSound.settled {L : Fin 24 → Prop} {w : Work} (h : RunsSound L w.st) : RunsSound L (settled w) :=
  (runsSound_rule L).settled h

/-! ## Held and suspended zones, gates (R64, R77 to R79, R159) -/

section

variable {L : Fin 24 → Prop} {w : Work} (h : RunsSound L w.st)
include h

theorem RunsSound.bringForward (z : Fin 24) : RunsSound L (bringForward z w).st := by
  have R := runsSound_rule L
  unfold Machine.bringForward
  split
  · exact h
  · rename_i cs stage
    have staged : (w.st.zone z).stage ≠ none := by rw [stage]; nofun
    have put : ∀ x, RunsSound L (w.map fun s => s.setZone z { s.zone z with stage := some x }).st := fun x =>
      R.write w.st z _ h trivial (runWrite_stage _ staged x)
    dsimp only
    split
    · exact h
    · exact h
    · split
      · exact R.issueStage trivial staged cs _ h
      · split
        · exact R.issueStage trivial staged cs _ h
        · split
          · exact R.issueStage trivial staged cs _ h
          · exact put _
    · split
      · exact put _
      · exact put _
    · split
      · exact R.expireWindow trivial staged cs h
      · exact put _

/-- A zone whose held flag is cleared waits no longer (R159). -/
theorem RunsSound.unholdZone (z : Fin 24) : RunsSound (fun y => L y ∧ y ≠ z) (unholdZone w z).st := by
  have waits : ∀ r : ZoneRecord, r.held = false → RunSound (w.st.standDown = true ∨ L z) r →
      RunSound (w.st.standDown = true ∨ (L z ∧ z ≠ z)) r := fun r free sound =>
    { sound with held := fun held => absurd (free.symm.trans held) nofun }
  have others : ∀ y, y ≠ z → RunSound (w.st.standDown = true ∨ (L y ∧ y ≠ z)) (w.st.zone y) := fun y other =>
    (h.record y).mono (Or.imp id fun waits => ⟨waits, other⟩)
  unfold Machine.unholdZone
  dsimp only
  split
  · have cleared : RunsSound (fun y => L y ∧ y ≠ z)
        (w.map fun s => (s.setZone z { w.st.zone z with held := false }).raiseFlags).st := by
      have free := waits { w.st.zone z with held := false } rfl
        ((h.record z).write { RunWrite.refl (w.st.standDown = true) (w.st.zone z) with held := nofun } .inl)
      refine h.transfer rfl h.option (fun y => ?_) fun y => ?_
      · by_cases same : y = z
        · subst same; rw [Work.map_st, State.raiseFlags_zone, State.setZone_zone_same]
        · rw [Work.map_st, State.raiseFlags_zone, State.setZone_zone_other _ _ same]
      · by_cases same : y = z
        · subst same; rw [Work.map_st, State.raiseFlags_zone, State.setZone_zone_same]; exact free
        · rw [Work.map_st, State.raiseFlags_zone, State.setZone_zone_other _ _ same]; exact others y same
    split
    · exact cleared
    · exact cleared.bringForward z
  · rename_i free
    refine h.transfer rfl h.option (fun _ => rfl) fun y => ?_
    by_cases same : y = z
    · subst same
      exact waits _ (by simpa using free) (h.record y)
    · exact others y same

theorem RunsSound.unsuspendZone (z : Fin 24) : RunsSound L (unsuspendZone w z).st := by
  have R := runsSound_rule L
  unfold Machine.unsuspendZone
  dsimp only
  split
  · have cleared : RunsSound L (w.map fun s => (s.setZone z { w.st.zone z with suspended := false }).raiseFlags).st :=
      R.raiseFlags (R.write w.st z _ h trivial { RunWrite.refl _ (w.st.zone z) with suspended := nofun })
    split
    · exact cleared
    · exact cleared.bringForward z
  · exact h

/-- Stand-down released clears every held flag, so no zone waits (R159). -/
theorem RunsSound.releaseStandDown : RunsSound NoneWaits (releaseStandDown w).st := by
  have held : RunsSound (fun _ => True) (w.map fun s => { s with standDown := false, standDownOption := none }.raiseFlags).st :=
    h.transfer rfl ⟨nofun, nofun⟩ (fun _ => rfl) fun z => (h.record z).mono fun _ => .inr trivial
  have each : ∀ (l : List (Fin 24)) (M : Fin 24 → Prop) (v : Work), RunsSound M v.st →
      RunsSound (fun y => M y ∧ y ∉ l) (l.foldl Machine.unholdZone v).st := by
    intro l
    induction l with
    | nil => exact fun M v sound => sound.mono fun _ waits => ⟨waits, List.not_mem_nil⟩
    | cons z l ih =>
      intro M v sound
      exact (ih _ _ (sound.unholdZone z)).mono fun y ⟨⟨waits, other⟩, notIn⟩ => ⟨waits, by simp [other, notIn]⟩
  exact (each (List.finRange 24) _ _ held).mono fun z ⟨_, notIn⟩ => notIn (List.mem_finRange z)

theorem RunsSound.judgeGate (c : Fin 16) (z : Fin 24) : RunsSound L (judgeGate c w z).st := by
  unfold Machine.judgeGate
  dsimp only
  split
  · exact h
  · rename_i cs stage
    have staged : (w.st.zone z).stage ≠ none := by rw [stage]; nofun
    split
    · split
      · exact h
      · split
        · exact (runsSound_rule L).issueStage trivial staged cs _ h
        · exact h
    · exact h

theorem RunsSound.channelNotice (c : Fin 16) : RunsSound L (channelNotice c w).st :=
  foldl_work_keeps _ (fun _ z h => h.judgeGate c z) _ ((runsSound_rule L).handChannel c h)

end

/-- A stage frozen is a stage (R77). -/
theorem runWrite_freeze (down : Prop) (now : Nat) (r : ZoneRecord) : RunWrite down r (r.freeze now) := by
  unfold ZoneRecord.freeze
  split
  · exact RunWrite.refl down r
  · exact { RunWrite.refl down r with stage := Option.map_eq_none_iff }

theorem RunsSound.holdZone {L : Fin 24 → Prop} {s : State} (h : RunsSound L s) {z : Fin 24} (fire : (s.zone z).mode = .fire)
    (down : s.standDown = true) : RunsSound L (holdZone s z) := by
  have R := runsSound_rule L
  unfold Machine.holdZone
  dsimp only
  split
  · exact h
  · refine R.raiseFlags (R.write s z _ h trivial
      { runWrite_freeze (s.standDown = true) s.now (s.zone z) with held := fun _ => .inr ⟨fire, down⟩ })

theorem RunsSound.suspendZone {L : Fin 24 → Prop} {s : State} (h : RunsSound L s) (z : Fin 24) :
    RunsSound L (suspendZone s z) := by
  have R := runsSound_rule L
  unfold Machine.suspendZone
  dsimp only
  split
  · exact h
  · rename_i free
    have runs : (s.zone z).mode ≠ .none := fun none => free (.inl none)
    exact R.raiseFlags (R.write s z _ h trivial
      { runWrite_freeze (s.standDown = true) s.now (s.zone z) with suspended := fun _ => .inr runs })

theorem RunsSound.supplyLowEvent {L : Fin 24 → Prop} {w : Work} (h : RunsSound L w.st) : RunsSound L (supplyLowEvent w).st := by
  unfold Machine.supplyLowEvent
  dsimp only [Work.map_st]
  exact foldl_keeps _ (fun _ z h => h.suspendZone z) _
    (foldl_work_keeps _ (fun _ a => (runsSound_rule L).damperEvent a _) _ h)

theorem RunsSound.supplyOkEvent {L : Fin 24 → Prop} {w : Work} (h : RunsSound L w.st) : RunsSound L (supplyOkEvent w).st := by
  unfold Machine.supplyOkEvent
  exact foldl_work_keeps _ (fun _ z h => h.unsuspendZone z) _
    (foldl_work_keeps _ (fun _ a => (runsSound_rule L).damperEvent a _) _ h)

theorem RunsSound.stageAct {L : Fin 24 → Prop} {w : Work} (h : RunsSound L w.st) {z : Fin 24} {cs : CurrentStage}
    {act : Work → Work} (stage : (w.st.zone z).stage = some cs) (k : StageAct z cs act) : RunsSound L (act w).st := by
  have R := runsSound_rule L
  have staged : (w.st.zone z).stage ≠ none := by rw [stage]; nofun
  cases k with
  | settle => exact R.write w.st z _ h trivial (runWrite_stage _ staged _)
  | window => exact R.expireWindow trivial staged cs h
  | gateWait => exact R.issueStage trivial staged cs true h

end Sys2Proof.Machine

end
/-! # The start and the end of a run, and the release of stand-down by an alarm (R42, R44, R47, R49, R158) -/

section

namespace Sys2Proof.Machine

/-! ## The end of a run (R47) -/

theorem withdrawOp_onlyList (a : Fin 64) (src : Source) (w : Work) : OnlyList a w.st (withdrawOp a src w).st := by
  by_cases absent : claimOf (w.st.claimList a).claims src = none
  · rw [withdrawOp_absent absent]
    exact OnlyList.refl a w.st
  · exact (withdrawOp_only absent).1

theorem withdrawEntry_onlyList (z : Fin 24) (w : Work) (a : Fin 64) : OnlyList a w.st (withdrawEntry z w a).st := by
  unfold withdrawEntry
  dsimp only
  split
  · exact OnlyList.refl a w.st
  · split
    · exact OnlyList.refl a w.st
    · exact withdrawOp_onlyList a _ w

/-- The withdrawals of a zone's entries write lists, drives, maps and change flags alone. -/
theorem withdrawEntries_frame (z : Fin 24) (l : List (Fin 64)) (w : Work) :
    (∃ ls ds zs ps, (l.foldl (withdrawEntry z) w).st = { w.st with lists := ls, drives := ds, zones := zs, ports := ps }) ∧
      MapsAlone w.st (l.foldl (withdrawEntry z) w).st := by
  induction l generalizing w with
  | nil => exact ⟨⟨_, _, _, _, rfl⟩, MapsAlone.refl _⟩
  | cons a l ih =>
    obtain ⟨⟨ls, ds, zs, ps, frame⟩, maps⟩ := ih (withdrawEntry z w a)
    have only := withdrawEntry_onlyList z w a
    have ⟨⟨_, _, _, _, first⟩, _⟩ := only
    exact ⟨⟨ls, ds, zs, ps, frame.trans (by rw [first])⟩, only.mapsBut.alone.trans maps⟩

/-- What the end of a run records is told by the zone's record, its map apart, and by the sequences. -/
theorem endedRecord_congr {s t : State} (sequences : t.sequences = s.sequences) (r : ZoneRecord)
    (m : Vector (Option MapEntry) 64) (why : EndReason) : endedRecord t { r with map := m } why = endedRecord s r why := by
  have stage : ∀ cs, t.stageOf cs = s.stageOf cs := fun cs => by simp only [State.stageOf, State.stageDef, sequences]
  simp only [endedRecord, testRecord, endEntries, logEntry, fireSummary, stage]

/-- The end of a run: the zone has left the Activation List with its record written, the other zones' records differ in their maps
alone, every change flag is set, and nothing else but lists and drives differs (R47). -/
theorem endInstance_effect (z : Fin 24) (why : EndReason) (w : Work) :
    (∃ ls ds zs ps, (endInstance z why w).st =
        { w.st with
          activation := w.st.activation.filter (fun y => y != z), lists := ls, drives := ds, zones := zs, ports := ps }) ∧
      FlagsSet (endInstance z why w).st ∧ (endInstance z why w).st.zone z = endedRecord w.st (w.st.zone z) why ∧
      ∀ y, y ≠ z → ∃ m, (endInstance z why w).st.zone y = { w.st.zone y with map := m } := by
  obtain ⟨⟨ls, ds, zs, ps, frame⟩, maps⟩ := withdrawEntries_frame z (List.finRange 64)
    (w.map fun s => { s with activation := s.activation.filter (fun y => y != z) })
  unfold endInstance
  dsimp only
  rw [Work.map_st]
  rw [Work.map_st] at frame maps
  generalize ((List.finRange 64).foldl (withdrawEntry z)
    (w.map fun s => { s with activation := s.activation.filter (fun y => y != z) })).st = u at frame maps
  refine ⟨⟨ls, ds, _, _, by rw [frame]; rfl⟩, raiseFlags_set _, ?_, fun y other => ?_⟩
  · rw [State.raiseFlags_zone, State.setZone_zone_same]
    obtain ⟨m, zone⟩ := maps z
    rw [zone]
    exact endedRecord_congr (by rw [frame]) (w.st.zone z) m why
  · rw [State.raiseFlags_zone, State.setZone_zone_other _ _ other]
    exact maps y

/-- Runs ended one after another: each of their zones has its record written, every other zone's record differs in its map alone. -/
theorem endInstances_effect (why : EndReason) (l : List (Fin 24)) (once : l.Nodup) (w : Work) :
    (∃ ls ds zs ps, (l.foldl (fun w y => endInstance y why w) w).st =
        { w.st with
          activation := w.st.activation.filter (fun y => decide (y ∉ l)), lists := ls, drives := ds, zones := zs, ports := ps }) ∧
      (∀ y ∈ l, ∃ m, (l.foldl (fun w y => endInstance y why w) w).st.zone y =
        { endedRecord w.st (w.st.zone y) why with map := m }) ∧
      ∀ y, y ∉ l → ∃ m, (l.foldl (fun w y => endInstance y why w) w).st.zone y = { w.st.zone y with map := m } := by
  induction l generalizing w with
  | nil => exact ⟨⟨_, _, _, _, by simp; rfl⟩, fun y mem => absurd mem List.not_mem_nil, fun y _ => ⟨_, rfl⟩⟩
  | cons x l ih =>
    obtain ⟨notIn, once⟩ := List.nodup_cons.1 once
    obtain ⟨⟨ls, ds, zs, ps, first⟩, -, own, others⟩ := endInstance_effect x why w
    obtain ⟨⟨ls', ds', zs', ps', frame⟩, ended, kept⟩ := ih once (endInstance x why w)
    rw [List.foldl_cons]
    refine ⟨⟨ls', ds', zs', ps', ?_⟩, fun y mem => ?_, fun y notMem => ?_⟩
    · rw [frame, first]
      simp only [List.filter_filter, List.mem_cons, not_or, Bool.decide_and, decide_not, Bool.and_comm, bne, beq_eq_decide]
    · rcases List.mem_cons.1 mem with rfl | mem
      · obtain ⟨m, zone⟩ := kept y notIn
        exact ⟨m, by rw [zone, own]⟩
      · obtain ⟨m, zone⟩ := ended y mem
        obtain ⟨m', before⟩ := others y (fun same => notIn (same ▸ mem))
        have same : endedRecord (endInstance x why w).st ((endInstance x why w).st.zone y) why =
            endedRecord w.st (w.st.zone y) why := by
          rw [before]
          exact endedRecord_congr (by rw [first]) _ _ _
        exact ⟨m, by rw [zone, same]⟩
    · obtain ⟨other, notMem⟩ := List.ne_and_not_mem_of_not_mem_cons notMem
      obtain ⟨m, zone⟩ := kept y notMem
      obtain ⟨m', before⟩ := others y other
      exact ⟨m, by rw [zone, before]⟩

theorem mem_testZones (s : State) (y : Fin 24) : y ∈ s.testZones ↔ (s.zone y).mode = .test := by
  simp [State.testZones]

theorem testZones_nodup (s : State) : s.testZones.Nodup := (List.nodup_finRange 24).filter _

/-! ## Stand-down at an alarm (R158, R159) -/

theorem keeps_releaseStandDown (w : Work) :
    Keeps { w.st with standDown := false, standDownOption := none } (releaseStandDown w).st := by
  unfold releaseStandDown
  refine Keeps.trans (keeps_raiseFlags _) ?_
  exact keeps_foldl_work unholdZone keeps_unholdZone (List.finRange 24)
    (w.map fun s => { s with standDown := false, standDownOption := none }.raiseFlags)

/-- An alarm that starts a run releases stand-down where its option is RESUME-ON-NEW-ALARM, and leaves the rest to the zones that go
on (R158). -/
theorem alarmStandDown_effect (w : Work) :
    (∃ o, Keeps { w.st with standDown := (alarmStandDown w).st.standDown, standDownOption := o } (alarmStandDown w).st) ∧
      ((alarmStandDown w).st.standDown = true ↔
        w.st.standDown = true ∧ w.st.standDownOption ≠ some .resumeOnNewAlarm) := by
  unfold alarmStandDown
  by_cases release : (w.st.standDown && w.st.standDownOption == some .resumeOnNewAlarm) = true
  · have kept := keeps_releaseStandDown w
    have off : (releaseStandDown w).st.standDown = false := kept.standDown
    rw [if_pos release, off]
    simp only [Bool.and_eq_true, beq_iff_eq] at release
    exact ⟨⟨_, kept⟩, nofun, fun stands => absurd release.2 stands.2⟩
  · rw [if_neg release]
    simp only [Bool.and_eq_true, beq_iff_eq, not_and] at release
    exact ⟨⟨_, Keeps.refl _⟩, fun down => ⟨down, release down⟩, And.left⟩

/-! ## Soundness -/

theorem RunsSound.endInstance {L : Fin 24 → Prop} {w : Work} (h : RunsSound L w.st) (z : Fin 24) (why : EndReason) :
    RunsSound L (endInstance z why w).st := by
  obtain ⟨⟨_, _, _, _, frame⟩, -, own, others⟩ := endInstance_effect z why w
  exact h.without (by rw [frame]) (by rw [frame]) (by rw [frame]) (by rw [own]; rfl) (by rw [own]; exact runSound_ended _ _ _ _)
    others

/-- A record at the start of a run is sound (R44, R49). -/
theorem runSound_started {p : Prop} (s : State) (z : Fin 24) {mode : ZoneMode} {sourceA sourceB held : Bool}
    (log : Option TestLog) (runs : mode ≠ .none) (sources : (sourceA = true ∨ sourceB = true) ↔ mode = .fire)
    (mayHold : held = true → mode = .fire ∧ p) : RunSound p (startedRecord s z mode sourceA sourceB held log) where
  phase := ⟨fun none => absurd none runs, nofun⟩
  stage := ⟨fun none => absurd none runs, nofun⟩
  failed := ⟨fun none => absurd none runs, nofun⟩
  sources := sources
  held := mayHold
  suspended _ := runs

theorem RunsSound.alarmStandDown {w : Work} (h : RunsSound NoneWaits w.st) : RunsSound NoneWaits (alarmStandDown w).st := by
  unfold Machine.alarmStandDown
  split
  · exact h.releaseStandDown
  · exact h

/-- No zone is in TEST once the TEST runs have ended for an alarm, and a zone without a FIRE run has no run (R44). -/
theorem endTests_mode (w : Work) (y : Fin 24) :
    ((w.st.testZones.foldl (fun w y => endInstance y .abortedByAlarm w) w).st.zone y).mode =
      if (w.st.zone y).mode = .test then .none else (w.st.zone y).mode := by
  obtain ⟨-, ended, kept⟩ := endInstances_effect .abortedByAlarm w.st.testZones (testZones_nodup w.st) w
  by_cases test : (w.st.zone y).mode = .test
  · obtain ⟨m, zone⟩ := ended y ((mem_testZones w.st y).2 test)
    rw [if_pos test, zone]
    rfl
  · obtain ⟨m, zone⟩ := kept y (fun mem => test ((mem_testZones w.st y).1 mem))
    rw [if_neg test, zone]

theorem RunsSound.startFire {w : Work} (h : RunsSound NoneWaits w.st) {p : Panel} {z : Fin 24}
    (notFire : (w.st.zone z).mode ≠ .fire) : RunsSound NoneWaits (startFire p z w).st := by
  have mode := endTests_mode w
  have ended : RunsSound NoneWaits (w.st.testZones.foldl (fun w y => Machine.endInstance y .abortedByAlarm w) w).st :=
    foldl_work_keeps _ (fun _ y h => h.endInstance y .abortedByAlarm) _ h
  unfold Machine.startFire
  dsimp only
  rw [Work.map_st]
  generalize w.st.testZones.foldl (fun w y => Machine.endInstance y .abortedByAlarm w) w = v at mode ended
  obtain ⟨⟨o, kept⟩, -⟩ := alarmStandDown_effect v
  have judged : ∀ y, ((Machine.alarmStandDown v).st.zone y).mode =
      if (w.st.zone y).mode = .test then .none else (w.st.zone y).mode := fun y => (kept.mode y).trans (mode y)
  refine ended.alarmStandDown.started ?_ nofun (runSound_started _ _ _ nofun ?_ fun held => ⟨rfl, .inl held⟩)
    (fun y test => ?_) nofun
  · rw [judged]
    cases own : (w.st.zone z).mode with
    | none => rfl
    | test => rfl
    | fire => exact absurd own notFire
  · cases p <;> simp
  · rw [judged] at test
    split at test
    · cases test
    · contradiction

end Sys2Proof.Machine

end
/-! # Every step keeps the zones sound (O8) -/

section

namespace Sys2Proof.Machine

/-! ## The Configuration Store (R42, R155, R187) -/

/-- The application of an image leaves the zones' records, the Activation List, stand-down and the override count. -/
theorem applySector_frame (sec : Sector) (w : Work) : ∃ st sc p q fs ls ds cs ps,
    (applySector sec w).st =
      { w.st with
        store := st, siteCode := sc, plant := p, sequences := q, filters := fs, lists := ls, drives := ds, channels := cs,
        ports := ps } := by
  cases sec with
  | identity => exact ⟨_, _, _, _, _, _, _, _, _, rfl⟩
  | sequences => exact ⟨_, _, _, _, _, _, _, _, _, rfl⟩
  | plant =>
    obtain ⟨⟨ds, ps, frame⟩, -⟩ :=
      applyPlant_effect (plantOf w.st.store.plant.stored) (w.map fun s => s.setActivation .plant .none)
    exact ⟨_, _, _, _, _, _, _, _, _, frame⟩

/-- The event of an empty part leaves the zones' records, the Activation List, stand-down and the override count. -/
theorem storeEmptied_frame (w : Work) : ∃ st sc p q fs ls ds cs ps,
    (storeEmptied w).st =
      { w.st with
        store := st, siteCode := sc, plant := p, sequences := q, filters := fs, lists := ls, drives := ds, channels := cs,
        ports := ps } := by
  have one : ∀ sec (v : Work), ∃ st sc p q fs ls ds cs ps, (applyIfPending sec v).st =
      { v.st with
        store := st, siteCode := sc, plant := p, sequences := q, filters := fs, lists := ls, drives := ds, channels := cs,
        ports := ps } := fun sec v => by
    unfold applyIfPending
    split
    · exact applySector_frame sec v
    · exact ⟨_, _, _, _, _, _, _, _, _, rfl⟩
  unfold storeEmptied
  split
  · obtain ⟨_, _, _, _, _, _, _, _, _, first⟩ := one .plant w
    obtain ⟨_, _, _, _, _, _, _, _, _, second⟩ := one .sequences (applyIfPending .plant w)
    exact ⟨_, _, _, _, _, _, _, _, _, by rw [second, first]⟩
  · exact ⟨_, _, _, _, _, _, _, _, _, rfl⟩

section

variable {L : Fin 24 → Prop}

theorem RunsSound.applySector {w : Work} (h : RunsSound L w.st) (sec : Sector) : RunsSound L (applySector sec w).st := by
  obtain ⟨_, _, _, _, _, _, _, _, _, frame⟩ := applySector_frame sec w
  exact h.ofFields (by rw [frame]) (by rw [frame]) (by rw [frame]) (by rw [frame])

theorem RunsSound.storeEmptied {w : Work} (h : RunsSound L w.st) : RunsSound L (storeEmptied w).st := by
  obtain ⟨_, _, _, _, _, _, _, _, _, frame⟩ := storeEmptied_frame w
  exact h.ofFields (by rw [frame]) (by rw [frame]) (by rw [frame]) (by rw [frame])

theorem RunsSound.startWrite {s : State} (h : RunsSound L s) (sec : Sector) (img : Image) : RunsSound L (startWrite sec img s) := by
  unfold Machine.startWrite
  dsimp only
  split <;> exact h.ofFields rfl rfl rfl rfl

theorem RunsSound.completeWrite {s : State} (h : RunsSound L s) : RunsSound L (completeWrite s) := by
  have stored : ∀ sec, RunsSound L (written sec s) := fun sec => h.ofFields rfl rfl rfl rfl
  obtain e | ⟨-, e⟩ | ⟨sec, -, -, ⟨-, e⟩ | ⟨-, e⟩ | ⟨-, -, e⟩ | ⟨-, e⟩⟩ := completeWrite_cases s
  · rwa [e]
  · rw [e]
    exact h.ofFields rfl rfl rfl rfl
  · rw [e]
    exact h.ofFields rfl rfl rfl rfl
  · rw [e]
    exact h.ofFields rfl rfl rfl rfl
  · rw [e]
    exact RunsSound.applySector (w := Work.start (written sec s)) (stored sec) sec
  · rw [e]
    exact h.ofFields rfl rfl rfl rfl

end

theorem RunsSound.runEvent {L : Fin 24 → Prop} {s : State} {f : Work → Work} (h : RunsSound L (f (Work.start s)).st) :
    RunsSound L (Machine.runEvent s f) := RunsSound.settled h

/-! ## The requests of the panels, and TEST (R43 to R50) -/

section

variable {s : State} (h : RunsSound NoneWaits s)
include h

theorem RunsSound.zoneAlarm (p : Panel) (b : Byte) : RunsSound NoneWaits (takeZoneAlarm p b s).1 := by
  unfold takeZoneAlarm
  split
  · exact h
  · split
    · exact h
    · rename_i z _
      have starts : (s.zone z).mode ≠ .fire → RunsSound NoneWaits (Machine.runEvent s (Machine.startFire p z)) := fun notFire =>
        RunsSound.runEvent (RunsSound.startFire (w := Work.start s) h notFire)
      unfold alarmZone
      split
      · rename_i fire
        split
        · exact h
        · refine h.setZone ?_ ?_
          · cases p <;> rfl
          · have own := h.record z
            cases p with
            | panelA => exact { own with sources := ⟨fun _ => fire, fun _ => .inl rfl⟩ }
            | panelB => exact { own with sources := ⟨fun _ => fire, fun _ => .inr rfl⟩ }
      · rename_i mode
        exact starts (by rw [mode]; nofun)
      · rename_i mode
        exact starts (by rw [mode]; nofun)

/-- The run that ends by the reset of its last source: the record between the reset and the end is no matter (R46, R47). -/
theorem RunsSound.endFire (p : Panel) (z : Fin 24) : RunsSound NoneWaits (endFire p z (Work.start s)).st := by
  unfold Machine.endFire
  refine RunsSound.storeEmptied ?_
  obtain ⟨⟨_, _, _, _, frame⟩, -, own, others⟩ :=
    endInstance_effect z .ended ((Work.start s).map fun s => s.setZone z ((s.zone z).setSource p false))
  refine h.without (by rw [frame]; rfl) (by rw [frame]; rfl) (by rw [frame]; rfl) (by rw [own]; rfl)
    (by rw [own]; exact runSound_ended _ _ _ _) fun y other => ?_
  obtain ⟨m, zone⟩ := others y other
  exact ⟨m, by rw [zone, Work.map_st, Work.start_st, State.setZone_zone_other _ _ other]⟩

theorem RunsSound.zoneReset (p : Panel) (b : Byte) : RunsSound NoneWaits (takeZoneReset p b s).1 := by
  unfold takeZoneReset
  split
  · exact h
  · rename_i z _
    unfold resetZone
    dsimp only
    split
    · exact h
    · rename_i source
      split
      · rename_i left
        have fire := fire_of_source ((zonesSound_iff s).2 h) (by simpa using source)
        have own := h.record z
        refine h.setZone ?_ ?_
        · cases p <;> rfl
        · cases p with
          | panelA => exact { own with sources := ⟨fun _ => fire, fun _ => by simpa using left⟩ }
          | panelB => exact { own with sources := ⟨fun _ => fire, fun _ => by simpa using left⟩ }
      · dsimp only [zoneReply]
        exact RunsSound.runEvent (h.endFire p z)

theorem RunsSound.testStart (zone reason : Byte) : RunsSound NoneWaits (takeTestStart zone reason s).1 := by
  unfold takeTestStart
  split
  · exact h
  · split
    · exact h
    · rename_i z _
      split
      · exact h
      · split
        · exact h
        · split
          · rename_i normal
            have idle := (allZonesNormal_iff s).1 normal
            refine RunsSound.runEvent ?_
            exact h.started (idle z) nofun (runSound_started s z _ nofun ⟨fun some => some.elim nofun nofun, nofun⟩ nofun)
              (fun y test => by rw [idle y] at test; cases test) fun _ => idle
          · exact h

theorem RunsSound.testEnd (zone : Byte) : RunsSound NoneWaits (takeTestEnd zone s).1 := by
  unfold takeTestEnd
  split
  · exact h
  · rename_i z _
    split
    · have ended : RunsSound NoneWaits (endTest z (Work.start s)).st := by
        unfold endTest
        exact (RunsSound.endInstance (w := Work.start s) h z .ended).storeEmptied
      dsimp only
      exact RunsSound.runEvent ended
    · exact h
    · exact h

/-! ## Stand-down (R151, R156, R160) -/

theorem RunsSound.standDown (o : Byte) : RunsSound NoneWaits (takeStandDown o s).1 := by
  have set : ∀ opt : StandDownOption, RunsSound NoneWaits { s with standDown := true, standDownOption := some opt }.raiseFlags :=
    fun opt => h.transfer rfl ⟨fun _ => rfl, fun _ => rfl⟩ (fun _ => rfl) fun z => (h.record z).mono fun _ => .inl rfl
  unfold takeStandDown
  split
  · exact h
  · rename_i opt _
    split
    · rename_i down
      unfold standDownReply replaceOption
      dsimp only
      split
      · exact h
      · exact h.transfer rfl ⟨fun _ => rfl, fun _ => down⟩ (fun _ => rfl) h.record
    · split
      · refine (foldl_keeps_mem (P := fun t => RunsSound NoneWaits t ∧ t.standDown = true ∧
            ∀ z, (t.zone z).mode = (s.zone z).mode) (fun t z mem ⟨sound, down, mode⟩ => ?_)
          ⟨set opt, rfl, fun _ => rfl⟩).1
        have fire : (s.zone z).mode = .fire := by
          have running := (List.mem_filter.1 mem).2
          simp only [State.fireRunning, Bool.and_eq_true, beq_iff_eq] at running
          exact running.1
        refine ⟨sound.holdZone ((mode z).trans fire) down, ?_, fun y => ?_⟩
        · unfold Machine.holdZone
          dsimp only
          split <;> exact down
        · exact ((sameClaims_holdZone t z).mode y).trans (mode y)
      · exact h

/-! ## The requests that place and withdraw claims (R32 to R35, R152 to R155) -/

theorem RunsSound.overrideSet (a k : Byte) (v : Half) : RunsSound NoneWaits (takeOverrideSet a k v s).1 := by
  unfold takeOverrideSet
  split
  · exact h
  · split
    · exact h
    · split
      · exact h
      · split
        · exact h
        · refine RunsSound.settled (w := (Machine.placeOverride _ _ (Work.start s)).1) ?_
          exact (h.onlyList (placeOp_only _ .override _ (Work.start s)).1).ofFields rfl rfl rfl rfl

theorem RunsSound.withdrawOverrides (l : List (Fin 64)) :
    RunsSound NoneWaits (l.foldl (fun w a => withdrawOp a .override w) (Work.start s)).st :=
  foldl_work_keeps (P := RunsSound NoneWaits) _ (fun w a h => h.onlyList (withdrawOp_onlyList a _ w)) l h

theorem RunsSound.overrideRelease (a : Byte) : RunsSound NoneWaits (takeOverrideRelease a s).1 := by
  unfold takeOverrideRelease
  split
  · unfold takeReleaseAll
    split
    · exact h
    · refine RunsSound.runEvent (RunsSound.storeEmptied ?_)
      exact (h.withdrawOverrides s.overriddenLists).ofFields rfl rfl rfl rfl
  · unfold takeReleaseOne
    split
    · exact h
    · rename_i a _
      split
      · refine RunsSound.runEvent ?_
        rw [releaseOne_eq]
        exact RunsSound.storeEmptied ((h.onlyList (withdrawOp_onlyList a .override (Work.start s))).ofFields rfl rfl rfl rfl)
      · exact h

theorem RunsSound.placeNormal (a : Fin 64) (c : Command) : RunsSound NoneWaits (runEventWith s (placeNormal a c)).1 := by
  refine RunsSound.settled (w := (Machine.placeNormal a c (Work.start s)).1) ?_
  have cleared : RunsSound NoneWaits ((Work.start s).map (clearNormalShed a)).st := h.ofFields rfl rfl rfl rfl
  exact cleared.onlyList (placeOp_only a .normal c _).1

theorem RunsSound.normalSet (a k : Byte) (v : Half) : RunsSound NoneWaits (takeNormalSet a k v s).1 := by
  unfold takeNormalSet
  split
  · exact h
  · split
    · exact h
    · split
      · exact h
      · exact h.placeNormal _ _

theorem RunsSound.normalRelease (a : Byte) : RunsSound NoneWaits (takeNormalRelease a s).1 := by
  unfold takeNormalRelease
  split
  · exact h
  · rename_i a _
    have cleared : RunsSound NoneWaits (clearNormalShed a s) := h.ofFields rfl rfl rfl rfl
    dsimp only
    split
    · exact RunsSound.settled (w := withdrawOp a .normal ((Work.start s).map (clearNormalShed a)))
        (cleared.onlyList (withdrawOp_onlyList a .normal ((Work.start s).map (clearNormalShed a))))
    · split
      · exact cleared
      · exact h

theorem RunsSound.normalGroup (body : List Byte) : RunsSound NoneWaits (takeNormalGroup body s).1 := by
  have pairs : ∀ (l : List (Fin 64 × Command)) (r : State × List (Fin 64 × Placing)), RunsSound NoneWaits r.1 →
      RunsSound NoneWaits (l.foldl applyPair r).1 := by
    intro l
    induction l with
    | nil => exact fun _ h => h
    | cons x l ih => exact fun r h => ih _ (h.placeNormal x.1 x.2)
  unfold takeNormalGroup
  split
  · exact h
  · split
    · exact h
    · split
      · exact h
      · split
        · exact h
        · split
          · exact h
          · exact pairs _ _ h

/-! ## Samples and conversions -/

theorem RunsSound.sample (i : Fin 128) (n : Nat) : RunsSound NoneWaits (takeSample i n s) := by
  unfold takeSample
  dsimp only
  split
  · exact h.ofFields rfl rfl rfl rfl
  · refine RunsSound.runEvent ((runsSound_rule NoneWaits).handInput i ?_)
    exact h.ofFields rfl rfl rfl rfl

theorem RunsSound.conversion (c : Fin 16) (code : BitVec 10) :
    RunsSound NoneWaits (takeConversion c code { s with scan := s.scan + 1 }) := by
  unfold takeConversion
  dsimp only
  split
  · refine RunsSound.runEvent (RunsSound.channelNotice ?_ c)
    exact h.ofFields rfl rfl rfl rfl
  · exact h.ofFields rfl rfl rfl rfl

theorem RunsSound.supply (code : BitVec 10) : RunsSound NoneWaits (takeSupply code { s with scan := s.scan + 1 }) := by
  unfold takeSupply
  dsimp only
  have read : RunsSound NoneWaits
      { s with scan := s.scan + 1, supply := supplyAfter s.supply (supplyReading code.toNat) } := h.ofFields rfl rfl rfl rfl
  split
  · exact RunsSound.runEvent (RunsSound.supplyLowEvent read)
  · exact RunsSound.runEvent (RunsSound.supplyOkEvent read)
  · exact read
  · exact read

end

/-- The rule of the routine commands for the zones' soundness. -/
theorem runsSound_command : CommandRule (RunsSound NoneWaits) (RunsSound NoneWaits) where
  ports _ _ _ h _ := h.ofFields rfl rfl rfl rfl
  stays _ h := h
  quiet _ _ _ h := h.ofFields rfl rfl rfl rfl
  zoneAlarm p b _ h := h.zoneAlarm p b
  zoneReset p b _ h := h.zoneReset p b
  overrideSet a c v _ h := h.overrideSet a c v
  overrideRelease a _ h := h.overrideRelease a
  standDown o _ h := h.standDown o
  release s h := RunsSound.runEvent (RunsSound.releaseStandDown (w := Work.start s) h)
  clearFault a s h := RunsSound.runEvent
    ((runsSound_rule NoneWaits).fanEvent a _ ((runsSound_rule NoneWaits).damperEvent a _ h))
  normalSet a c v _ h := h.normalSet a c v
  normalRelease a _ h := h.normalRelease a
  normalGroup body _ h := h.normalGroup body
  testStart z r _ h := h.testStart z r
  testEnd z _ h := h.testEnd z
  configWrite body s h := by
    obtain e | ⟨_, _, e⟩ := takeConfigWrite_cases body s
    · rwa [e]
    · rw [e]; exact h.ofFields rfl rfl rfl rfl
  configActivate body s h := by
    obtain e | ⟨_, _, e⟩ | ⟨sec, img, -, -, e⟩ := takeConfigActivate_cases body s
    · rwa [e]
    · rw [e]; exact h.ofFields rfl rfl rfl rfl
    · rw [e]; exact h.startWrite sec _
  sample i n _ h := h.sample i n
  keySample _ _ h := h.ofFields rfl rfl rfl rfl
  conversion c code _ h := h.conversion c code
  supply code _ h := h.supply code
  write _ h := h.completeWrite
  damper a act s h _ := RunsSound.runEvent ((runsSound_rule NoneWaits).damperEvent a act h)
  fan a act s h _ := RunsSound.runEvent ((runsSound_rule NoneWaits).fanEvent a act h)
  stage _ _ act s h stage k := RunsSound.runEvent (RunsSound.stageAct (w := Work.start s) h stage k)

/-! ## Power and restarts (R12, R14, R15, R83) -/

/-- With every record at rest and an empty Activation List the zones are sound (R58, R162). -/
theorem runsSound_atRest {s : State} (zones : ∀ z, s.zone z = zoneAtRest) (activation : s.activation = [])
    (down : s.standDown = false) (option : s.standDownOption = none) : RunsSound NoneWaits s := by
  have ended : ∀ p, RunSound p zoneAtRest := fun p => runSound_ended p State.reset zoneAtRest .ended
  refine ⟨fun z => by rw [zones]; exact ended _, by rw [activation]; exact List.nodup_nil, fun z => ?_, fun z y test => ?_, ?_⟩
  · rw [activation, zones]
    exact ⟨fun mem => absurd mem List.not_mem_nil, fun runs => absurd rfl runs⟩
  · rw [zones] at test
    cases test
  · rw [down, option]
    exact ⟨nofun, nofun⟩

theorem runsSound_coldStart (cause : StartCause) (s : State) : RunsSound NoneWaits (coldStart cause s) := by
  obtain ⟨-, -, -, -, zones, activation, -, down, option, -⟩ := coldStart_startedCold cause s
  exact runsSound_atRest zones activation down option

theorem RunsSound.startWarmRestart {s : State} (h : RunsSound NoneWaits s) (cause : WarmCause) :
    RunsSound NoneWaits (startWarmRestart cause s) := by
  obtain e | ⟨why, e⟩ := startWarmRestart_cases cause s
  · rwa [e]
  · rw [e]
    obtain ⟨-, e⟩ | ⟨-, e⟩ := beginWarmRestart_cases why s
    · rw [e]
      exact h.ofFields rfl rfl rfl rfl
    · rw [e]
      exact runsSound_coldStart _ s

theorem RunsSound.reenterZone {s : State} (h : RunsSound NoneWaits s) (z : Fin 24) : RunsSound NoneWaits (reenterZone s z) := by
  unfold Machine.reenterZone
  dsimp only
  split
  · exact (runsSound_rule NoneWaits).write s z _ h trivial
      { RunWrite.refl _ (s.zone z) with stage := Option.map_eq_none_iff }
  · exact h

theorem RunsSound.endWarmRestart {s : State} (h : RunsSound NoneWaits s) : RunsSound NoneWaits (endWarmRestart s) := by
  have R := runsSound_rule NoneWaits
  have restarted : RunsSound NoneWaits (restartedState s) :=
    h.ofFields (by simp only [restartedState]) (by simp only [restartedState]) (by simp only [restartedState])
      (by simp only [restartedState])
  rw [endWarmRestart_eq]
  refine RunsSound.settled ?_
  unfold restartEndWork
  dsimp only
  refine foldl_work_keeps _ (fun w c h => ?_) _ (foldl_work_keeps _ (fun w i h => R.handInput i h) _ ?_)
  · unfold noticeRestarted
    split
    · exact h.channelNotice c
    · exact h
  · rw [Work.map_st, Work.start_st]
    exact foldl_keeps (P := RunsSound NoneWaits) Machine.reenterZone (fun _ z h => h.reenterZone z) _ restarted

theorem runsSound_exec {c : Instr} {s t : State} (h : RunsSound NoneWaits s) (e : exec c s = .next t) : RunsSound NoneWaits t := by
  cases routine : c.routine with
  | true => exact runsSound_command.exec routine h e
  | false =>
    cases c with
    | coldStart =>
      obtain rfl := Host.Outcome.next.inj e
      exact runsSound_coldStart _ s
    | powerLoss =>
      obtain rfl := Host.Outcome.next.inj e
      exact runsSound_atRest reset_zone rfl rfl rfl
    | warmRestartStart cause =>
      obtain rfl := Host.Outcome.next.inj e
      exact h.startWarmRestart cause
    | supervisor =>
      obtain rfl := Host.Outcome.next.inj e
      exact h.startWarmRestart .supervisor
    | warmRestartEnd =>
      obtain rfl := Host.Outcome.next.inj e
      split
      · exact h.endWarmRestart
      · exact h
    | speedFrameBoundary o =>
      obtain rfl := Host.Outcome.next.inj e
      unfold whileRunning
      split
      · exact h.ofFields rfl rfl rfl rfl
      · exact h
    | _ => cases routine

/-- Settles O8: what the operations of a run write of a record is sound, a run starts and ends with the Activation List, and the
release of stand-down clears every held flag before the engine goes on. -/
theorem zonesStaySound : Obligations.ZonesStaySound := by
  intro s t zones e
  rw [zonesSound_iff] at zones ⊢
  exact step_keeps zones e (fun _ h => h.ofFields rfl rfl rfl rfl) (fun _ _ h => h.ofFields rfl rfl rfl rfl)
    (fun _ _ _ => runsSound_exec)

end Sys2Proof.Machine

end
/-! # Proof, outcomes and sub-status (R53, R54, R66, R67) -/

section

namespace Sys2Proof.Machine

/-! ## Proof of a command (R53) -/

theorem positionProves_iff (mode : ProofMode) (p : Position) (side : Side) :
    positionProves mode p side = true ↔ p = side.position ∨ (mode = .timed ∧ p = side.byTime) := by
  simp [positionProves]

theorem provenAt_damper {s : State} {a : Fin 64} {d : DamperDrive} {ctx : DamperCtx} (drive : s.drive a = .damper d)
    (hctx : s.damperCtx a = some ctx) (c : Command) :
    s.provenAt a c = true ↔ ∃ side, sideOf c = some side ∧ positionProves ctx.mode d.position side = true := by
  rw [State.provenAt, drive, hctx]
  cases sideOf c <;> simp

theorem provenAt_fan {s : State} {a : Fin 64} {f : FanDrive} (drive : s.drive a = .fan f) (c : Command) :
    s.provenAt a c = true ↔ ((∃ v, c = .run v) ∧ f.state = .running) ∨ (c = .off ∧ f.state = .stopped) := by
  rw [State.provenAt, drive]
  cases c <;> simp

/-- A damper is proven at a command by the row of R53's table for the command's side. -/
theorem provenAt_damper_table {s : State} {a : Fin 64} {d : DamperDrive} {ctx : DamperCtx} (drive : s.drive a = .damper d)
    (hctx : s.damperCtx a = some ctx) (c : Command) :
    s.provenAt a c = true ↔
      (c = .openPos ∧ (d.position = .openPos ∨ (ctx.mode = .timed ∧ d.position = .openByTime))) ∨
        (c = .closedPos ∧ (d.position = .closedPos ∨ (ctx.mode = .timed ∧ d.position = .closedByTime))) := by
  simp only [provenAt_damper drive hctx, positionProves_iff]
  cases c with
  | openPos => simp [sideOf, Side.position, Side.byTime]
  | closedPos => simp [sideOf, Side.position, Side.byTime]
  | off => simp [sideOf]
  | run v => simp [sideOf]

/-! ## Outcomes (R66, R67) -/

theorem faultStands_iff (x : Drive) :
    x.faultStands = true ↔ (∃ d, x = .damper d ∧ d.fault.isSome = true) ∨ ∃ f, x = .fan f ∧ f.state = .failed := by
  cases x <;> simp [Drive.faultStands]

theorem judgeOutcome_failed (s : State) (r : ZoneRecord) (c : StageCommand) : judgeOutcome s r c .failed = .failed :=
  if_pos rfl

/-! A command whose earlier outcome is not FAILED is judged by its map entry, and with the claim IN-FORCE by fault and proof. -/

section

variable {s : State} {r : ZoneRecord} {c : StageCommand} {old : CommandOutcome} {e : MapEntry}
  (entry : r.map[c.actuator] = some e) (going : old ≠ .failed)
include entry going

theorem judgeOutcome_shed (shed : e.status = .shed) : judgeOutcome s r c old = .shed := by
  simp only [judgeOutcome, if_neg going, entry, shed]

theorem judgeOutcome_displaced (displaced : e.status = .displaced) : judgeOutcome s r c old = .deferred := by
  simp only [judgeOutcome, if_neg going, entry, displaced]

theorem judgeOutcome_inForce (inForce : e.status = .inForce) :
    judgeOutcome s r c old =
      if (s.drive c.actuator).faultStands then .failed else if s.provenAt c.actuator c.cmd then .proven else .pending := by
  simp only [judgeOutcome, if_neg going, entry, inForce]

end

/-! ## Sub-status (R54) -/

theorem subStatusOf_complete {s : State} {r : ZoneRecord} (complete : r.phase = .complete) :
    subStatusOf s r = if ∀ a e, r.map[(a : Fin 64)] = some e → e.status = .inForce ∧ s.provenAt a e.cmd = true then .established
      else .degraded := by
  have whole : ((List.finRange 64).all fun a =>
      match r.map[a] with
      | none => true
      | some e => e.status == .inForce && s.provenAt a e.cmd) = true ↔
      ∀ a e, r.map[(a : Fin 64)] = some e → e.status = .inForce ∧ s.provenAt a e.cmd = true := by
    rw [List.all_eq_true]
    refine ⟨fun all a e entry => ?_, fun all a _ => ?_⟩
    · have one := all a (List.mem_finRange a)
      rw [entry] at one
      simpa using one
    · cases entry : r.map[a] with
      | none => rfl
      | some e => simpa using all a e entry
  rw [subStatusOf, complete]
  exact if_congr whole rfl rfl

/-- Settles O14: R53's table by the kind of the drive, R66's tests by the entry's status, and R54 by the phase. -/
theorem provenByTheTable : Obligations.ProvenByTheTable := by
  refine ⟨fun s a c => ⟨fun d ctx drive hctx => provenAt_damper_table drive hctx c, fun f drive => provenAt_fan drive c⟩,
    fun s r c old e entry => ?_, fun s r => ?_⟩
  · dsimp only
    rw [← faultStands_iff]
    refine ⟨fun failed => by rw [failed, judgeOutcome_failed], judgeOutcome_shed entry, judgeOutcome_displaced entry,
      fun going inForce stands => ?_, fun going inForce clear proven => ?_, fun going inForce clear unproven => ?_⟩
    · exact (judgeOutcome_inForce entry going inForce).trans (if_pos stands)
    · exact (judgeOutcome_inForce entry going inForce).trans ((if_neg clear).trans (if_pos proven))
    · exact (judgeOutcome_inForce entry going inForce).trans ((if_neg clear).trans (if_neg (by rw [unproven]; nofun)))
  · refine ⟨fun phase => ?_, fun stopped => ?_, fun complete whole => ?_, fun complete part => ?_⟩
    · rcases phase with phase | phase <;> rw [subStatusOf, phase]
    · rw [subStatusOf, stopped]
    · exact (subStatusOf_complete complete).trans (if_pos whole)
    · exact (subStatusOf_complete complete).trans (if_neg part)

end Sys2Proof.Machine

end
/-! # Alarms, resets and tests that start or keep a run (R44 to R46, R48, R49, R55, R158) -/

section

namespace Sys2Proof.Machine

/-! ## Replies and sources -/

theorem reportedZone_reported {s : State} {p : Panel} {b : Byte} {z : Fin 24} {d : ZoneDef} (number : zoneOf b = some z)
    (defined : s.zoneDef z = some d) (reported : d.reportedBy p = true) : s.reportedZone p b = some z := by
  simp [State.reportedZone, State.configuredZone, number, defined, reported]

theorem takeZoneAlarm_reported {s : State} {p : Panel} {b : Byte} {z : Fin 24} (fault : s.configFault = false)
    (reported : s.reportedZone p b = some z) : takeZoneAlarm p b s = alarmZone p z s := by
  simp [takeZoneAlarm, fault, reported]

theorem takeZoneReset_reported {s : State} {p : Panel} {b : Byte} {z : Fin 24} (reported : s.reportedZone p b = some z) :
    takeZoneReset p b s = resetZone p z s := by
  simp [takeZoneReset, reported]

theorem zoneReply_setZone (res : Result) (z : Fin 24) (s : State) (r : ZoneRecord) :
    zoneReply res z (s.setZone z r) =
      (s.setZone z r, { result := res, body := .zoneState r.mode r.phase r.sourceA r.sourceB }) := by
  rw [zoneReply, zoneItems, State.setZone_zone_same]

theorem setSource_present (r : ZoneRecord) (p : Panel) :
    r.setSource p true = { r with sourceA := r.sourceA || p == .panelA, sourceB := r.sourceB || p == .panelB } := by
  cases p <;> simp [ZoneRecord.setSource]

/-- Of two sources the other panel's is left. -/
theorem setSource_absent {r : ZoneRecord} (a : r.sourceA = true) (b : r.sourceB = true) (p : Panel) :
    r.setSource p false = { r with sourceA := p == .panelB, sourceB := p == .panelA } := by
  cases p <;> simp [ZoneRecord.setSource, a, b]

theorem hasSource_both {r : ZoneRecord} (a : r.sourceA = true) (b : r.sourceB = true) (p : Panel) : r.hasSource p = true := by
  cases p
  · exact a
  · exact b

/-! ## A run that goes on (R45, R46) -/

theorem alarmZone_known {s : State} {p : Panel} {z : Fin 24} (fire : (s.zone z).mode = .fire)
    (known : (s.zone z).hasSource p = true) : alarmZone p z s = zoneReply .noChange z s := by
  simp [alarmZone, fire, known]

theorem alarmZone_joins {s : State} {p : Panel} {z : Fin 24} (fire : (s.zone z).mode = .fire)
    (unknown : (s.zone z).hasSource p = false) :
    alarmZone p z s = zoneReply .done z (s.setZone z ((s.zone z).setSource p true)) := by
  simp [alarmZone, fire, unknown]

theorem resetZone_unknown {s : State} {p : Panel} {z : Fin 24} (unknown : (s.zone z).hasSource p = false) :
    resetZone p z s = zoneReply .noChange z s := by
  simp [resetZone, unknown]

theorem resetZone_leaves {s : State} {p : Panel} {z : Fin 24} (a : (s.zone z).sourceA = true) (b : (s.zone z).sourceB = true) :
    resetZone p z s = zoneReply .done z (s.setZone z { s.zone z with sourceA := p == .panelB, sourceB := p == .panelA }) := by
  have other : (p == .panelB || p == .panelA) = true := by cases p <;> rfl
  simp only [resetZone, hasSource_both a b p, setSource_absent a b p, other, Bool.not_true, Bool.false_eq_true, if_false,
    if_true]

/-- Settles O25: the panel is written in or out of the sources, and the reply shows the record as written. -/
theorem aFireRunKeepsItsCourse : Obligations.AFireRunKeepsItsCourse := by
  intro p b z d s takes number defined reported
  have zone := reportedZone_reported number defined reported
  have alarm : s.configFault = false → takeZoneAlarm p b s = alarmZone p z s := fun fault => takeZoneAlarm_reported fault zone
  have reset : takeZoneReset p b s = resetZone p z s := takeZoneReset_reported zone
  refine ⟨fun fault fire => ⟨fun known => ?_, fun unknown => ?_⟩, fun unknown => ?_, fun a b => ?_⟩
  · exact request_answers takes ((alarm fault).trans (alarmZone_known fire known))
  · refine request_answers takes ((alarm fault).trans ((alarmZone_joins fire unknown).trans ?_))
    rw [setSource_present, zoneReply_setZone]
    simp only [fire]
  · exact request_answers takes (reset.trans (resetZone_unknown unknown))
  · exact request_answers takes (reset.trans ((resetZone_leaves a b).trans (zoneReply_setZone ..)))

/-! ## A run started (R44, R49) -/

/-- The record of a run at its start, by the zone's sequence and the supply. -/
theorem startedZone_startedRecord {s t : State} (supply : t.supply = s.supply) (sequences : t.sequences = s.sequences) (z : Fin 24)
    (mode : ZoneMode) (sourceA sourceB held : Bool) (log : Option TestLog) :
    StartedZone s z mode sourceA sourceB held log (startedRecord t z mode sourceA sourceB held log) := by
  have sequence : (s.sequenceOf z)[0]?.getD 0 = (dueAt t z 0).stage := by
    simp only [dueAt, State.sequenceOf, State.zoneDef, sequences]
  exact ⟨rfl, rfl, rfl, rfl, rfl, by rw [← supply]; rfl, rfl, rfl, rfl, dueAt t z 0, rfl, rfl, sequence, rfl, rfl, rfl⟩

theorem takeTestStart_passes {s : State} {b code : Byte} {z : Fin 24} {why : TestReason} (fault : s.configFault = false)
    (configured : s.configuredZone b = some z) (reason : testReasonOf code = some why)
    (key : why = .commissioning → s.keyOn = true) (idle : ∀ y, (s.zone y).mode = .none) :
    takeTestStart b code s = (runEvent s (startTest z why), Reply.bare .done) := by
  have passes : ¬ (why = .commissioning ∧ s.keyOn = false) := fun ⟨commissioning, off⟩ =>
    absurd (key commissioning) (by rw [off]; nofun)
  simp only [takeTestStart, fault, configured, reason, (allZonesNormal_iff s).2 idle, if_neg passes, Bool.false_eq_true,
    if_false, if_true]

/-- Settles O27: the request passes its checks, and what it starts is the started record. -/
theorem testStartBeginsATest : Obligations.TestStartBeginsATest := by
  intro b code z why s takes fault configured reason key idle
  exact ⟨startedRecord s z .test false false false (some (newLog s z why)),
    request_answers takes (takeTestStart_passes fault configured reason key idle),
    startedZone_startedRecord rfl rfl z .test false false false _⟩

/-! ## The record of a run that ends (R55, R56) -/

theorem entriesAtEnd_endEntries (s : State) (r : ZoneRecord) (log : TestLog) :
    EntriesAtEnd s r log (endEntries s r log.entries) := by
  refine ⟨fun cs stage going => ?_, fun finished => ?_⟩
  · simp only [endEntries, stage, if_neg going]
    rfl
  · unfold endEntries
    split
    · rfl
    · rename_i cs stage
      rw [if_pos (finished cs stage)]

theorem endedRecord_lastTest {r : ZoneRecord} {log : TestLog} (test : r.mode = .test) (logged : r.log = some log) (s : State)
    (why : EndReason) : (endedRecord s r why).lastTest = some (testRecord s r log why) := by
  simp [endedRecord, test, logged]

theorem endedRecord_lastFire {r : ZoneRecord} (test : r.mode = .test) (s : State) (why : EndReason) :
    (endedRecord s r why).lastFire = r.lastFire := by
  simp [endedRecord, test]

/-! ## An alarm that starts a run (R44, R45) -/

/-- The part once an alarm has ended the TEST runs: each has its record written, the other zones' records differ in their maps
alone, and nothing else but lists, drives and ports differs (R44 step 1). -/
structure TestsEnded (s t : State) : Prop where
  frame : ∃ ls ds zs ps, t =
    { s with
      activation := s.activation.filter (fun y => (s.zone y).mode != .test), lists := ls, drives := ds, zones := zs, ports := ps }
  ended : ∀ y, (s.zone y).mode = .test → ∃ m, t.zone y = { endedRecord s (s.zone y) .abortedByAlarm with map := m }
  others : ∀ y, (s.zone y).mode ≠ .test → ∃ m, t.zone y = { s.zone y with map := m }

theorem testsEnded (w : Work) :
    TestsEnded w.st (w.st.testZones.foldl (fun w y => endInstance y .abortedByAlarm w) w).st := by
  obtain ⟨⟨ls, ds, zs, ps, frame⟩, ended, others⟩ := endInstances_effect .abortedByAlarm _ (testZones_nodup w.st) w
  have active : (fun y => decide (y ∉ w.st.testZones)) = fun y => (w.st.zone y).mode != .test := by
    funext y
    simp only [mem_testZones, decide_not, bne, beq_eq_decide]
  exact ⟨⟨ls, ds, zs, ps, by rw [frame, active]⟩, fun y test => ended y ((mem_testZones _ y).2 test),
    fun y going => others y (fun mem => going ((mem_testZones _ y).1 mem))⟩

/-- The state of an alarm before its zone starts: the TEST runs ended, and stand-down judged. -/
def alarmReady (w : Work) : Work :=
  alarmStandDown (w.st.testZones.foldl (fun w y => endInstance y .abortedByAlarm w) w)

theorem startFire_eq (p : Panel) (z : Fin 24) (w : Work) :
    startFire p z w = (alarmReady w).map fun s =>
      startZone z (startedRecord s z .fire (p == .panelA) (p == .panelB) s.standDown none) s := rfl

/-- What an alarm has done before its zone starts: modes, sources and past records by `TestsEnded`, stand-down by its option. -/
theorem alarmReady_effect (w : Work) :
    ∃ t, TestsEnded w.st t ∧
      (∃ o, Keeps { t with standDown := (alarmReady w).st.standDown, standDownOption := o } (alarmReady w).st) ∧
      ((alarmReady w).st.standDown = true ↔ w.st.standDown = true ∧ w.st.standDownOption ≠ some .resumeOnNewAlarm) := by
  have ended := testsEnded w
  obtain ⟨kept, down⟩ := alarmStandDown_effect (w.st.testZones.foldl (fun w y => endInstance y .abortedByAlarm w) w)
  obtain ⟨_, _, _, _, frame⟩ := ended.frame
  exact ⟨_, ended, kept, by rw [alarmReady, down, frame]⟩

theorem startZone_zone_same (z : Fin 24) (r : ZoneRecord) (s : State) : (startZone z r s).zone z = r :=
  State.setZone_zone_same { s with activation := s.activation ++ [z] } z r

theorem startZone_zone_other {z y : Fin 24} (r : ZoneRecord) (s : State) (other : y ≠ z) : (startZone z r s).zone y = s.zone y :=
  State.setZone_zone_other { s with activation := s.activation ++ [z] } r other

/-- An ended TEST's record of its run, by what the zone held (R55). -/
theorem TestsEnded.record {s t : State} (h : TestsEnded s t) {y : Fin 24} (test : (s.zone y).mode = .test) {log : TestLog}
    (logged : (s.zone y).log = some log) :
    (t.zone y).lastTest = some (testRecord s (s.zone y) log .abortedByAlarm) := by
  obtain ⟨m, zone⟩ := h.ended y test
  rw [zone]
  exact endedRecord_lastTest test logged s _

theorem TestsEnded.past {s t : State} (h : TestsEnded s t) (y : Fin 24) :
    (t.zone y).lastFire = (s.zone y).lastFire ∧ ((s.zone y).mode ≠ .test → (t.zone y).lastTest = (s.zone y).lastTest) := by
  by_cases test : (s.zone y).mode = .test
  · obtain ⟨m, zone⟩ := h.ended y test
    rw [zone]
    exact ⟨endedRecord_lastFire test s .abortedByAlarm, fun going => absurd test going⟩
  · obtain ⟨m, zone⟩ := h.others y test
    rw [zone]
    exact ⟨rfl, fun _ => rfl⟩

theorem TestsEnded.kept {s t : State} (h : TestsEnded s t) {y : Fin 24} (going : (s.zone y).mode ≠ .test) :
    (t.zone y).mode = (s.zone y).mode ∧ (t.zone y).sourceA = (s.zone y).sourceA ∧ (t.zone y).sourceB = (s.zone y).sourceB := by
  obtain ⟨m, zone⟩ := h.others y going
  rw [zone]
  exact ⟨rfl, rfl, rfl⟩

theorem alarmZone_starts {s : State} {p : Panel} {z : Fin 24} (notFire : (s.zone z).mode ≠ .fire) :
    alarmZone p z s = zoneReply .done z (runEvent s (startFire p z)) := by
  unfold alarmZone
  cases mode : (s.zone z).mode with
  | fire => exact absurd mode notFire
  | none => rfl
  | test => rfl

/-- The reply to an alarm that starts a run shows the run after the engine (R44). -/
theorem zoneReply_startFire (s : State) (p : Panel) (z : Fin 24) :
    zoneReply .done z (runEvent s (startFire p z)) =
      (settled (startFire p z (Work.start s)),
        { result := .done
          body := .zoneState .fire ((settled (startFire p z (Work.start s))).zone z).phase (p == .panelA) (p == .panelB) }) := by
  have kept := keeps_settled (startFire p z (Work.start s))
  have own : (startFire p z (Work.start s)).st.zone z = _ := startZone_zone_same z _ _
  change zoneReply .done z (settled _) = _
  rw [zoneReply, zoneItems, kept.mode z, kept.sourceA z, kept.sourceB z, own]
  rfl

/-- Settles O24: the TEST runs end, stand-down is judged, and the zone starts; what each of the three leaves is composed. -/
theorem alarmStartsAFireRun : Obligations.AlarmStartsAFireRun := by
  intro p b z d s takes fault number defined reported notFire
  obtain ⟨t, tests, ⟨o, kept⟩, down⟩ := alarmReady_effect (Work.start s)
  have answer := request_answers (k := 0x10) takes ((takeZoneAlarm_reported fault (reportedZone_reported number defined reported)).trans
    ((alarmZone_starts notFire).trans (zoneReply_startFire s p z)))
  obtain ⟨_, _, _, _, frame⟩ := tests.frame
  refine ⟨startFire p z (Work.start s), answer, ?_⟩
  rw [startFire_eq, Work.map_st]
  generalize (alarmReady (Work.start s)).st = u at kept down
  have past : ∀ y, ((startZone z (startedRecord u z .fire (p == .panelA) (p == .panelB) u.standDown none) u).zone y).lastFire =
        (t.zone y).lastFire ∧
      ((startZone z (startedRecord u z .fire (p == .panelA) (p == .panelB) u.standDown none) u).zone y).lastTest =
        (t.zone y).lastTest := fun y => by
    rw [← show (u.zone y).lastFire = (t.zone y).lastFire from kept.lastFire y,
      ← show (u.zone y).lastTest = (t.zone y).lastTest from kept.lastTest y]
    by_cases own : y = z
    · subst own
      rw [startZone_zone_same]
      exact ⟨rfl, rfl⟩
    · rw [startZone_zone_other _ _ own]
      exact ⟨rfl, rfl⟩
  refine ⟨?_, ?_, down, fun y test => ⟨fun other => ?_, fun log logged => ?_⟩, fun y other going => ?_, fun y => ?_, ?_, ?_, ?_,
    ?_, raiseFlags_set _⟩
  · rw [startZone_zone_same]
    exact startedZone_startedRecord (kept.supply.trans (by rw [frame]; rfl)) (kept.sequences.trans (by rw [frame]; rfl)) z _ _ _ _ _
  · exact congrArg (· ++ [z]) (kept.activation.trans (by rw [frame]; rfl))
  · obtain ⟨m, zone⟩ := tests.ended y test
    rw [startZone_zone_other _ _ other]
    exact (kept.mode y).trans (congrArg ZoneRecord.mode zone)
  · refine ⟨_, (past y).2.trans (tests.record test logged), rfl, rfl, rfl, rfl, ?_⟩
    exact entriesAtEnd_endEntries s (s.zone y) log
  · obtain ⟨mode, sourceA, sourceB⟩ := tests.kept going
    rw [startZone_zone_other _ _ other]
    exact ⟨(kept.mode y).trans mode, (kept.sourceA y).trans sourceA, (kept.sourceB y).trans sourceB⟩
  · rw [(past y).1, (past y).2]
    exact tests.past y
  · exact kept.overrides.trans (by rw [frame]; rfl)
  · exact kept.store.trans (by rw [frame]; rfl)
  · exact kept.plant.trans (by rw [frame]; rfl)
  · exact kept.sequences.trans (by rw [frame]; rfl)

end Sys2Proof.Machine

end
/-! # The end of a run by a reset or by TEST-END (R42, R46, R47, R50, R55, R56) -/

section

namespace Sys2Proof.Machine

/-! ## A zone outside the Activation List -/

theorem refreshEntries_zone_inactive (a : Fin 64) {s : State} {z : Fin 24} (gone : z ∉ s.activation) :
    (refreshEntries a s).zone z = s.zone z := by
  refine foldl_keeps_mem (P := fun t => t.zone z = s.zone z) (fun t y mem same => ?_) rfl
  have other : z ≠ y := fun e => gone (e ▸ mem)
  rw [refreshEntry_eq]
  exact (State.setZone_zone_other t _ other).trans same

theorem endListOp_zone_inactive (a : Fin 64) (cs : List Claim) (m : Bool) {w : Work} {z : Fin 24} (gone : z ∉ w.st.activation) :
    (endListOp a cs m w).st.zone z = w.st.zone z := by
  unfold endListOp
  simp only [Work.map_st]
  split
  · exact refreshEntries_zone_inactive a gone
  · split
    · rename_i c _
      obtain ⟨ps, frame⟩ := handTarget_st a c (w.map fun s => s.setList a
        { claims := cs, target := deriveTarget (restCommand (w.st.record a)) cs, normalShed := m })
      rw [frame]
      exact refreshEntries_zone_inactive a gone
    · exact refreshEntries_zone_inactive a gone

theorem placeOp_zone_inactive (a : Fin 64) (src : Source) (cmd : Command) {w : Work} {z : Fin 24} (gone : z ∉ w.st.activation) :
    (placeOp a src cmd w).1.st.zone z = w.st.zone z := by
  obtain ⟨-, ⟨-, same⟩ | ⟨-, l, -, -, marked⟩ | ⟨m, ended⟩⟩ := placeOp_cases a src cmd w
  · rw [same]
  · rw [marked]
    exact refreshEntries_zone_inactive a (s := w.st.setList a l) gone
  · rw [ended]
    exact endListOp_zone_inactive a _ m gone

theorem withdrawOp_zone_inactive (a : Fin 64) (src : Source) {w : Work} {z : Fin 24} (gone : z ∉ w.st.activation) :
    (withdrawOp a src w).st.zone z = w.st.zone z := by
  by_cases absent : claimOf (w.st.claimList a).claims src = none
  · rw [withdrawOp_absent absent]
  · rw [withdrawOp_eq absent]
    exact endListOp_zone_inactive a _ _ gone

/-! ## A source without claims -/

/-- A placing adds claims of its own source alone. -/
theorem claimOf_placeClaim_other {src other : Source} (differs : other ≠ src) {cs : List Claim} (absent : claimOf cs other = none)
    (act : List (Fin 24)) (cmd : Command) : claimOf (placeClaim act cs src cmd).1 other = none := by
  rw [claimOf_none_iff] at absent ⊢
  have replaced : ∀ c ∈ replaceClaim cs src cmd, c.src ≠ other := fun c mem => by
    rcases mem_replaceClaim mem with rfl | ⟨mem, -⟩
    · exact differs.symm
    · exact absent c mem
  have inserted : ∀ l : List Claim, l ⊆ cs → ∀ c ∈ insertClaim act ⟨src, cmd⟩ l, c.src ≠ other := fun l sub c mem => by
    rcases mem_insertClaim.1 mem with rfl | mem
    · exact differs.symm
    · exact absent c (sub mem)
  unfold placeClaim
  split
  · split
    · exact absent
    · exact replaced
  · split
    · exact inserted cs (List.Subset.refl cs)
    · split
      · split
        · exact inserted _ (List.dropLast_subset cs)
        · exact absent
      · exact inserted cs (List.Subset.refl cs)

/-- A re-offer adds claims of active zones alone. -/
theorem claimOf_reoffer_inactive {s : State} {z : Fin 24} (gone : z ∉ s.activation) (r : ZoneRecord) (a : Fin 64)
    {cs : List Claim} (absent : claimOf cs (zoneSource r z) = none) : claimOf (reoffer s a cs) (zoneSource r z) = none := by
  rw [claimOf_none_iff] at absent ⊢
  rw [reoffer_eq]
  have step : ∀ (l : List (Fin 24)) (cs : List Claim), (∀ y ∈ l, y ∈ s.activation) → (∀ c ∈ cs, c.src ≠ zoneSource r z) →
      ∀ c ∈ l.foldl (reofferZone s a) cs, c.src ≠ zoneSource r z := by
    intro l
    induction l with
    | nil => exact fun cs _ absent => absent
    | cons y l ih =>
      intro cs active absent
      refine ih _ (fun x mem => active x (List.mem_cons_of_mem _ mem)) fun c mem => ?_
      have other : z ≠ y := fun e => gone (e ▸ active y (List.mem_cons_self ..))
      rcases reofferZone_cases s a cs y with same | ⟨e, -, -, -, inserted⟩
      · exact absent c (same ▸ mem)
      · rw [inserted] at mem
        rcases mem_insertClaim.1 mem with rfl | mem
        · exact fun src => other (zoneSource_inj src.symm)
        · exact absent c mem
  exact step s.activation cs (fun _ => id) absent

/-! ## The withdrawals at the end of a run (R47 step 2) -/

/-- A zone that has left the Activation List with its record as it was, each of its claims standing in its map. -/
structure Leaving (z : Fin 24) (r : ZoneRecord) (s : State) : Prop where
  gone : z ∉ s.activation
  record : s.zone z = r
  entries : ∀ a, (claimOf (s.claimList a).claims (zoneSource r z)).isSome = true → ∃ e, r.map[a] = some e ∧ e.status ≠ .shed

/-- The withdrawal of an entry withdraws the zone's claim for its actuator, and adds none for another. -/
theorem Leaving.withdrawEntry {z : Fin 24} {r : ZoneRecord} {w : Work} (h : Leaving z r w.st) (a : Fin 64) :
    Leaving z r (withdrawEntry z w a).st ∧
      ∀ b, b = a ∨ claimOf (w.st.claimList b).claims (zoneSource r z) = none →
        claimOf ((Machine.withdrawEntry z w a).st.claimList b).claims (zoneSource r z) = none := by
  have unlisted : (∀ e, r.map[a] = some e → e.status = .shed) → claimOf (w.st.claimList a).claims (zoneSource r z) = none :=
    fun shed => Option.isNone_iff_eq_none.1 (by
      by_contra standing
      obtain ⟨e, entry, some⟩ := h.entries a (by simpa [Option.isSome_iff_ne_none] using standing)
      exact some (shed e entry))
  have skip : claimOf (w.st.claimList a).claims (zoneSource r z) = none → Leaving z r w.st ∧
      ∀ b, b = a ∨ claimOf (w.st.claimList b).claims (zoneSource r z) = none →
        claimOf (w.st.claimList b).claims (zoneSource r z) = none := fun absent =>
    ⟨h, fun b other => other.elim (fun same => by rw [same, absent]) id⟩
  unfold Machine.withdrawEntry
  rw [h.record]
  dsimp only
  split
  · rename_i none
    exact skip (unlisted fun e entry => by rw [none] at entry; cases entry)
  · rename_i e entry
    split
    · rename_i shed
      exact skip (unlisted fun x found => by rw [entry] at found; cases found; exact shed)
    · by_cases absent : claimOf (w.st.claimList a).claims (zoneSource r z) = none
      · rw [withdrawOp_absent absent]
        exact skip absent
      · obtain ⟨only, list⟩ := withdrawOp_only absent
        have own : claimOf ((withdrawOp a (zoneSource r z) w).st.claimList a).claims (zoneSource r z) = none := by
          rw [list]
          exact claimOf_reoffer_inactive h.gone r a (claimOf_removeClaim _ _)
        have after : ∀ b, b = a ∨ claimOf (w.st.claimList b).claims (zoneSource r z) = none →
            claimOf ((withdrawOp a (zoneSource r z) w).st.claimList b).claims (zoneSource r z) = none := fun b some => by
          by_cases same : b = a
          · rw [same, own]
          · rw [only.claimList_other same]
            exact some.resolve_left same
        refine ⟨⟨by rw [(keeps_withdrawOp a _ w).activation]; exact h.gone, (withdrawOp_zone_inactive a _ h.gone).trans h.record,
          fun b standing => h.entries b ?_⟩, after⟩
        by_contra none
        rw [after b (.inr (by simpa using none))] at standing
        cases standing

theorem Leaving.withdrawEntries {z : Fin 24} {r : ZoneRecord} (l : List (Fin 64)) {w : Work} (h : Leaving z r w.st) (a : Fin 64)
    (reached : a ∈ l ∨ claimOf (w.st.claimList a).claims (zoneSource r z) = none) :
    claimOf ((l.foldl (Machine.withdrawEntry z) w).st.claimList a).claims (zoneSource r z) = none := by
  induction l generalizing w with
  | nil => exact reached.resolve_left List.not_mem_nil
  | cons b l ih =>
    obtain ⟨leaving, withdrawn⟩ := h.withdrawEntry b
    refine ih leaving ?_
    by_cases later : a ∈ l
    · exact .inl later
    · exact .inr (withdrawn a (reached.imp (fun mem => (List.mem_cons.1 mem).resolve_right later) id))

/-- The end of a run withdraws every claim of it (R47). -/
theorem endInstance_unclaimed (z : Fin 24) (why : EndReason) (w : Work)
    (entries : ∀ a, (claimOf (w.st.claimList a).claims (zoneSource (w.st.zone z) z)).isSome = true →
      ∃ e, (w.st.zone z).map[a] = some e ∧ e.status ≠ .shed) (a : Fin 64) :
    claimOf ((endInstance z why w).st.claimList a).claims (zoneSource (w.st.zone z) z) = none := by
  have leaving : Leaving z (w.st.zone z) (w.map fun s => { s with activation := s.activation.filter (fun y => y != z) }).st :=
    ⟨by simp, rfl, entries⟩
  have withdrawn := leaving.withdrawEntries (List.finRange 64) a (.inl (List.mem_finRange a))
  unfold endInstance
  dsimp only
  rw [Work.map_st]
  generalize (List.finRange 64).foldl (Machine.withdrawEntry z)
    (w.map fun s => { s with activation := s.activation.filter (fun y => y != z) }) = v at withdrawn ⊢
  exact withdrawn

/-! ## A run that has ended stays ended -/

/-- A zone outside the Activation List with a given record, and no list with a claim of its run. -/
structure RunGone (z : Fin 24) (r : ZoneRecord) (src : Source) (s : State) : Prop where
  gone : z ∉ s.activation
  record : s.zone z = r
  unclaimed : ∀ a, claimOf (s.claimList a).claims src = none

theorem runGone_rule (z : Fin 24) (r x : ZoneRecord) : ZoneRule (fun y => y ≠ z) (RunGone z r (zoneSource x z)) where
  active s y h mem same := h.gone (same ▸ mem)
  same s t h same := ⟨by rw [same.activation]; exact h.gone, by rw [same.zone]; exact h.record, fun a => by
    rw [State.claimList, same.lists]
    exact h.unclaimed a⟩
  write s y _ h other _ := ⟨h.gone, (State.setZone_zone_other s _ (Ne.symm other)).trans h.record, h.unclaimed⟩
  place w a y cmd h other := by
    obtain ⟨only, -, target, list, -⟩ := placeOp_only a (zoneSource (w.st.zone y) y) cmd w
    refine ⟨by rw [(keeps_placeOp a _ cmd w).activation]; exact h.gone, (placeOp_zone_inactive a _ cmd h.gone).trans h.record,
      fun b => ?_⟩
    by_cases same : b = a
    · subst same
      rw [list]
      exact claimOf_placeClaim_other (fun src => other (zoneSource_inj src.symm)) (h.unclaimed b) _ _
    · rw [only.claimList_other same]
      exact h.unclaimed b

theorem RunGone.storeEmptied {z : Fin 24} {r : ZoneRecord} {src : Source} {w : Work} (h : RunGone z r src w.st) :
    RunGone z r src (storeEmptied w).st := by
  refine ⟨by rw [storeEmptied_activation]; exact h.gone, ?_, fun a => ?_⟩
  · obtain ⟨_, _, _, _, _, _, _, _, _, frame⟩ := storeEmptied_frame w
    rw [frame]
    exact h.record
  · rcases storeEmptied_lists w with same | ⟨-, empty⟩
    · rw [State.claimList, same]
      exact h.unclaimed a
    · rw [empty a]
      rfl

theorem FlagsSet.applyIfPending {sec : Sector} (loads : sec ≠ .identity) {w : Work} (h : FlagsSet w.st) :
    FlagsSet (applyIfPending sec w).st := by
  by_cases pending : (w.st.store.sector sec).activation = .pending
  · cases sec with
    | identity => exact absurd rfl loads
    | plant => exact (applyIfPending_plant pending).2.1
    | sequences =>
      rw [Machine.applyIfPending, if_pos pending]
      exact raiseFlags_set _
  · rw [applyIfPending_none pending]
    exact h

theorem FlagsSet.storeEmptied {w : Work} (h : FlagsSet w.st) : FlagsSet (storeEmptied w).st := by
  unfold Machine.storeEmptied
  split
  · exact (h.applyIfPending (sec := .plant) nofun).applyIfPending (sec := .sequences) nofun
  · exact h

/-- A part after the end of a zone's run and the engine: the run is gone, the other zones keep their modes, every change flag is
set, and a PENDING image is applied where no zone is active and no override stands (R42, R47, R187). -/
structure RunEnded (z : Fin 24) (s t : State) : Prop where
  gone : RunGone z (endedRecord s (s.zone z) .ended) (zoneSource (s.zone z) z) t
  activation : t.activation = s.activation.filter (fun y => y != z)
  modes : ∀ y, y ≠ z → (t.zone y).mode = (s.zone y).mode
  standDown : t.standDown = s.standDown
  overrides : t.overrides = s.overrides
  flags : FlagsSet t
  pending : PendingApplied s t

theorem runEnded (z : Fin 24) (w : Work)
    (entries : ∀ a, (claimOf (w.st.claimList a).claims (zoneSource (w.st.zone z) z)).isSome = true →
      ∃ e, (w.st.zone z).map[a] = some e ∧ e.status ≠ .shed) :
    RunEnded z w.st (settled (storeEmptied (endInstance z .ended w))) := by
  obtain ⟨⟨_, _, _, _, frame⟩, flags, own, others⟩ := endInstance_effect z .ended w
  have unclaimed := endInstance_unclaimed z .ended w entries
  generalize endInstance z .ended w = e at frame flags own others unclaimed
  have ended : RunGone z (endedRecord w.st (w.st.zone z) .ended) (zoneSource (w.st.zone z) z) e.st :=
    ⟨by rw [frame]; simp, own, unclaimed⟩
  obtain ⟨_, _, _, _, _, _, _, _, _, stored⟩ := storeEmptied_frame e
  have engine := keeps_settled (storeEmptied e)
  exact
    { gone := (runGone_rule z _ _).settled ended.storeEmptied
      activation := by rw [engine.activation, storeEmptied_activation, frame]
      modes := fun y other => by
        obtain ⟨m, zone⟩ := others y other
        rw [engine.mode, stored]
        exact (congrArg ZoneRecord.mode zone).trans rfl
      standDown := by rw [engine.standDown, stored, frame]
      overrides := by rw [engine.overrides, storeEmptied_overrides, frame]
      flags := flags.storeEmptied.keeps engine
      pending := (pendingApplied_storeEmptied e).congr (by rw [frame]) (by rw [frame]) (by rw [frame]) }

/-! ## The reset of the last source (R46, R56) -/

/-- A zone's record once the one panel that is its source has reset. -/
theorem setSource_last {r : ZoneRecord} {p : Panel} (a : r.sourceA = (p == .panelA)) (b : r.sourceB = (p == .panelB)) :
    r.hasSource p = true ∧ r.setSource p false = { r with sourceA := false, sourceB := false } := by
  cases p with
  | panelA => exact ⟨a, by simp [ZoneRecord.setSource, b]⟩
  | panelB => exact ⟨b, by simp [ZoneRecord.setSource, a]⟩

theorem resetZone_last {s : State} {p : Panel} {z : Fin 24} (a : (s.zone z).sourceA = (p == .panelA))
    (b : (s.zone z).sourceB = (p == .panelB)) : resetZone p z s = zoneReply .done z (runEvent s (endFire p z)) := by
  obtain ⟨source, none⟩ := setSource_last a b
  simp [resetZone, source, none]

theorem endedRecord_fire {r : ZoneRecord} (fire : r.mode = .fire) (s : State) (why : EndReason) :
    endedRecord s r why = { zoneAtRest with lastTest := r.lastTest, lastFire := some (fireSummary r) } := by
  simp [endedRecord, fire]

/-- Settles O26: the last source's reset ends the run, and what `runEnded` says of the part whose zone has no source holds of it. -/
theorem theLastResetEndsTheRun : Obligations.TheLastResetEndsTheRun := by
  intro p b z d s takes number defined reported fire sourceA sourceB entries
  obtain ⟨-, none⟩ := setSource_last sourceA sourceB
  have zone : (s.setZone z ((s.zone z).setSource p false)).zone z = { s.zone z with sourceA := false, sourceB := false } := by
    rw [State.setZone_zone_same, none]
  have ends := runEnded z (Work.start (s.setZone z ((s.zone z).setSource p false)))
  change (∀ a, (claimOf (s.claimList a).claims
    (zoneSource ((s.setZone z ((s.zone z).setSource p false)).zone z) z)).isSome = true →
      ∃ e, ((s.setZone z ((s.zone z).setSource p false)).zone z).map[a] = some e ∧ e.status ≠ .shed) →
    RunEnded z (s.setZone z ((s.zone z).setSource p false)) (runEvent s (endFire p z)) at ends
  have source : zoneSource ((s.setZone z ((s.zone z).setSource p false)).zone z) z = .fire z := by
    rw [zone]
    exact zoneSource_of_other (by rw [fire]; nofun)
  rw [source, zone] at ends
  obtain ⟨⟨-, record, unclaimed⟩, activation, modes, standDown, overrides, flags, pending⟩ := ends entries
  rw [source] at unclaimed
  rw [zone] at record
  replace record := record.trans (endedRecord_fire fire _ _)
  refine ⟨_, request_answers takes ((takeZoneReset_reported (reportedZone_reported number defined reported)).trans
    ((resetZone_last sourceA sourceB).trans ?_)), activation, record, unclaimed, fun y other => ?_, standDown, overrides, flags,
    pending.congr rfl rfl rfl⟩
  · rw [zoneReply, zoneItems, record]
    rfl
  · rw [modes y other, State.setZone_zone_other s _ other]

/-! ## TEST-END (R50, R55) -/

theorem takeTestEnd_test {s : State} {b : Byte} {z : Fin 24} (configured : s.configuredZone b = some z)
    (test : (s.zone z).mode = .test) : takeTestEnd b s = (runEvent s (endTest z), Reply.bare .done) := by
  simp only [takeTestEnd, configured, test]

theorem takeTestEnd_fire {s : State} {b : Byte} {z : Fin 24} (configured : s.configuredZone b = some z)
    (fire : (s.zone z).mode = .fire) : takeTestEnd b s = refuse s .refusedState := by
  simp only [takeTestEnd, configured, fire]

theorem takeTestEnd_none {s : State} {b : Byte} {z : Fin 24} (configured : s.configuredZone b = some z)
    (none : (s.zone z).mode = .none) : takeTestEnd b s = refuse s .noChange := by
  simp only [takeTestEnd, configured, none]

theorem endedRecord_test {r : ZoneRecord} {log : TestLog} (test : r.mode = .test) (logged : r.log = some log) (s : State)
    (why : EndReason) :
    endedRecord s r why = { zoneAtRest with lastTest := some (testRecord s r log why), lastFire := r.lastFire } := by
  simp [endedRecord, test, logged]

/-- Settles O28, by the mode of the zone. -/
theorem testEndEndsTheTest : Obligations.TestEndEndsTheTest := by
  intro b z s takes configured
  refine ⟨fun fire => request_answers takes (takeTestEnd_fire configured fire),
    fun none => request_answers takes (takeTestEnd_none configured none), fun log test logged entries => ?_⟩
  have source : zoneSource (s.zone z) z = .test z := zoneSource_of_mode test
  have ends := runEnded z (Work.start s)
  change (∀ a, (claimOf (s.claimList a).claims (zoneSource (s.zone z) z)).isSome = true → _) →
    RunEnded z s (runEvent s (endTest z)) at ends
  rw [source] at ends
  obtain ⟨⟨-, record, unclaimed⟩, activation, modes, -, -, flags, pending⟩ := ends entries
  rw [source] at unclaimed
  rw [endedRecord_test test logged] at record
  exact ⟨_, _, request_answers takes (takeTestEnd_test configured test), record, rfl, rfl, rfl, rfl,
    entriesAtEnd_endEntries s _ log, activation, unclaimed, modes, flags, pending⟩

end Sys2Proof.Machine

end
/-! # The timers of a stage (R55, R64, R65, R69, R71, R73) -/

section

namespace Sys2Proof.Machine

/-! ## An expiry in its phase -/

section

variable {z : Fin 24} {cs : CurrentStage} {s : State} {phase : StagePhase} {timer : CurrentStage → Timer}
  {act : CurrentStage → Work → Work}

theorem stageExpiry_runs (stage : (s.zone z).stage = some cs) (inPhase : cs.phase = phase) {e : Nat}
    (running : timer cs = .running e) : stageExpiry z phase timer act s = runEvent (s.reach e) (act cs) := by
  simp [stageExpiry, stage, inPhase, running, Timer.deadline]

theorem stageExpiry_other (stage : (s.zone z).stage = some cs) (other : cs.phase ≠ phase) :
    stageExpiry z phase timer act s = s := by
  simp [stageExpiry, stage, other]

end

/-! ## The end of a stage (R70, R71, R73) -/

theorem isLast_iff (s : State) (z : Fin 24) (n : Nat) : s.isLast z n = true ↔ (s.sequenceOf z).length ≤ n + 1 :=
  decide_eq_true_iff

theorem setZone_setZone (s : State) (z : Fin 24) (r x : ZoneRecord) : (s.setZone z r).setZone z x = s.setZone z x := by
  simp [State.setZone]

/-- A stage finished with its outcomes as they stand: the first case of R73 that holds. -/
theorem finishStage_ended (s : State) (z : Fin 24) (cs : CurrentStage) :
    StageEnded s (finishStage s z cs) z cs cs.outcomes (s.zone z).failed := by
  unfold finishStage StageEnded
  dsimp only
  by_cases stops : .failed ∈ cs.outcomes ∧ (s.stageOf cs).policy = .stop
  · rw [if_pos stops]
    exact ⟨_, fun _ => rfl, fun goes => absurd stops goes, rfl, fun _ => ⟨rfl, rfl⟩, fun goes => absurd stops goes,
      fun goes => absurd stops goes⟩
  · rw [if_neg stops]
    by_cases last : (s.sequenceOf z).length ≤ cs.position + 1
    · rw [if_pos ((isLast_iff ..).2 last)]
      exact ⟨_, fun _ => rfl, fun _ goes => absurd last goes, rfl, fun yes => absurd yes stops, fun _ _ => ⟨rfl, rfl⟩,
        fun _ goes => absurd last goes⟩
    · have more : cs.position + 1 < (s.sequenceOf z).length := Nat.lt_of_not_le last
      rw [if_neg (by rwa [isLast_iff])]
      refine ⟨_, fun ends => absurd ends (not_or.2 ⟨stops, last⟩), fun _ _ => rfl, rfl, fun yes => absurd yes stops,
        fun _ yes => absurd yes last, fun _ _ => ⟨rfl, _, rfl, rfl, rfl, rfl, rfl, ?_⟩⟩
      simp [dueAt, List.getElem?_eq_getElem more]

/-- The stage ends alike where the failed count alone has been written before. -/
theorem StageEnded.of_failed {s t : State} {z : Fin 24} {cs : CurrentStage} {outcomes : List CommandOutcome}
    {failed : Option Nat} (h : StageEnded (s.setZone z { s.zone z with failed := failed }) t z cs outcomes failed) :
    StageEnded s t z cs outcomes failed := by
  unfold StageEnded at h ⊢
  simp only [setZone_setZone, State.setZone_zone_same] at h
  exact h

theorem expireWindow_ended (s : State) (z : Fin 24) (cs : CurrentStage) :
    StageEnded s (expireWindow s z cs) z cs (cs.outcomes.map fun o => if o = .pending then .failed else o)
      ((s.zone z).failed.map fun n => n + cs.outcomes.count .pending) := by
  have ended := finishStage_ended
    (s.setZone z { s.zone z with failed := (s.zone z).failed.map fun n => n + cs.outcomes.count .pending }) z
    { cs with outcomes := cs.outcomes.map fun o => if o = .pending then .failed else o }
  rw [State.setZone_zone_same] at ended
  exact StageEnded.of_failed ended

/-- Settles O58: the stage written PROVING, and the window's end of the stage. -/
theorem stageTimersMoveTheStage : Obligations.StageTimersMoveTheStage := by
  intro z cs e s power stage u
  have exec_eq : ∀ f : State → State, event f s = .next (f s) := event_running power
  refine ⟨fun settling running => ?_, fun proving running => ⟨expireWindow u z cs, ?_, expireWindow_ended u z cs⟩,
    fun other => ?_, fun other => ?_⟩
  · exact (exec_eq _).trans (congrArg Host.Outcome.next (stageExpiry_runs stage settling running))
  · exact (exec_eq _).trans (congrArg Host.Outcome.next (stageExpiry_runs stage proving running))
  · exact (exec_eq _).trans (congrArg Host.Outcome.next (stageExpiry_other stage other))
  · exact (exec_eq _).trans (congrArg Host.Outcome.next (stageExpiry_other stage other))

/-! ## The commands of a stage placed (R51, R65) -/

/-- Commands placed for a zone: only their actuators' lists, drives and entries differ, and each command of distinct actuators
stands in the zone's map. -/
structure CommandsTaken (z : Fin 24) (l : List StageCommand) (s t : State) : Prop where
  frame : ∃ ls ds zs ps, t = { s with lists := ls, drives := ds, zones := zs, ports := ps }
  ports : SamePorts s t
  maps : MapsAlone s t
  elsewhere : ∀ a, (∀ c ∈ l, c.actuator ≠ a) →
    t.claimList a = s.claimList a ∧ t.drive a = s.drive a ∧ ∀ y, (t.zone y).map[a] = (s.zone y).map[a]
  entries : (l.map (·.actuator)).Nodup → ∀ c ∈ l, ∃ e, (t.zone z).map[c.actuator] = some e ∧ e.cmd = c.cmd

/-- A command's entry written, and then only what hangs on its actuator's list. -/
theorem commandTaken {z : Fin 24} {c : StageCommand} {s t : State} {x : MapEntry} (cmd : x.cmd = c.cmd)
    (only : OnlyList c.actuator (s.setZone z { s.zone z with map := (s.zone z).map.set c.actuator (some x) }) t) :
    CommandsTaken z [c] s t := by
  have ⟨⟨_, _, _, _, frame⟩, ports, _, maps⟩ := only
  refine ⟨⟨_, _, _, _, frame⟩, ports, (mapsAlone_setMap s z _).trans only.mapsBut.alone, fun a other => ?_, fun _ d mem => ?_⟩
  · have differs : a ≠ c.actuator := (other c (List.mem_singleton_self c)).symm
    refine ⟨only.claimList_other differs, only.drive_other differs, fun y => ?_⟩
    obtain ⟨m, zone, others, -⟩ := maps y
    rw [zone]
    refine (others a differs).trans ?_
    by_cases same : y = z
    · subst same
      have apart : (c.actuator : Nat) ≠ a := fun e => differs (Fin.ext e.symm)
      rw [State.setZone_zone_same]
      simp [apart]
    · rw [State.setZone_zone_other s _ same]
  · obtain rfl := List.mem_singleton.1 mem
    obtain ⟨m, zone, -, entry⟩ := maps z
    rw [State.setZone_zone_same] at zone entry
    rw [zone]
    simp only [Fin.getElem_fin, Vector.getElem_set_self, Option.map_some, Option.map_eq_some_iff] at entry
    obtain ⟨e, found, same⟩ := entry
    exact ⟨e, found, same.trans cmd⟩

theorem commandsTaken_placeCommand (z : Fin 24) (w : Work) (c : StageCommand) :
    CommandsTaken z [c] w.st (placeCommand z w c).st := by
  unfold placeCommand
  dsimp only [Work.map_st]
  exact commandTaken rfl (placeOp_only c.actuator (zoneSource (w.st.zone z) z) c.cmd (w.map _)).1.refresh

theorem CommandsTaken.cons {z : Fin 24} {c : StageCommand} {l : List StageCommand} {s t u : State}
    (first : CommandsTaken z [c] s t) (rest : CommandsTaken z l t u) : CommandsTaken z (c :: l) s u where
  frame := by
    obtain ⟨_, _, _, _, one⟩ := first.frame
    obtain ⟨_, _, _, _, two⟩ := rest.frame
    exact ⟨_, _, _, _, two.trans (by rw [one])⟩
  ports line := (rest.ports line).trans (first.ports line)
  maps := first.maps.trans rest.maps
  elsewhere a other := by
    obtain ⟨list, drive, map⟩ := first.elsewhere a fun d mem => other d (List.mem_cons.2 (.inl (List.mem_singleton.1 mem)))
    obtain ⟨list', drive', map'⟩ := rest.elsewhere a fun d mem => other d (List.mem_cons_of_mem _ mem)
    exact ⟨list'.trans list, drive'.trans drive, fun y => (map' y).trans (map y)⟩
  entries once d mem := by
    obtain ⟨new, once⟩ := List.nodup_cons.1 once
    rcases List.mem_cons.1 mem with rfl | later
    · obtain ⟨e, entry, cmd⟩ := first.entries (List.nodup_singleton _) d (List.mem_singleton_self d)
      have kept := (rest.elsewhere d.actuator fun x mem same => new (List.mem_map.2 ⟨x, mem, same⟩)).2.2 z
      exact ⟨e, kept.trans entry, cmd⟩
    · exact rest.entries once d later

theorem commandsTaken_placeCommands (z : Fin 24) (l : List StageCommand) (w : Work) :
    CommandsTaken z l w.st (l.foldl (placeCommand z) w).st := by
  induction l generalizing w with
  | nil =>
    exact ⟨⟨_, _, _, _, rfl⟩, fun _ => rfl, MapsAlone.refl _, fun _ _ => ⟨rfl, rfl, fun _ => rfl⟩,
      fun _ c mem => absurd mem List.not_mem_nil⟩
  | cons c l ih => exact (commandsTaken_placeCommand z w c).cons (ih _)

/-! ## A stage issued (R65) -/

/-- The stage as it stands once issued. -/
def issuedStage (now : Nat) (sd : StageDef) (cs : CurrentStage) (mark : Bool) : CurrentStage :=
  { cs with
    phase := if sd.settleTime = 0 then .proving else .settling
    outcomes := List.replicate sd.commands.length .pending
    gateExpired := mark
    settle := if sd.settleTime = 0 then .stopped else startTimer now (tenthsToMs sd.settleTime)
    window := startTimer now (tenthsToMs sd.proofWindow)
    gateWait := .stopped }

theorem issuedStage_issued (now : Nat) (sd : StageDef) (cs : CurrentStage) (mark : Bool) :
    IssuedStage now sd cs mark (issuedStage now sd cs mark) :=
  ⟨rfl, rfl, rfl, rfl, rfl, rfl, fun none => ⟨if_pos none, if_pos none⟩, fun some => ⟨if_neg some, if_neg some⟩⟩

/-- A stage issued is its commands placed and then the stage written. -/
theorem issueStage_placed (z : Fin 24) (cs : CurrentStage) (mark : Bool) (w : Work) :
    ∃ t, CommandsTaken z (w.st.stageOf cs).commands w.st t ∧
      (issueStage z cs mark w).st =
        t.setZone z { t.zone z with stage := some (issuedStage w.st.now (w.st.stageOf cs) cs mark) } := by
  have taken := commandsTaken_placeCommands z (w.st.stageOf cs).commands w
  refine ⟨_, taken, ?_⟩
  obtain ⟨_, _, _, _, frame⟩ := taken.frame
  have now : ((w.st.stageOf cs).commands.foldl (placeCommand z) w).st.now = w.st.now := by rw [frame]
  unfold issueStage
  rw [Work.map_st, now]
  rfl

theorem issueStage_issued (z : Fin 24) (cs : CurrentStage) (mark : Bool) (w : Work) :
    StageIssued w.st (issueStage z cs mark w).st z cs mark := by
  obtain ⟨t, taken, written⟩ := issueStage_placed z cs mark w
  obtain ⟨_, _, _, _, frame⟩ := taken.frame
  obtain ⟨m, own⟩ := taken.maps z
  have zone : (issueStage z cs mark w).st.zone z =
      { t.zone z with stage := some (issuedStage w.st.now (w.st.stageOf cs) cs mark) } := by
    rw [written, State.setZone_zone_same]
  refine ⟨⟨_, by rw [zone], issuedStage_issued ..⟩, fun once c mem => ?_, fun a other => ?_, ?_, ?_, ?_, ?_,
    fun y other => ?_⟩
  · rw [zone]
    exact taken.entries once c mem
  · obtain ⟨list, drive, map⟩ := taken.elsewhere a other
    rw [zone, written]
    exact ⟨list, drive, map z⟩
  · rw [zone, own]
  · rw [zone, own]
  · exact ⟨_, _, _, _, by rw [written, frame]; rfl⟩
  · rw [written]
    exact taken.ports
  · obtain ⟨m, zone⟩ := taken.maps y
    rw [written, State.setZone_zone_other _ _ other, zone]
    exact ⟨rfl, rfl, rfl⟩

/-- Settles O59: the expiry issues the stage, by `issueStage_issued`. -/
theorem gateWaitIssuesTheStage : Obligations.GateWaitIssuesTheStage := by
  intro z cs e s power stage
  have exec_eq : ∀ f : State → State, event f s = .next (f s) := event_running power
  refine ⟨fun gated running => ⟨issueStage z cs true (Work.start (s.reach e)), ?_, issueStage_issued z cs true _⟩,
    fun other => ?_⟩
  · exact (exec_eq _).trans (congrArg Host.Outcome.next (stageExpiry_runs stage gated running))
  · exact (exec_eq _).trans (congrArg Host.Outcome.next (stageExpiry_other stage other))

end Sys2Proof.Machine

end
/-! # The Sequence Engine: what it leaves alone, and that it comes to rest (R54, R62, R66, R70, R73, R75, R77) -/

section

namespace Sys2Proof.Machine

/-- Lists, drives, zone records and ports apart, what `Keeps` keeps is the whole state. -/
theorem Keeps.frame {s t : State} (h : Keeps s t) :
    t = { s with lists := t.lists, drives := t.drives, zones := t.zones, ports := t.ports } := by
  cases s
  cases t
  cases h
  simp_all

/-! ## Judging once more (R54, R66) -/

/-- Zone records and ports are no part of what an outcome is judged by. -/
def Alike (s t : State) : Prop := ∃ zs ps, t = { s with zones := zs, ports := ps }

theorem Alike.refl (s : State) : Alike s s := ⟨_, _, rfl⟩

theorem Alike.trans {s t u : State} (x : Alike s t) (y : Alike t u) : Alike s u := by
  obtain ⟨_, _, rfl⟩ := x
  obtain ⟨_, _, rfl⟩ := y
  exact ⟨_, _, rfl⟩

theorem Alike.judgeOutcome {s t : State} (h : Alike s t) {r x : ZoneRecord} (map : x.map = r.map) (c : StageCommand)
    (old : CommandOutcome) : judgeOutcome t x c old = judgeOutcome s r c old := by
  obtain ⟨_, _, rfl⟩ := h
  simp only [Machine.judgeOutcome, map]
  rfl

theorem Alike.subStatusOf {s t : State} (h : Alike s t) {r x : ZoneRecord} (phase : x.phase = r.phase) (map : x.map = r.map) :
    subStatusOf t x = subStatusOf s r := by
  obtain ⟨_, _, rfl⟩ := h
  simp only [Machine.subStatusOf, phase, map]
  rfl

/-- But for FAILED, the outcome that a command had does not tell the one that it gets. -/
theorem judgeOutcome_going {s : State} {r : ZoneRecord} {c : StageCommand} {x y : CommandOutcome} (hx : x ≠ .failed)
    (hy : y ≠ .failed) : judgeOutcome s r c x = judgeOutcome s r c y := by
  rw [judgeOutcome, judgeOutcome, if_neg hx, if_neg hy]

/-- A judged outcome judged again is the same. -/
theorem judgeOutcome_again (s : State) (r : ZoneRecord) (c : StageCommand) (old : CommandOutcome) :
    judgeOutcome s r c (judgeOutcome s r c old) = judgeOutcome s r c old := by
  by_cases failed : judgeOutcome s r c old = .failed
  · rw [failed, judgeOutcome_failed]
  · refine judgeOutcome_going failed fun was => failed ?_
    rw [was, judgeOutcome_failed]

/-- A zone record whose sub-status and live outcomes are those that R54 and R66 give in a state. -/
structure Judged (s : State) (r : ZoneRecord) : Prop where
  sub : r.subStatus = subStatusOf s r
  outcomes : ∀ cs, r.stage = some cs → cs.phase = .settling ∨ cs.phase = .proving →
    ∀ (i : Nat) c o, (s.stageOf cs).commands[i]? = some c → cs.outcomes[i]? = some o → o = judgeOutcome s r c o

theorem Judged.congr {s t : State} {r : ZoneRecord} (h : Judged s r) (alike : Alike s t) : Judged t r where
  sub := h.sub.trans (alike.subStatusOf rfl rfl).symm
  outcomes cs stage live i c o command outcome := by
    rw [alike.judgeOutcome rfl c o]
    refine h.outcomes cs stage live i c o ?_ outcome
    obtain ⟨_, _, rfl⟩ := alike
    exact command

/-- A zone's record with its live outcomes judged. -/
def judgedStage (s : State) (r : ZoneRecord) : ZoneRecord :=
  match r.stage with
  | none => r
  | some cs =>
    if cs.phase.live then
      let outcomes := List.zipWith (judgeOutcome s r) (s.stageOf cs).commands cs.outcomes
      { r with
        stage := some { cs with outcomes := outcomes }
        failed := r.failed.map (fun n => n + (outcomes.count .failed - cs.outcomes.count .failed)) }
    else r

theorem setZone_zone_self (s : State) (z : Fin 24) : s.setZone z (s.zone z) = s := by simp [State.setZone, State.zone]

theorem judgeStage_eq (s : State) (z : Fin 24) : judgeStage s z = s.setZone z (judgedStage s (s.zone z)) := by
  unfold judgeStage judgedStage
  dsimp only
  cases (s.zone z).stage with
  | none => exact (setZone_zone_self s z).symm
  | some cs =>
    dsimp only
    split
    · rfl
    · exact (setZone_zone_self s z).symm

theorem judgedStage_frame (s : State) (r : ZoneRecord) :
    (judgedStage s r).map = r.map ∧ (judgedStage s r).phase = r.phase := by
  unfold judgedStage
  split
  · exact ⟨rfl, rfl⟩
  · split <;> exact ⟨rfl, rfl⟩

theorem live_iff (p : StagePhase) : p.live = true ↔ p = .settling ∨ p = .proving := by cases p <;> simp [StagePhase.live]

/-- The stage of a judged record: position and phase as before, and live outcomes that R66 gives. -/
theorem judgedStage_stage {s : State} {r : ZoneRecord} {x : CurrentStage} (stage : (judgedStage s r).stage = some x) :
    ∃ cs, r.stage = some cs ∧ x.position = cs.position ∧ x.phase = cs.phase ∧
      (x.phase = .settling ∨ x.phase = .proving →
        x.outcomes = List.zipWith (judgeOutcome s r) (s.stageOf x).commands cs.outcomes) := by
  unfold judgedStage at stage
  split at stage
  · rename_i none
    rw [none] at stage
    cases stage
  · rename_i cs own
    split at stage
    · obtain rfl := Option.some.inj stage
      exact ⟨cs, own, rfl, rfl, fun _ => rfl⟩
    · rename_i idle
      rw [own] at stage
      obtain rfl := Option.some.inj stage
      exact ⟨cs, own, rfl, rfl, fun live => absurd ((live_iff _).2 live) idle⟩

/-- The sub-status of a zone derived anew. -/
theorem judgeSub_zone (s : State) (z : Fin 24) :
    Alike s (judgeSub s z) ∧ (judgeSub s z).zone z = { s.zone z with subStatus := subStatusOf s (s.zone z) } ∧
      ∀ y, y ≠ z → (judgeSub s z).zone y = s.zone y := by
  unfold judgeSub
  dsimp only
  split
  · rename_i same
    exact ⟨Alike.refl s, by rw [same], fun _ _ => rfl⟩
  · refine ⟨⟨_, _, rfl⟩, ?_, fun y other => ?_⟩
    · rw [State.raiseFlags_zone, State.setZone_zone_same]
    · rw [State.raiseFlags_zone, State.setZone_zone_other s _ other]

/-- The step of `judgeZones` for one zone. -/
def judgeZone (s : State) (z : Fin 24) : State := judgeSub (judgeStage s z) z

theorem judgeZones_eq (s : State) : judgeZones s = s.activation.foldl judgeZone s := rfl

/-- One zone judged: its record stands judged, its map and phase as before, and no other record differs. -/
theorem judgeZone_zone (s : State) (z : Fin 24) :
    Alike s (judgeZone s z) ∧
      (judgeZone s z).zone z =
        { judgedStage s (s.zone z) with subStatus := subStatusOf s (s.zone z) } ∧
      ∀ y, y ≠ z → (judgeZone s z).zone y = s.zone y := by
  obtain ⟨alike, own, others⟩ := judgeSub_zone (judgeStage s z) z
  obtain ⟨map, phase⟩ := judgedStage_frame s (s.zone z)
  have first : Alike s (judgeStage s z) := by
    rw [judgeStage_eq]
    exact ⟨_, _, rfl⟩
  have zone : (judgeStage s z).zone z = judgedStage s (s.zone z) := by rw [judgeStage_eq, State.setZone_zone_same]
  refine ⟨first.trans alike, ?_, fun y other => (others y other).trans ?_⟩
  · rw [judgeZone, own, zone, first.subStatusOf phase map]
  · rw [judgeStage_eq, State.setZone_zone_other s _ other]

theorem judgeZone_judged (s : State) (z : Fin 24) : Judged s ((judgeZone s z).zone z) := by
  obtain ⟨-, own, -⟩ := judgeZone_zone s z
  obtain ⟨map, phase⟩ := judgedStage_frame s (s.zone z)
  rw [own]
  refine ⟨((Alike.refl s).subStatusOf phase map).symm, fun x stage live i c o command outcome => ?_⟩
  obtain ⟨cs, -, -, -, judged⟩ := judgedStage_stage stage
  rw [judged live, List.getElem?_zipWith_eq_some] at outcome
  obtain ⟨d, old, same, -, rfl⟩ := outcome
  obtain rfl := Option.some.inj (command.symm.trans same)
  exact (judgeOutcome_again s _ c old).symm.trans ((Alike.refl s).judgeOutcome map c _).symm

/-- After a pass of judging, each zone of it stands judged. -/
theorem foldl_judgeZone (l : List (Fin 24)) (s : State) :
    Alike s (l.foldl judgeZone s) ∧
      ∀ z, z ∈ l ∨ Judged s (s.zone z) → Judged (l.foldl judgeZone s) ((l.foldl judgeZone s).zone z) := by
  induction l generalizing s with
  | nil => exact ⟨Alike.refl s, fun z judged => judged.resolve_left List.not_mem_nil⟩
  | cons x l ih =>
    obtain ⟨alike, all⟩ := ih (judgeZone s x)
    obtain ⟨first, -, others⟩ := judgeZone_zone s x
    refine ⟨first.trans alike, fun z judged => all z ?_⟩
    by_cases own : z = x
    · subst own
      exact .inr ((judgeZone_judged s z).congr first)
    · refine judged.imp (fun mem => (List.mem_cons.1 mem).resolve_left own) fun judged => ?_
      rw [others z own]
      exact judged.congr first

theorem judgeZones_judged (s : State) {z : Fin 24} (active : z ∈ s.activation) :
    Judged (judgeZones s) ((judgeZones s).zone z) :=
  (foldl_judgeZone s.activation s).2 z (.inl active)

/-! ## How many rounds a zone can take -/

/-- The rounds that a zone with at most 16 stages can still take: two for each later position, and those of its stage. -/
def stageRounds (r : ZoneRecord) : Nat :=
  match r.stage with
  | none => 0
  | some cs => 2 * (15 - cs.position) + if r.phase = .running then (if cs.phase = .due then 2 else 1) else 0

/-- The rounds that all zones can still take. -/
def roundsLeft (s : State) : Nat := ∑ z : Fin 24, stageRounds (s.zone z)

theorem stageRounds_le (r : ZoneRecord) : stageRounds r ≤ 32 := by
  unfold stageRounds
  split
  · omega
  · split
    · split <;> omega
    · omega

theorem roundsLeft_lt_engineRounds (s : State) : roundsLeft s < engineRounds := by
  have most : roundsLeft s ≤ Finset.card (Finset.univ : Finset (Fin 24)) • 32 :=
    Finset.sum_le_card_nsmul _ _ _ fun z _ => stageRounds_le _
  refine lt_of_le_of_lt most ?_
  simp [engineRounds]

/-- Each zone has at most as many rounds left as before. -/
def NoLonger (s t : State) : Prop := ∀ z, stageRounds (t.zone z) ≤ stageRounds (s.zone z)

theorem NoLonger.refl (s : State) : NoLonger s s := fun _ => Nat.le_refl _

theorem NoLonger.trans {s t u : State} (x : NoLonger s t) (y : NoLonger t u) : NoLonger s u := fun z => (y z).trans (x z)

theorem NoLonger.roundsLeft {s t : State} (h : NoLonger s t) : roundsLeft t ≤ roundsLeft s :=
  Finset.sum_le_sum fun z _ => h z

/-- A zone has fewer rounds left, and the others as many as before. -/
structure Sooner (z : Fin 24) (s t : State) : Prop where
  own : stageRounds (t.zone z) < stageRounds (s.zone z)
  others : ∀ y, y ≠ z → stageRounds (t.zone y) = stageRounds (s.zone y)

theorem Sooner.roundsLeft {z : Fin 24} {s t : State} (h : Sooner z s t) : roundsLeft t < roundsLeft s := by
  refine Finset.sum_lt_sum (fun y _ => ?_) ⟨z, Finset.mem_univ z, h.own⟩
  by_cases same : y = z
  · subst same
    exact h.own.le
  · exact (h.others y same).le

theorem stageRounds_congr {r x : ZoneRecord} (stage : x.stage = r.stage) (phase : x.phase = r.phase) :
    stageRounds x = stageRounds r := by
  rw [stageRounds, stageRounds, stage, phase]

/-- A RUNNING zone has the rounds of its later positions left and at least one more. -/
theorem stageRounds_running {r : ZoneRecord} {cs : CurrentStage} (running : r.phase = .running) (stage : r.stage = some cs) :
    stageRounds r = 2 * (15 - cs.position) + if cs.phase = .due then 2 else 1 := by
  simp [stageRounds, running, stage]

theorem stageRounds_rest {r : ZoneRecord} {cs : CurrentStage} (rest : r.phase ≠ .running) (stage : r.stage = some cs) :
    stageRounds r = 2 * (15 - cs.position) := by
  simp [stageRounds, rest, stage]

/-- Every sequence has at most 16 stages (R40). -/
def SequencesFit (s : State) : Prop := ∀ z, (s.sequenceOf z).length ≤ 16

theorem SequencesFit.keeps {s t : State} (h : SequencesFit s) (k : Keeps s t) : SequencesFit t := fun z => by
  have same : t.sequenceOf z = s.sequenceOf z := by simp only [State.sequenceOf, State.zoneDef, k.sequences]
  rw [same]
  exact h z

/-! ## Judging and resuming take no round -/

theorem stageRounds_judgedStage (s : State) (r : ZoneRecord) : stageRounds (judgedStage s r) = stageRounds r := by
  obtain ⟨-, phase⟩ := judgedStage_frame s r
  cases stage : (judgedStage s r).stage with
  | none =>
    have none : r.stage = none := by
      by_contra some
      obtain ⟨cs, own⟩ := Option.ne_none_iff_exists'.1 some
      rw [judgedStage, own] at stage
      dsimp only at stage
      split at stage
      · cases stage
      · rw [own] at stage
        cases stage
    rw [stageRounds, stageRounds, stage, none]
  | some x =>
    obtain ⟨cs, own, position, same, -⟩ := judgedStage_stage stage
    simp only [stageRounds, stage, own, phase, position, same]

theorem noLonger_judgeZones (s : State) : NoLonger s (judgeZones s) := by
  rw [judgeZones_eq]
  refine foldl_keeps (P := NoLonger s) judgeZone (fun t z longer => longer.trans fun y => ?_) _ (NoLonger.refl s)
  obtain ⟨-, own, others⟩ := judgeZone_zone t z
  by_cases same : y = z
  · subst same
    rw [own]
    exact (stageRounds_judgedStage t _).le
  · rw [others y same]

/-- A position that is not the last of a sequence of at most 16 stages is below 15. -/
theorem lt_of_not_isLast {s : State} (fit : SequencesFit s) {z : Fin 24} {n : Nat} (more : ¬ (s.sequenceOf z).length ≤ n + 1) :
    n < 15 := by
  have := fit z
  omega

/-- A zone written with no more rounds left. -/
theorem noLonger_setZone {s : State} {z : Fin 24} {r : ZoneRecord} (fewer : stageRounds r ≤ stageRounds (s.zone z)) :
    NoLonger s (s.setZone z r) := fun y => by
  by_cases same : y = z
  · subst same
    rwa [State.setZone_zone_same]
  · rw [State.setZone_zone_other s r same]

theorem NoLonger.raiseFlags {s t : State} (h : NoLonger s t) : NoLonger s t.raiseFlags := fun z => by
  rw [State.raiseFlags_zone]
  exact h z

/-- A resumption takes the zone to the next position, or to its end. -/
theorem noLonger_resumeZone {s : State} (fit : SequencesFit s) (touched : List (Fin 64)) (z : Fin 24) :
    NoLonger s (resumeZone touched s z) := by
  unfold resumeZone
  dsimp only
  split
  · rename_i cs phase stage
    have before : stageRounds (s.zone z) = 2 * (15 - cs.position) := stageRounds_rest (by rw [phase]; nofun) stage
    split
    · split
      · refine (noLonger_setZone ?_).raiseFlags
        rw [before]
        exact le_of_eq (stageRounds_rest (r := { s.zone z with phase := .complete }) nofun stage)
      · rename_i more
        have low := lt_of_not_isLast fit (by rwa [isLast_iff] at more)
        refine (noLonger_setZone ?_).raiseFlags
        rw [before, stageRounds_running rfl rfl]
        simp only [dueAt, if_pos]
        omega
    · exact NoLonger.refl s
  · exact NoLonger.refl s

theorem noLonger_resumeZones {w : Work} (fit : SequencesFit w.st) : NoLonger w.st (resumeZones w).st :=
  (foldl_keeps (P := fun t => NoLonger w.st t ∧ SequencesFit t) (resumeZone w.touched)
    (fun _ z h => ⟨h.1.trans (noLonger_resumeZone h.2 w.touched z), h.2.keeps (keeps_resumeZone w.touched _ z)⟩) _
    ⟨NoLonger.refl _, fit⟩).1

/-! ## Going on takes a round -/

/-- A stage ended leaves fewer rounds to its zone (R73). -/
theorem StageEnded.sooner {s t : State} {z : Fin 24} {cs : CurrentStage} {outcomes : List CommandOutcome} {failed : Option Nat}
    (h : StageEnded s t z cs outcomes failed) (fit : SequencesFit s) (running : (s.zone z).phase = .running)
    (stage : (s.zone z).stage = some cs) : Sooner z s t := by
  have before : 2 * (15 - cs.position) < stageRounds (s.zone z) := by
    rw [stageRounds_running running stage]
    split <;> omega
  obtain ⟨r, flagged, plain, -, stopped, completed, next⟩ := h
  have written : t = (s.setZone z r).raiseFlags ∨ t = s.setZone z r := by
    by_cases ends : (CommandOutcome.failed ∈ outcomes ∧ (s.stageOf cs).policy = .stop) ∨
        (s.sequenceOf z).length ≤ cs.position + 1
    · exact .inl (flagged ends)
    · exact .inr (plain (fun stops => ends (.inl stops)) fun last => ends (.inr last))
  have zone : t.zone z = r ∧ ∀ y, y ≠ z → t.zone y = s.zone y := by
    rcases written with rfl | rfl
    · exact ⟨State.setZone_zone_same s z r, fun y other => State.setZone_zone_other s r other⟩
    · exact ⟨State.setZone_zone_same s z r, fun y other => State.setZone_zone_other s r other⟩
  refine ⟨?_, fun y other => by rw [zone.2 y other]⟩
  rw [zone.1]
  refine lt_of_le_of_lt ?_ before
  by_cases stops : CommandOutcome.failed ∈ outcomes ∧ (s.stageOf cs).policy = .stop
  · obtain ⟨phase, ended⟩ := stopped stops
    rw [stageRounds_rest (by rw [phase]; nofun) ended]
  · by_cases last : (s.sequenceOf z).length ≤ cs.position + 1
    · obtain ⟨phase, ended⟩ := completed stops last
      rw [stageRounds_rest (by rw [phase]; nofun) ended]
    · obtain ⟨phase, x, ended, position, due, -⟩ := next stops last
      have low := lt_of_not_isLast fit last
      rw [stageRounds_running (phase.trans running) ended, position, if_pos due]
      omega

/-- A DUE stage issued leaves fewer rounds to its zone (R65). -/
theorem StageIssued.sooner {s t : State} {z : Fin 24} {cs : CurrentStage} {mark : Bool} (h : StageIssued s t z cs mark)
    (running : (s.zone z).phase = .running) (stage : (s.zone z).stage = some cs) (due : cs.phase = .due) : Sooner z s t := by
  obtain ⟨⟨x, issued, position, -, -, -, -, -, proving, settling⟩, -, -, phase, -, -, -, others⟩ := h
  have taken : x.phase ≠ .due := by
    by_cases none : (s.stageOf cs).settleTime = 0
    · rw [(proving none).1]
      nofun
    · rw [(settling none).1]
      nofun
  refine ⟨?_, fun y other => ?_⟩
  · rw [stageRounds_running (phase.trans running) issued, stageRounds_running running stage, position, if_neg taken, if_pos due]
    omega
  · obtain ⟨sameStage, samePhase, -⟩ := others y other
    exact stageRounds_congr sameStage samePhase

/-- A DUE stage taken leaves fewer rounds to its zone (R62 to R64). -/
theorem takeStage_sooner {z : Fin 24} {cs : CurrentStage} {w : Work} (fit : SequencesFit w.st)
    (running : (w.st.zone z).phase = .running) (stage : (w.st.zone z).stage = some cs) (due : cs.phase = .due) :
    Sooner z w.st (takeStage z cs w).st := by
  have issued := (issueStage_issued z cs false w).sooner running stage due
  unfold takeStage
  split
  · exact issued
  · dsimp only
    split
    · have ended := finishStage_ended w.st z
        { cs with outcomes := List.replicate (w.st.stageOf cs).commands.length .skipped }
      exact StageEnded.sooner (cs := cs) ended fit running stage
    · exact issued
    · exact issued
    · refine ⟨?_, fun y other => ?_⟩
      · rw [Work.map_st, State.setZone_zone_same, stageRounds_running running stage, if_pos due]
        exact lt_of_eq_of_lt (stageRounds_running running rfl) (by simp)
      · rw [Work.map_st, State.setZone_zone_other _ _ other]

theorem ready_iff (s : State) (z : Fin 24) :
    ready s z = true ↔ (s.zone z).phase = .running ∧ (s.zone z).held = false ∧ (s.zone z).suspended = false ∧
      ∃ cs, (s.zone z).stage = some cs ∧ (cs.phase = .due ∨ (cs.phase = .proving ∧ .pending ∉ cs.outcomes)) := by
  unfold ready ZoneRecord.blocked
  cases stage : (s.zone z).stage <;> simp [stage, and_assoc]

/-- A zone that can go on has fewer rounds left once it has. -/
theorem advanceZone_sooner {z : Fin 24} {w : Work} (fit : SequencesFit w.st) (goes : ready w.st z = true) :
    Sooner z w.st (advanceZone z w).st := by
  obtain ⟨running, -, -, cs, stage, -⟩ := (ready_iff w.st z).1 goes
  unfold advanceZone
  rw [stage]
  dsimp only
  split
  · rename_i due
    exact takeStage_sooner fit running stage due
  · exact (finishStage_ended w.st z cs).sooner fit running stage

/-! ## The engine at rest -/

/-- With rounds enough the engine ends on a pass of judging after which no active zone can go on. -/
theorem engineLoop_rests (n : Nat) (w : Work) (fit : SequencesFit w.st) (enough : roundsLeft w.st < n) :
    ∃ v, (engineLoop n w).st = judgeZones v ∧ (judgeZones v).activation.find? (ready (judgeZones v)) = none := by
  induction n generalizing w with
  | zero => exact absurd enough (Nat.not_lt_zero _)
  | succ n ih =>
    have kept := (keeps_resumeZones w).trans (keeps_judgeZones (resumeZones w).st)
    have longer := ((noLonger_resumeZones fit).trans (noLonger_judgeZones (resumeZones w).st)).roundsLeft
    simp only [engineLoop]
    split
    · rename_i rest
      exact ⟨(resumeZones w).st, rfl, rest⟩
    · rename_i z found
      have sooner := (advanceZone_sooner (w := (resumeZones w).map judgeZones) (fit.keeps kept)
        (List.find?_some found)).roundsLeft
      refine ih _ ((fit.keeps kept).keeps (keeps_advanceZone z ((resumeZones w).map judgeZones))) ?_
      rw [Work.map_st] at sooner
      omega

/-- Settles O11: the frame is what `Keeps` says, and the rest is what `engineLoop_rests` and `judgeZones_judged` say of the last
pass. -/
theorem theEngineTouchesNothingElse : Obligations.TheEngineTouchesNothingElse := by
  intro w
  have kept := keeps_settled w
  refine ⟨⟨_, _, _, _, kept.frame⟩, kept.ports, fun z => ⟨_, rfl, kept.mode z, kept.sourceA z, kept.sourceB z, kept.suspended z,
    kept.lastTest z, kept.lastFire z⟩, kept.flags, engineLoop_idle, fun fit z active => ?_⟩
  obtain ⟨v, last, rest⟩ := engineLoop_rests engineRounds w fit (roundsLeft_lt_engineRounds w.st)
  have settled_eq : settled w = judgeZones v := last
  rw [settled_eq] at kept ⊢
  have listed : z ∈ v.activation := by rwa [← (keeps_judgeZones v).activation, kept.activation]
  obtain ⟨sub, outcomes⟩ := judgeZones_judged v listed
  refine ⟨sub, fun cs stage => ⟨fun running free going => ?_, outcomes cs stage⟩⟩
  have waits := List.find?_eq_none.1 rest z (by rwa [kept.activation])
  rw [ready_iff] at waits
  refine ⟨fun due => waits ⟨running, free, going, cs, stage, .inl due⟩, fun proving => ?_⟩
  by_contra none
  exact waits ⟨running, free, going, cs, stage, .inr ⟨proving, none⟩⟩

end Sys2Proof.Machine

end

/-! # The Sequence Engine: a stage taken and finished, and a STOPPED zone resumed (R61 to R65, R70 to R75, R157) -/

section

namespace Sys2Proof.Machine

/-! ## Gates (R61) -/

theorem gateTrue_iff (g : Gate) (c : Channel) : gateTrue g c = true ↔ GateHolds g c := by
  unfold gateTrue GateHolds
  split
  · rename_i v status value
    rw [status, value]
    cases g.comparison <;> simp
  · rename_i unread
    exact ⟨nofun, fun ⟨status, v, value, _⟩ => absurd value (unread v status)⟩

theorem gateTrue_false {g : Gate} {c : Channel} (shut : ¬ GateHolds g c) : gateTrue g c = false :=
  Bool.not_eq_true _ ▸ mt (gateTrue_iff g c).1 shut

/-! ## A DUE stage is taken (R62 to R65) -/

section

variable {z : Fin 24} {cs : CurrentStage} {w : Work}

theorem takeStage_ungated (none : (w.st.stageOf cs).gate = none) : takeStage z cs w = issueStage z cs false w := by
  simp only [takeStage, none]

variable {g : Gate} (gate : (w.st.stageOf cs).gate = some g)
include gate

theorem takeStage_skips (mode : g.mode = .skipIf) (holds : GateHolds g (w.st.channel g.channel)) :
    takeStage z cs w = w.map fun s => skipStage s z cs := by
  simp only [takeStage, gate, mode, (gateTrue_iff ..).2 holds]

theorem takeStage_unskipped (mode : g.mode = .skipIf) (shut : ¬ GateHolds g (w.st.channel g.channel)) :
    takeStage z cs w = issueStage z cs false w := by
  simp only [takeStage, gate, mode, gateTrue_false shut]

theorem takeStage_opened (mode : g.mode = .waitUntil) (holds : GateHolds g (w.st.channel g.channel)) :
    takeStage z cs w = issueStage z cs false w := by
  simp only [takeStage, gate, mode, (gateTrue_iff ..).2 holds]

theorem takeStage_waits (mode : g.mode = .waitUntil) (shut : ¬ GateHolds g (w.st.channel g.channel)) :
    (takeStage z cs w).st = w.st.setZone z
      { w.st.zone z with
        stage := some { cs with phase := .gated, gateWait := .running (w.st.now + tenthsToMs g.wait) } } := by
  simp only [takeStage, gate, mode, gateTrue_false shut]
  rfl

end

theorem advanceZone_due {z : Fin 24} {cs : CurrentStage} {w : Work} (stage : (w.st.zone z).stage = some cs)
    (due : cs.phase = .due) : advanceZone z w = takeStage z cs w := by
  simp only [advanceZone, stage, if_pos due]

theorem advanceZone_proving {z : Fin 24} {cs : CurrentStage} {w : Work} (stage : (w.st.zone z).stage = some cs)
    (proving : cs.phase = .proving) : (advanceZone z w).st = finishStage w.st z cs := by
  have taken : cs.phase ≠ .due := by rw [proving]; nofun
  simp only [advanceZone, stage, if_neg taken, Work.map_st]

/-- A stage skipped has ended with every outcome SKIPPED (R63). -/
theorem skipStage_ended (s : State) (z : Fin 24) (cs : CurrentStage) :
    StageEnded s (skipStage s z cs) z cs (List.replicate (s.stageOf cs).commands.length .skipped) (s.zone z).failed :=
  finishStage_ended s z { cs with outcomes := List.replicate (s.stageOf cs).commands.length .skipped }

/-! ## A STOPPED zone resumes (R74, R75, R157) -/

theorem mem_failedCommands (s : State) (cs : CurrentStage) (c : StageCommand) :
    c ∈ failedCommands s cs ↔
      ∃ i : Nat, (s.stageOf cs).commands[i]? = some c ∧ cs.outcomes[i]? = some .failed := by
  simp only [failedCommands, List.mem_map, List.mem_filter, beq_iff_eq]
  constructor
  · rintro ⟨⟨d, o⟩, ⟨mem, failed⟩, rfl⟩
    obtain ⟨i, found⟩ := List.mem_iff_getElem?.1 mem
    rw [List.getElem?_zip_eq_some] at found
    exact ⟨i, found.1, by rw [← failed]; exact found.2⟩
  · rintro ⟨i, command, outcome⟩
    exact ⟨(c, .failed), ⟨List.mem_iff_getElem?.2 ⟨i, List.getElem?_zip_eq_some.2 ⟨command, outcome⟩⟩, rfl⟩, rfl⟩

/-- A drive has handed a change on one of a stage's failed actuators, and every failed command is proven (R75). -/
def Resumes (touched : List (Fin 64)) (s : State) (cs : CurrentStage) : Prop :=
  (∃ c, c ∈ failedCommands s cs ∧ c.actuator ∈ touched) ∧
    ∀ c, c ∈ failedCommands s cs → s.provenAt c.actuator c.cmd = true

theorem resumes_iff (touched : List (Fin 64)) (s : State) (cs : CurrentStage) :
    ((failedCommands s cs).any (fun c => touched.contains c.actuator) &&
        (failedCommands s cs).all (fun c => s.provenAt c.actuator c.cmd)) = true ↔ Resumes touched s cs := by
  simp [Resumes]

section

variable {touched : List (Fin 64)} {s : State} {z : Fin 24} {cs : CurrentStage} (stage : (s.zone z).stage = some cs)
include stage

theorem resumeZone_stays (stays : (s.zone z).phase ≠ .stopped ∨ ¬ Resumes touched s cs) : resumeZone touched s z = s := by
  unfold resumeZone
  dsimp only
  split
  · rename_i x stopped same
    obtain rfl := Option.some.inj (stage.symm.trans same)
    rw [if_neg (by rw [resumes_iff]; exact stays.resolve_left (not_not.2 stopped))]
  · rfl

variable (stopped : (s.zone z).phase = .stopped) (resumes : Resumes touched s cs)
include stopped resumes

theorem resumeZone_completes (last : (s.sequenceOf z).length ≤ cs.position + 1) :
    resumeZone touched s z = (s.setZone z { s.zone z with phase := .complete }).raiseFlags := by
  simp only [resumeZone, stopped, stage]
  rw [if_pos ((resumes_iff ..).2 resumes), if_pos ((isLast_iff ..).2 last)]

theorem resumeZone_goesOn (more : ¬ (s.sequenceOf z).length ≤ cs.position + 1) :
    resumeZone touched s z = (s.setZone z
      { s.zone z with
        phase := .running
        stage := some (dueAt s z (cs.position + 1))
        held := (s.zone z).held || (s.standDown && (s.zone z).mode == .fire) }).raiseFlags := by
  simp only [resumeZone, stopped, stage]
  rw [if_pos ((resumes_iff ..).2 resumes), if_neg (by rwa [isLast_iff])]

end

theorem dueAt_stage {s : State} {z : Fin 24} {n : Nat} (more : n < (s.sequenceOf z).length) :
    (s.sequenceOf z)[n]? = some (dueAt s z n).stage := by
  simp [dueAt, List.getElem?_eq_getElem more]

/-- Settles O60: the gate by `gateTrue_iff`, the stage by the cases of `takeStage` and `finishStage_ended`, the STOPPED zone by the
cases of `resumeZone`. -/
theorem stagesAreTakenAndFinished : Obligations.StagesAreTakenAndFinished := by
  refine ⟨gateTrue_iff, fun z cs w stage => ⟨fun due => ?_, fun proving => ?_⟩, fun touched s z cs stage => ?_⟩
  · have issued := issueStage_issued z cs false w
    rw [advanceZone_due stage due]
    refine ⟨fun none => by rwa [takeStage_ungated none], fun g gate => ⟨fun mode holds => ?_, fun mode shut => ?_,
      fun mode holds => ?_, fun mode shut => takeStage_waits gate mode shut⟩⟩
    · rw [takeStage_skips gate mode holds]
      exact skipStage_ended w.st z cs
    · rwa [takeStage_unskipped gate mode shut]
    · rwa [takeStage_opened gate mode holds]
  · rw [advanceZone_proving stage proving]
    exact finishStage_ended w.st z cs
  · simp only [← mem_failedCommands]
    refine ⟨resumeZone_stays stage, resumeZone_completes stage, fun stopped resumes more => ?_⟩
    exact ⟨_, resumeZone_goesOn stage stopped resumes more, rfl, rfl, rfl, rfl, dueAt_stage (Nat.lt_of_not_le more)⟩

end Sys2Proof.Machine

end

/-! # Zones brought on one after another (R64, R77 to R79, R148, R159)

The steps of an event that go from zone to zone, when stand-down is released, when the supply returns and when a channel opens gates: a
step brings its own zone on, and of every other zone it writes the statuses of map entries alone. -/

section

namespace Sys2Proof.Machine

/-! ## A record whose map's statuses alone differ -/

/-- A record with another map of the same commands. -/
def Remapped (r x : ZoneRecord) : Prop :=
  ∃ m : Vector (Option MapEntry) 64, x = { r with map := m } ∧ ∀ a : Fin 64, m[a].map (·.cmd) = r.map[a].map (·.cmd)

theorem Remapped.refl (r : ZoneRecord) : Remapped r r := ⟨r.map, rfl, fun _ => rfl⟩

theorem Remapped.trans {r x y : ZoneRecord} (h : Remapped r x) (k : Remapped x y) : Remapped r y := by
  obtain ⟨m, rfl, cmd⟩ := h
  obtain ⟨m', rfl, cmd'⟩ := k
  exact ⟨m', rfl, fun a => (cmd' a).trans (cmd a)⟩

/-- What a map's statuses are no part of. -/
structure SameRun (r x : ZoneRecord) : Prop where
  stage : x.stage = r.stage
  phase : x.phase = r.phase
  failed : x.failed = r.failed
  mode : x.mode = r.mode
  held : x.held = r.held
  suspended : x.suspended = r.suspended

theorem Remapped.run {r x : ZoneRecord} (h : Remapped r x) : SameRun r x := by
  obtain ⟨m, rfl, -⟩ := h
  exact ⟨rfl, rfl, rfl, rfl, rfl, rfl⟩

theorem CommandsPlaced.remapped {sd : StageDef} {r x : ZoneRecord} (h : CommandsPlaced sd r) (k : Remapped r x) :
    CommandsPlaced sd x := by
  intro once c mem
  obtain ⟨e, entry, cmd⟩ := h once c mem
  obtain ⟨m, rfl, same⟩ := k
  have kept := same c.actuator
  rw [entry, Option.map_some, Option.map_eq_some_iff] at kept
  obtain ⟨e', entry', cmd'⟩ := kept
  exact ⟨e', entry', cmd'.trans cmd⟩

theorem OnlyList.remapped {a : Fin 64} {s t : State} (h : OnlyList a s t) (z : Fin 24) : Remapped (s.zone z) (t.zone z) := by
  obtain ⟨m, zone, others, own⟩ := h.mapsBut z
  refine ⟨m, zone, fun b => ?_⟩
  by_cases same : b = a
  · rw [same, own]
  · rw [others b same]

/-! ## One zone's step -/

/-- Two states that differ at most in lists, drives, zone records and ports. -/
def Framed (s t : State) : Prop := ∃ ls ds zs ps, t = { s with lists := ls, drives := ds, zones := zs, ports := ps }

theorem Framed.refl (s : State) : Framed s s := ⟨_, _, _, _, rfl⟩

theorem Framed.trans {s t u : State} (h : Framed s t) (k : Framed t u) : Framed s u := by
  obtain ⟨_, _, _, _, rfl⟩ := h
  obtain ⟨_, _, _, _, rfl⟩ := k
  exact ⟨_, _, _, _, rfl⟩

theorem Framed.stageOf {s t : State} (h : Framed s t) (cs : CurrentStage) : t.stageOf cs = s.stageOf cs := by
  obtain ⟨_, _, _, _, rfl⟩ := h
  rfl

theorem Framed.channel {s t : State} (h : Framed s t) (c : Fin 16) : t.channel c = s.channel c := by
  obtain ⟨_, _, _, _, rfl⟩ := h
  rfl

theorem Framed.now {s t : State} (h : Framed s t) : t.now = s.now := by
  obtain ⟨_, _, _, _, rfl⟩ := h
  rfl

/-- A step of one zone: lists and drives of some actuators, the zone's own record, and of the other zones' maps the statuses. -/
structure ZoneActs (z : Fin 24) (acts : Fin 64 → Prop) (s t : State) : Prop where
  frame : Framed s t
  others : ∀ y, y ≠ z → Remapped (s.zone y) (t.zone y)
  elsewhere : ∀ a, ¬ acts a → t.claimList a = s.claimList a ∧ t.drive a = s.drive a

section

variable {z : Fin 24} {acts : Fin 64 → Prop} {s t u : State}

theorem ZoneActs.refl (z : Fin 24) (acts : Fin 64 → Prop) (s : State) : ZoneActs z acts s s :=
  ⟨.refl s, fun _ _ => .refl _, fun _ _ => ⟨rfl, rfl⟩⟩

theorem ZoneActs.trans (h : ZoneActs z acts s t) (k : ZoneActs z acts t u) : ZoneActs z acts s u where
  frame := h.frame.trans k.frame
  others y other := (h.others y other).trans (k.others y other)
  elsewhere a idle :=
    ⟨(k.elsewhere a idle).1.trans (h.elsewhere a idle).1, (k.elsewhere a idle).2.trans (h.elsewhere a idle).2⟩

theorem ZoneActs.mono {acts' : Fin 64 → Prop} (h : ZoneActs z acts s t) (more : ∀ a, acts a → acts' a) : ZoneActs z acts' s t :=
  { h with elsewhere := fun a idle => h.elsewhere a (mt (more a) idle) }

theorem zoneActs_setZone (z : Fin 24) (acts : Fin 64 → Prop) (s : State) (r : ZoneRecord) : ZoneActs z acts s (s.setZone z r) where
  frame := ⟨_, _, _, _, rfl⟩
  others y other := by rw [State.setZone_zone_other s r other]; exact .refl _
  elsewhere _ _ := ⟨rfl, rfl⟩

theorem ZoneActs.raiseFlags (h : ZoneActs z acts s t) : ZoneActs z acts s t.raiseFlags where
  frame := h.frame.trans ⟨_, _, _, _, rfl⟩
  others := h.others
  elsewhere := h.elsewhere

end

/-- A command placed writes of another zone's record the statuses of its actuator's entries alone. -/
theorem placeCommand_remaps {z y : Fin 24} (other : y ≠ z) (w : Work) (c : StageCommand) :
    Remapped (w.st.zone y) ((placeCommand z w c).st.zone y) := by
  unfold placeCommand
  dsimp only [Work.map_st]
  have only := (placeOp_only c.actuator (zoneSource (w.st.zone z) z) c.cmd (w.map fun s => s.setZone z
    { w.st.zone z with
      map := (w.st.zone z).map.set c.actuator (some { cmd := c.cmd, status :=
        match (w.st.zone z).map[c.actuator] with
        | some e => e.status
        | none => .shed }) })).1.refresh.remapped y
  rwa [Work.map_st, State.setZone_zone_other w.st _ other] at only

theorem issueStage_remaps {z y : Fin 24} (other : y ≠ z) (cs : CurrentStage) (mark : Bool) (w : Work) :
    Remapped (w.st.zone y) ((issueStage z cs mark w).st.zone y) := by
  unfold issueStage
  dsimp only [Work.map_st]
  rw [State.setZone_zone_other _ _ other]
  exact foldl_work_keeps (P := fun t => Remapped (w.st.zone y) (t.zone y)) _
    (fun v c same => same.trans (placeCommand_remaps other v c)) _ (.refl _)

/-- The actuators of a stage's commands. -/
def CommandsOf (s : State) (cs : CurrentStage) (a : Fin 64) : Prop := ∃ c ∈ (s.stageOf cs).commands, c.actuator = a

theorem zoneActs_issueStage (z : Fin 24) (cs : CurrentStage) (mark : Bool) (w : Work) :
    ZoneActs z (CommandsOf w.st cs) w.st (issueStage z cs mark w).st := by
  obtain ⟨-, -, elsewhere, -, -, frame, -, -⟩ := issueStage_issued z cs mark w
  refine ⟨frame, fun y other => issueStage_remaps other cs mark w, fun a idle => ?_⟩
  obtain ⟨list, drive, -⟩ := elsewhere a fun c mem same => idle ⟨c, mem, same⟩
  exact ⟨list, drive⟩

/-- The end of a stage writes its zone's record, and change flags. -/
theorem StageEnded.written {s t : State} {z : Fin 24} {cs : CurrentStage} {outcomes : List CommandOutcome} {failed : Option Nat}
    (h : StageEnded s t z cs outcomes failed) : t = s.setZone z (t.zone z) ∨ t = (s.setZone z (t.zone z)).raiseFlags := by
  obtain ⟨r, flagged, plain, -⟩ := h
  by_cases ends : (CommandOutcome.failed ∈ outcomes ∧ (s.stageOf cs).policy = .stop) ∨
      (s.sequenceOf z).length ≤ cs.position + 1
  · rw [flagged ends, State.raiseFlags_zone, State.setZone_zone_same]
    exact .inr rfl
  · rw [plain (fun stops => ends (.inl stops)) fun last => ends (.inr last), State.setZone_zone_same]
    exact .inl rfl

/-- The record of a zone whose stage has ended (R73). -/
theorem StageEnded.zone {s t : State} {z : Fin 24} {cs : CurrentStage} {outcomes : List CommandOutcome} {failed : Option Nat}
    (h : StageEnded s t z cs outcomes failed) :
    let stops := CommandOutcome.failed ∈ outcomes ∧ (s.stageOf cs).policy = .stop
    let last := (s.sequenceOf z).length ≤ cs.position + 1
    (t.zone z).held = (s.zone z).held ∧ (t.zone z).failed = failed ∧ (stops → (t.zone z).phase = .stopped) ∧
      (¬ stops → last → (t.zone z).phase = .complete) ∧
      (¬ stops → ¬ last →
        ∃ next, (t.zone z).stage = some next ∧ next.position = cs.position + 1 ∧ next.phase = .due) := by
  intro stops last
  obtain ⟨r, flagged, plain, record, stopped, completed, next⟩ := h
  have zone : t.zone z = r := by
    by_cases ends : stops ∨ last
    · rw [flagged ends, State.raiseFlags_zone, State.setZone_zone_same]
    · rw [plain (fun yes => ends (.inl yes)) fun yes => ends (.inr yes), State.setZone_zone_same]
  rw [zone]
  refine ⟨by rw [record], by rw [record], fun yes => (stopped yes).1, fun no yes => (completed no yes).1, fun no more => ?_⟩
  obtain ⟨-, x, stage, position, due, -⟩ := next no more
  exact ⟨x, stage, position, due⟩

theorem StageEnded.zoneActs {s t : State} {z : Fin 24} {cs : CurrentStage} {outcomes : List CommandOutcome} {failed : Option Nat}
    (h : StageEnded s t z cs outcomes failed) (acts : Fin 64 → Prop) : ZoneActs z acts s t := by
  rcases h.written with written | written
  · rw [written]
    exact zoneActs_setZone z acts s _
  · rw [written]
    exact (zoneActs_setZone z acts s _).raiseFlags

/-! ## Steps from zone to zone -/

/-- A state on the way from zone to zone: a zone has not acted, or what its step is for is done. -/
structure Underway (s : State) (acts : Fin 24 → Fin 64 → Prop) (done : Fin 24 → ZoneRecord → Prop) (t : State) : Prop where
  frame : Framed s t
  elsewhere : ∀ a, (∀ z, ¬ acts z a) → t.claimList a = s.claimList a ∧ t.drive a = s.drive a
  zones : ∀ z, Remapped (s.zone z) (t.zone z) ∨ done z (t.zone z)

section

variable {s : State} {acts : Fin 24 → Fin 64 → Prop} {done : Fin 24 → ZoneRecord → Prop}

theorem Underway.start (s : State) : Underway s acts done s :=
  ⟨.refl s, fun _ _ => ⟨rfl, rfl⟩, fun _ => .inl (.refl _)⟩

/-- A zone's step leaves what is done for another zone done. -/
theorem Underway.step {z : Fin 24} {t u : State} (stable : ∀ z r x, done z r → Remapped r x → done z x)
    (h : Underway s acts done t) (k : ZoneActs z (acts z) t u) (own : done z (u.zone z)) : Underway s acts done u where
  frame := h.frame.trans k.frame
  elsewhere a idle :=
    ⟨(k.elsewhere a (idle z)).1.trans (h.elsewhere a idle).1, (k.elsewhere a (idle z)).2.trans (h.elsewhere a idle).2⟩
  zones y := by
    by_cases same : y = z
    · subst same
      exact .inr own
    · have kept := k.others y same
      exact (h.zones y).imp (fun idle => idle.trans kept) fun acted => stable y _ _ acted kept

theorem Underway.foldl {f : Work → Fin 24 → Work} (stable : ∀ z r x, done z r → Remapped r x → done z x) (l : List (Fin 24))
    (step : ∀ w, ∀ z ∈ l, Underway s acts done w.st → ZoneActs z (acts z) w.st (f w z).st ∧ done z ((f w z).st.zone z))
    {w : Work} (h : Underway s acts done w.st) :
    Underway s acts done (l.foldl f w).st ∧
      ∀ z, z ∈ l ∨ done z (w.st.zone z) → done z ((l.foldl f w).st.zone z) := by
  induction l generalizing w with
  | nil => exact ⟨h, fun z acted => acted.resolve_left List.not_mem_nil⟩
  | cons y l ih =>
    obtain ⟨acted, own⟩ := step w y (List.mem_cons_self ..) h
    obtain ⟨all, each⟩ := ih (fun w z mem => step w z (List.mem_cons_of_mem _ mem)) (h.step stable acted own)
    refine ⟨all, fun z some => each z ?_⟩
    by_cases same : z = y
    · subst same
      exact .inr own
    · exact some.imp (fun mem => (List.mem_cons.1 mem).resolve_left same) fun before =>
        stable z _ _ before (acted.others z same)

end

/-! ## A zone brought forward (R77, R78) -/

theorem frozenAtZero_iff (t : Timer) : frozenAtZero t = true ↔ t = .frozen 0 := by
  unfold frozenAtZero
  split
  · simp
  · rename_i other
    exact ⟨nofun, fun zero => absurd zero other⟩

section

variable {s : State} {z : Fin 24} {cs : CurrentStage} {r : ZoneRecord}

theorem broughtForward_rests (rests : cs.phase = .due ∨ cs.phase = .finished) :
    BroughtForward s z cs r ↔ r.stage = some cs ∧ r.phase = (s.zone z).phase := by
  rcases rests with phase | phase
  · simp only [BroughtForward, phase]
  · simp only [BroughtForward, phase]

theorem broughtForward_gated (gated : cs.phase = .gated) :
    BroughtForward s z cs r ↔ ∀ g, (s.stageOf cs).gate = some g →
      (GateHolds g (s.channel g.channel) →
        (∃ x, r.stage = some x ∧ IssuedStage s.now (s.stageOf cs) cs false x) ∧ CommandsPlaced (s.stageOf cs) r) ∧
      (¬ GateHolds g (s.channel g.channel) → cs.gateWait = .frozen 0 →
        (∃ x, r.stage = some x ∧ IssuedStage s.now (s.stageOf cs) cs true x) ∧ CommandsPlaced (s.stageOf cs) r) ∧
      (¬ GateHolds g (s.channel g.channel) → cs.gateWait ≠ .frozen 0 → r.stage = some (thawStage s.now cs)) := by
  cases cs
  cases gated
  exact .rfl

theorem broughtForward_settling (settling : cs.phase = .settling) :
    BroughtForward s z cs r ↔
      (cs.settle = .frozen 0 → r.stage = some (provingStage (thawStage s.now cs))) ∧
        (cs.settle ≠ .frozen 0 → r.stage = some (thawStage s.now cs)) := by
  cases cs
  cases settling
  exact .rfl

theorem broughtForward_proving_runs (proving : cs.phase = .proving) (runs : ¬ (.pending ∈ cs.outcomes ∧ cs.window = .frozen 0)) :
    BroughtForward s z cs r ↔ r.stage = some (thawStage s.now cs) := by
  cases cs
  cases proving
  exact ⟨fun h => h.1 runs, fun stage => ⟨fun _ => stage, fun ends => absurd ends runs, fun ends => absurd ends runs,
    fun ends => absurd ends runs, fun ends => absurd ends runs⟩⟩

end

theorem BroughtForward.remapped {s : State} {z : Fin 24} {cs : CurrentStage} {r x : ZoneRecord} (h : BroughtForward s z cs r)
    (k : Remapped r x) : BroughtForward s z cs x := by
  obtain ⟨stage, phase, failed, -, -, -⟩ := k.run
  have placed : ∀ {sd : StageDef}, CommandsPlaced sd r → CommandsPlaced sd x := fun placed => placed.remapped k
  unfold BroughtForward at h ⊢
  rw [stage, phase, failed]
  cases inPhase : cs.phase with rw [inPhase] at h
  | gated =>
    intro _ _ g gate
    obtain ⟨opened, expired, waits⟩ := h g gate
    exact ⟨fun holds => (opened holds).imp id placed, fun shut zero => (expired shut zero).imp id placed, waits⟩
  | _ => exact h

/-- What a zone's stage comes to is told alike of two states that agree in it and in what no zone's step writes. -/
theorem BroughtForward.congr {s t : State} {z : Fin 24} {cs : CurrentStage} {r : ZoneRecord} (frame : Framed s t)
    (phase : (t.zone z).phase = (s.zone z).phase) (failed : (t.zone z).failed = (s.zone z).failed)
    (h : BroughtForward t z cs r) : BroughtForward s z cs r := by
  unfold BroughtForward at h ⊢
  rw [phase, failed] at h
  obtain ⟨_, _, _, _, rfl⟩ := frame
  exact h

/-- The actuators that a zone brought forward may act on: those of its GATED stage. -/
def GatedOn (s : State) (z : Fin 24) (a : Fin 64) : Prop :=
  ∃ cs, (s.zone z).stage = some cs ∧ cs.phase = .gated ∧ CommandsOf s cs a

/-- What bringing a zone forward makes of the part: its stage comes to what R78 says. -/
structure ZoneForward (z : Fin 24) (s t : State) : Prop where
  acts : ZoneActs z (GatedOn s z) s t
  held : (t.zone z).held = (s.zone z).held
  stage : ∀ cs, (s.zone z).stage = some cs → BroughtForward s z cs (t.zone z)

section

variable {z : Fin 24} {cs : CurrentStage} {w : Work} (stage : (w.st.zone z).stage = some cs)
include stage

/-- What is to be shown of a zone's one stage. -/
theorem ZoneForward.of_stage {t : State} (acts : ZoneActs z (GatedOn w.st z) w.st t) (held : (t.zone z).held = (w.st.zone z).held)
    (forward : BroughtForward w.st z cs (t.zone z)) : ZoneForward z w.st t :=
  ⟨acts, held, fun _ same => Option.some.inj (stage.symm.trans same) ▸ forward⟩

/-- A stage written runs on, or is PROVING. -/
theorem zoneForward_setStage (x : CurrentStage) (forward : BroughtForward w.st z cs { w.st.zone z with stage := some x }) :
    ZoneForward z w.st (w.st.setZone z { w.st.zone z with stage := some x }) := by
  refine .of_stage stage (zoneActs_setZone ..) ?_ ?_ <;> rw [State.setZone_zone_same]
  exact forward

/-- A GATED stage issued with its mark (R64, R65). -/
theorem zoneForward_issueStage (gated : cs.phase = .gated) (mark : Bool)
    (due : ∀ g, (w.st.stageOf cs).gate = some g →
      (mark = false ∧ GateHolds g (w.st.channel g.channel)) ∨
        (mark = true ∧ ¬ GateHolds g (w.st.channel g.channel) ∧ cs.gateWait = .frozen 0)) :
    ZoneForward z w.st (issueStage z cs mark w).st := by
  obtain ⟨issued, placed, -⟩ := issueStage_issued z cs mark w
  refine .of_stage stage ((zoneActs_issueStage z cs mark w).mono fun a mem => ⟨cs, stage, gated, mem⟩) ?_ ?_
  · obtain ⟨t, taken, written⟩ := issueStage_placed z cs mark w
    obtain ⟨m, zone⟩ := taken.maps z
    rw [written, State.setZone_zone_same, zone]
  · refine (broughtForward_gated gated).2 fun g gate => ?_
    rcases due g gate with ⟨rfl, holds⟩ | ⟨rfl, shut, zero⟩
    · exact ⟨fun _ => ⟨issued, placed⟩, fun shut => absurd holds shut, fun shut => absurd holds shut⟩
    · exact ⟨fun holds => absurd holds shut, fun _ _ => ⟨issued, placed⟩, fun _ left => absurd zero left⟩

/-- A GATED stage whose gate does not hold waits on for the time its wait kept (R77, R78). -/
theorem zoneForward_waits {g : Gate} (gated : cs.phase = .gated) (gate : (w.st.stageOf cs).gate = some g)
    (shut : ¬ GateHolds g (w.st.channel g.channel)) (left : cs.gateWait ≠ .frozen 0) :
    ZoneForward z w.st (w.st.setZone z { w.st.zone z with stage := some (thawStage w.st.now cs) }) := by
  refine zoneForward_setStage stage _ ((broughtForward_gated gated).2 fun x same => ?_)
  obtain rfl := Option.some.inj (gate.symm.trans same)
  exact ⟨fun holds => absurd holds shut, fun _ zero => absurd zero left, fun _ _ => rfl⟩

/-- A SETTLING stage runs on, and is PROVING where its settle timer had no time left (R69, R78). -/
theorem zoneForward_settling (settling : cs.phase = .settling) :
    ZoneForward z w.st (w.st.setZone z
      { w.st.zone z with
        stage := some (if frozenAtZero cs.settle then provingStage (thawStage w.st.now cs) else thawStage w.st.now cs) }) := by
  simp only [frozenAtZero_iff]
  exact zoneForward_setStage stage _ ((broughtForward_settling settling).2
    ⟨fun zero => congrArg some (if_pos zero), fun left => congrArg some (if_neg left)⟩)

/-- A PROVING stage whose window has time left, or which has no PENDING outcome, runs on (R78). -/
theorem zoneForward_proving (proving : cs.phase = .proving) (runs : ¬ (.pending ∈ cs.outcomes ∧ cs.window = .frozen 0)) :
    ZoneForward z w.st (w.st.setZone z { w.st.zone z with stage := some (thawStage w.st.now cs) }) :=
  zoneForward_setStage stage _ ((broughtForward_proving_runs proving runs).2 rfl)

/-- A PROVING stage with a PENDING outcome whose window had no time left ends (R71, R78). -/
theorem zoneForward_expires (proving : cs.phase = .proving) (pending : .pending ∈ cs.outcomes) (zero : cs.window = .frozen 0) :
    ZoneForward z w.st (expireWindow w.st z cs) := by
  have ended := expireWindow_ended w.st z cs
  have failed : CommandOutcome.failed ∈ cs.outcomes.map fun o => if o = .pending then .failed else o :=
    List.mem_map.2 ⟨.pending, pending, rfl⟩
  obtain ⟨held, count, stopped, completed, next⟩ := ended.zone
  refine .of_stage stage (ended.zoneActs _) held ?_
  unfold BroughtForward
  rw [proving]
  exact ⟨fun runs => absurd ⟨pending, zero⟩ runs, fun _ stops => stopped ⟨failed, stops.2⟩,
    fun _ goes last => completed (fun yes => goes ⟨.inr pending, yes.2⟩) last,
    fun _ goes more => next (fun yes => goes ⟨.inr pending, yes.2⟩) more, fun _ => count⟩

end

/-- A zone is brought forward by the case of R78 that its stage's phase gives. -/
theorem bringForward_forward (z : Fin 24) (w : Work) : ZoneForward z w.st (bringForward z w).st := by
  unfold bringForward
  cases stage : (w.st.zone z).stage with dsimp only
  | none => exact ⟨.refl .., rfl, fun cs some => absurd (stage.symm.trans some) nofun⟩
  | some cs =>
    cases phase : cs.phase with dsimp only
    | due => exact .of_stage stage (.refl ..) rfl ((broughtForward_rests (.inl phase)).2 ⟨stage, rfl⟩)
    | finished => exact .of_stage stage (.refl ..) rfl ((broughtForward_rests (.inr phase)).2 ⟨stage, rfl⟩)
    | gated =>
      cases gate : (w.st.stageOf cs).gate with dsimp only
      | none => exact zoneForward_issueStage stage phase false fun g some => absurd (gate.symm.trans some) nofun
      | some g =>
        have only : ∀ x, (w.st.stageOf cs).gate = some x → x = g := fun x same => (Option.some.inj (gate.symm.trans same)).symm
        by_cases holds : GateHolds g (w.st.channel g.channel)
        · rw [if_pos ((gateTrue_iff ..).2 holds)]
          exact zoneForward_issueStage stage phase false fun x same => .inl ⟨rfl, only x same ▸ holds⟩
        · rw [if_neg (by rwa [gateTrue_iff])]
          by_cases zero : cs.gateWait = .frozen 0
          · rw [if_pos ((frozenAtZero_iff _).2 zero)]
            exact zoneForward_issueStage stage phase true fun x same => .inr ⟨rfl, only x same ▸ holds, zero⟩
          · rw [if_neg (by rwa [frozenAtZero_iff])]
            exact zoneForward_waits stage phase gate holds zero
    | settling =>
      have forward := zoneForward_settling stage phase
      split
      · rename_i zero
        rwa [if_pos zero] at forward
      · rename_i left
        rwa [if_neg left] at forward
    | proving =>
      split
      · rename_i expires
        rw [Bool.and_eq_true, List.contains_iff_mem, frozenAtZero_iff] at expires
        exact zoneForward_expires stage phase expires.1 expires.2
      · rename_i runs
        rw [Bool.and_eq_true, List.contains_iff_mem, frozenAtZero_iff] at runs
        exact zoneForward_proving stage phase runs

/-! ## A flag of a zone cleared (R77, R79, R159) -/

/-- One of the two flags that block a zone: the flag, the other one, and a record with the flag cleared. -/
structure BlockFlag where
  flag : ZoneRecord → Bool
  other : ZoneRecord → Bool
  clear : ZoneRecord → ZoneRecord

/-- The held flag (R156). -/
def heldFlag : BlockFlag := ⟨(·.held), (·.suspended), fun r => { r with held := false }⟩

/-- The suspended flag (R79). -/
def suspendedFlag : BlockFlag := ⟨(·.suspended), (·.held), fun r => { r with suspended := false }⟩

/-- The flag of a zone cleared; the zone is brought forward if the other flag is not set. -/
def BlockFlag.clearZone (F : BlockFlag) (w : Work) (z : Fin 24) : Work :=
  let r := w.st.zone z
  if F.flag r then
    let w1 := w.map fun s => (s.setZone z (F.clear r)).raiseFlags
    if F.other r then w1 else bringForward z w1
  else w

theorem unholdZone_eq : unholdZone = heldFlag.clearZone := rfl

theorem unsuspendZone_eq : unsuspendZone = suspendedFlag.clearZone := rfl

/-- The clearing writes the flag alone, and both flags are read from the two fields. -/
structure BlockFlag.Lawful (F : BlockFlag) : Prop where
  cleared : ∀ r, F.flag (F.clear r) = false
  kept : ∀ r, F.other (F.clear r) = F.other r
  stage : ∀ r, (F.clear r).stage = r.stage
  phase : ∀ r, (F.clear r).phase = r.phase
  failed : ∀ r, (F.clear r).failed = r.failed
  mode : ∀ r, (F.clear r).mode = r.mode
  reads : ∀ r x : ZoneRecord, x.held = r.held → x.suspended = r.suspended → F.flag x = F.flag r ∧ F.other x = F.other r

theorem heldFlag_lawful : heldFlag.Lawful :=
  ⟨fun _ => rfl, fun _ => rfl, fun _ => rfl, fun _ => rfl, fun _ => rfl, fun _ => rfl, fun _ _ held suspended => ⟨held, suspended⟩⟩

theorem suspendedFlag_lawful : suspendedFlag.Lawful :=
  ⟨fun _ => rfl, fun _ => rfl, fun _ => rfl, fun _ => rfl, fun _ => rfl, fun _ => rfl, fun _ _ held suspended => ⟨suspended, held⟩⟩

section

variable (F : BlockFlag)

/-- A zone is brought forward as its flag clears. -/
def BlockFlag.Goes (s : State) (z : Fin 24) : Prop := F.flag (s.zone z) = true ∧ F.other (s.zone z) = false

/-- A zone's record after the flag has been cleared. -/
structure BlockFlag.Cleared (s : State) (z : Fin 24) (r : ZoneRecord) : Prop where
  flag : F.flag r = false
  other : F.other r = F.other (s.zone z)
  mode : r.mode = (s.zone z).mode
  forward : F.Goes s z → ∀ cs, (s.zone z).stage = some cs → BroughtForward s z cs r
  stays : ¬ F.Goes s z → r.stage = (s.zone z).stage ∧ r.phase = (s.zone z).phase

/-- The actuators on which a zone may act as its flag clears. -/
def BlockFlag.ActsOn (s : State) (z : Fin 24) (a : Fin 64) : Prop := F.Goes s z ∧ GatedOn s z a

variable {F} (L : F.Lawful)
include L

theorem BlockFlag.Cleared.remapped {s : State} {z : Fin 24} {r x : ZoneRecord} (h : F.Cleared s z r) (k : Remapped r x) :
    F.Cleared s z x := by
  have run := k.run
  obtain ⟨flag, other⟩ := L.reads r x run.held run.suspended
  exact ⟨flag.trans h.flag, other.trans h.other, run.mode.trans h.mode, fun goes cs stage => (h.forward goes cs stage).remapped k,
    fun stays => ⟨run.stage.trans (h.stays stays).1, run.phase.trans (h.stays stays).2⟩⟩

/-- A zone whose flag clears with the other flag not set, on its way from a state that the steps of other zones have left alike. -/
theorem BlockFlag.Lawful.brings {s : State} {w : Work} {z : Fin 24} (frame : Framed s w.st) (same : Remapped (s.zone z) (w.st.zone z))
    (goes : F.Goes s z) :
    let u := (bringForward z (w.map fun s => (s.setZone z (F.clear (w.st.zone z))).raiseFlags)).st
    ZoneActs z (F.ActsOn s z) w.st u ∧ F.Cleared s z (u.zone z) := by
  intro u
  have before := same.run
  have forward := bringForward_forward z (w.map fun s => (s.setZone z (F.clear (w.st.zone z))).raiseFlags)
  have kept := keeps_bringForward z (w.map fun s => (s.setZone z (F.clear (w.st.zone z))).raiseFlags)
  have zone : ((w.st.setZone z (F.clear (w.st.zone z))).raiseFlags).zone z = F.clear (w.st.zone z) :=
    State.setZone_zone_same w.st z _
  have cleared : Framed s (w.st.setZone z (F.clear (w.st.zone z))).raiseFlags := frame.trans ⟨_, _, _, _, rfl⟩
  have suspended := kept.suspended z
  have mode := kept.mode z
  have held := forward.held
  rw [Work.map_st, zone] at suspended mode held
  obtain ⟨flag, other⟩ := L.reads _ _ held suspended
  obtain ⟨-, otherBefore⟩ := L.reads _ _ before.held before.suspended
  refine ⟨(zoneActs_setZone z _ w.st _).raiseFlags.trans (forward.acts.mono ?_),
    flag.trans (L.cleared _), other.trans ((L.kept _).trans otherBefore), mode.trans ((L.mode _).trans before.mode),
    fun _ cs stage => ?_, fun stays => absurd goes stays⟩
  · rintro a ⟨cs, stage, gated, c, mem, actuator⟩
    rw [Work.map_st, zone, L.stage, before.stage] at stage
    rw [Work.map_st, cleared.stageOf] at mem
    exact ⟨goes, cs, stage, gated, c, mem, actuator⟩
  · refine (forward.stage cs ?_).congr cleared ?_ ?_
    · rw [Work.map_st, zone, L.stage, before.stage, stage]
    · rw [zone, L.phase, before.phase]
    · rw [zone, L.failed, before.failed]

theorem BlockFlag.Lawful.step (s : State) (w : Work) (z : Fin 24) (h : Underway s (F.ActsOn s) (F.Cleared s) w.st) :
    ZoneActs z (F.ActsOn s z) w.st (F.clearZone w z).st ∧ F.Cleared s z ((F.clearZone w z).st.zone z) := by
  have already : F.flag (w.st.zone z) = false → F.clearZone w z = w := fun clear => by
    rw [BlockFlag.clearZone, if_neg (by rw [clear]; nofun)]
  rcases h.zones z with same | done
  · have before := same.run
    obtain ⟨flag, other⟩ := L.reads _ _ before.held before.suspended
    by_cases clear : F.flag (w.st.zone z) = false
    · rw [already clear]
      exact ⟨.refl .., clear, other, before.mode, fun goes => absurd (goes.1.symm.trans (flag.symm.trans clear)) nofun,
        fun _ => ⟨before.stage, before.phase⟩⟩
    · rw [Bool.not_eq_false] at clear
      rw [BlockFlag.clearZone, if_pos clear]
      by_cases blocked : F.other (w.st.zone z) = true
      · rw [if_pos blocked, Work.map_st]
        refine ⟨(zoneActs_setZone ..).raiseFlags, ?_⟩
        rw [State.raiseFlags_zone, State.setZone_zone_same]
        exact ⟨L.cleared _, (L.kept _).trans other, (L.mode _).trans before.mode,
          fun goes => absurd (goes.2.symm.trans (other.symm.trans blocked)) nofun,
          fun _ => ⟨(L.stage _).trans before.stage, (L.phase _).trans before.phase⟩⟩
      · rw [if_neg blocked]
        exact L.brings h.frame same ⟨flag.symm.trans clear, other.symm.trans (Bool.not_eq_true _ ▸ blocked)⟩
  · rw [already done.flag]
    exact ⟨.refl .., done⟩

/-- A flag cleared of every zone. -/
theorem BlockFlag.Lawful.clearZones (w : Work) :
    Underway w.st (F.ActsOn w.st) (F.Cleared w.st) ((List.finRange 24).foldl F.clearZone w).st ∧
      ∀ z, F.Cleared w.st z (((List.finRange 24).foldl F.clearZone w).st.zone z) := by
  obtain ⟨all, each⟩ := Underway.foldl (fun _ _ _ done same => done.remapped L same) (List.finRange 24)
    (fun v z _ => L.step w.st v z) (.start w.st)
  exact ⟨all, fun z => each z (.inl (List.mem_finRange z))⟩

end

end Sys2Proof.Machine

end

/-! # Stand-down set, released and lost with its line (R77, R78, R156, R159 to R161, R173, R174) -/

section

namespace Sys2Proof.Machine

/-! ## Records written in turn -/

/-- A fold that writes the record of each zone of a list once, from that record and the clock, with change flags. -/
theorem foldl_records {step : State → Fin 24 → State} {record : Nat → ZoneRecord → ZoneRecord}
    (writes : ∀ s z, ∃ ps, step s z = { s with zones := s.zones.set z (record s.now (s.zone z)), ports := ps })
    (l : List (Fin 24)) (once : l.Nodup) (s : State) :
    (∃ zs ps, l.foldl step s = { s with zones := zs, ports := ps }) ∧
      ∀ z, (l.foldl step s).zone z = if z ∈ l then record s.now (s.zone z) else s.zone z := by
  induction l generalizing s with
  | nil => exact ⟨⟨s.zones, s.ports, rfl⟩, fun z => by simp⟩
  | cons y l ih =>
    obtain ⟨notIn, once⟩ := List.nodup_cons.1 once
    obtain ⟨ps, written⟩ := writes s y
    obtain ⟨⟨zs, ps', rest⟩, zones⟩ := ih once (step s y)
    have own : (step s y).zone y = record s.now (s.zone y) := by
      rw [written]
      exact State.setZone_zone_same s y _
    have others : ∀ z, z ≠ y → (step s y).zone z = s.zone z := fun z other => by
      rw [written]
      exact State.setZone_zone_other s _ other
    have now : (step s y).now = s.now := by rw [written]
    refine ⟨⟨zs, ps', by rw [List.foldl_cons, rest, written]⟩, fun z => ?_⟩
    rw [List.foldl_cons, zones z, now]
    by_cases same : z = y
    · subst same
      rw [if_neg notIn, if_pos (List.mem_cons_self ..), own]
    · rw [others z same]
      simp [same]

/-! ## Timers frozen (R77) -/

theorem freezeTimer_frozen (now : Nat) (t : Timer) : TimerFrozen now t (freezeTimer now t) := by
  cases t with
  | stopped => rfl
  | frozen ms => rfl
  | running e => exact ⟨(e - now + 99) / 100, by simp only [freezeTimer, Nat.mul_comm], by omega, by omega⟩

theorem freezeStage_frozen (now : Nat) (cs : CurrentStage) : StageFrozen now cs (freezeStage now cs) :=
  ⟨rfl, freezeTimer_frozen now cs.settle, freezeTimer_frozen now cs.window, freezeTimer_frozen now cs.gateWait⟩

/-! ## STAND-DOWN (R156) -/

/-- A zone's record once it is held. -/
def heldRecord (now : Nat) (r : ZoneRecord) : ZoneRecord :=
  if r.held then r
  else { r with held := true, stage := if r.suspended then r.stage else r.stage.map (freezeStage now) }

theorem holdZone_writes (s : State) (z : Fin 24) :
    ∃ ps, holdZone s z = { s with zones := s.zones.set z (heldRecord s.now (s.zone z)), ports := ps } := by
  unfold holdZone heldRecord
  dsimp only
  by_cases held : (s.zone z).held = true
  · rw [if_pos held, if_pos held]
    exact ⟨s.ports, by simp [State.zone]⟩
  · rw [if_neg held, if_neg held]
    refine ⟨s.raiseFlags.ports, ?_⟩
    cases suspended : (s.zone z).suspended <;>
      simp [ZoneRecord.freeze, ZoneRecord.blocked, held, suspended, State.setZone, State.raiseFlags]

theorem keeps_holdZone (s : State) (z : Fin 24) : Keeps s (holdZone s z) := by
  unfold holdZone
  dsimp only
  split
  · exact Keeps.refl s
  · refine Keeps.trans (keeps_setZone s z _ ?_ ?_ ?_ ?_ ?_ ?_) (keeps_raiseFlags _) <;>
      (unfold ZoneRecord.freeze; split <;> rfl)

/-- Stand-down set holds the RUNNING FIRE zones, and leaves the rest of the part. -/
structure StandDownSet (opt : StandDownOption) (s t : State) : Prop where
  zones : ∀ z, t.zone z = if s.fireRunning z then heldRecord s.now (s.zone z) else s.zone z
  frame : ∃ zs ps, t = { s with standDown := true, standDownOption := some opt, zones := zs, ports := ps }
  ports : SamePorts s t
  flags : FlagsSet t

theorem setStandDown_set (opt : StandDownOption) (s : State) : StandDownSet opt s (setStandDown opt s) := by
  have once : ((List.finRange 24).filter s.fireRunning).Nodup := (List.nodup_finRange 24).filter _
  have start := keeps_raiseFlags { s with standDown := true, standDownOption := some opt }
  have kept := keeps_foldl holdZone keeps_holdZone ((List.finRange 24).filter s.fireRunning)
    { s with standDown := true, standDownOption := some opt }.raiseFlags
  obtain ⟨⟨zs, ps, frame⟩, zones⟩ := foldl_records holdZone_writes _ once
    { s with standDown := true, standDownOption := some opt }.raiseFlags
  refine ⟨fun z => (zones z).trans ?_, ⟨zs, ps, frame⟩, (start.trans kept).ports, (raiseFlags_set _).keeps kept⟩
  simp only [List.mem_filter, List.mem_finRange, true_and]
  rfl

theorem anyRunning_iff (s : State) : (List.finRange 24).any s.fireRunning = true ↔ ∃ z, s.fireRunning z = true := by
  simp

section

variable {code : Byte} {s : State} {opt : StandDownOption} (option : standDownOptionOf code = some opt)
include option

theorem takeStandDown_again (down : s.standDown = true) :
    takeStandDown code s =
      (replaceOption opt s, { result := .noChange, body := .standDown true (some opt) s.heldCount }) := by
  simp only [takeStandDown, option, if_pos down, standDownReply, replaceOption]
  split
  · rename_i same
    rw [down, same]
  · rw [← down]
    rfl

theorem takeStandDown_idle (off : s.standDown = false) (none : ∀ z, s.fireRunning z = false) :
    takeStandDown code s = (s, { result := .noChange, body := .standDown false s.standDownOption s.heldCount }) := by
  have idle : ¬ (List.finRange 24).any s.fireRunning = true := by simp [none]
  simp only [takeStandDown, option, off, if_neg idle, standDownReply, Bool.false_eq_true, if_false]

theorem takeStandDown_sets (off : s.standDown = false) (some : ∃ z, s.fireRunning z = true) :
    takeStandDown code s = standDownReply .done (setStandDown opt s) := by
  simp only [takeStandDown, option, off, if_pos ((anyRunning_iff s).2 some), Bool.false_eq_true, if_false]

end

theorem takeStandDown_unknown {code : Byte} (none : standDownOptionOf code = none) (s : State) :
    takeStandDown code s = refuse s .refusedForm := by
  simp only [takeStandDown, none]

/-- Settles O32: the cases of R156, and what `setStandDown_set` says of the zones. -/
theorem standDownHoldsTheRunningFires : Obligations.StandDownHoldsTheRunningFires := by
  intro code s takes
  refine ⟨fun none => request_refused takes (takeStandDown_unknown none s), fun opt option => ⟨fun down => ?_, fun off none => ?_,
    fun off some => ?_⟩⟩
  · exact request_answers takes (takeStandDown_again option down)
  · exact request_answers takes (takeStandDown_idle option off none)
  · obtain ⟨zones, ⟨zs, ps, frame⟩, ports, flags⟩ := setStandDown_set opt s
    refine ⟨setStandDown opt s, request_answers takes ((takeStandDown_sets option off some).trans ?_), fun z => ?_,
      fun z cs fire free going stage => ?_, ⟨zs, ps, frame⟩, ports, flags⟩
    · rw [standDownReply, frame]
    · rw [zones z]
      by_cases fire : s.fireRunning z = true
      · by_cases held : (s.zone z).held = true
        · simp [fire, held, heldRecord]
        · simp [fire, held, heldRecord]
      · simp [fire]
    · refine ⟨freezeStage s.now cs, ?_, freezeStage_frozen s.now cs⟩
      rw [zones z, if_pos fire]
      simp [heldRecord, free, going, stage]

/-! ## The release (R159) -/

/-- A release of stand-down (R159). -/
theorem releaseStandDown_released (s : State) : StandDownReleased s (releaseStandDown (Work.start s)).st := by
  have kept := keeps_foldl_work unholdZone keeps_unholdZone (List.finRange 24)
    ((Work.start s).map fun s => { s with standDown := false, standDownOption := none }.raiseFlags)
  obtain ⟨all, done⟩ := heldFlag_lawful.clearZones
    ((Work.start s).map fun s => { s with standDown := false, standDownOption := none }.raiseFlags)
  unfold releaseStandDown
  rw [unholdZone_eq] at kept ⊢
  generalize (List.finRange 24).foldl heldFlag.clearZone
    ((Work.start s).map fun s => { s with standDown := false, standDownOption := none }.raiseFlags) = w at kept all done ⊢
  refine ⟨kept.standDown, kept.standDownOption, (raiseFlags_set _).keeps kept, fun z => (done z).flag,
    fun z cs held going stage => (done z).forward ⟨held, going⟩ cs stage, fun z stays => (done z).stays ?_,
    fun z => ⟨kept.mode z, kept.suspended z⟩, fun a idle => all.elsewhere a ?_, all.frame⟩
  · rintro ⟨held, going⟩
    rcases stays with free | suspended
    · exact absurd (free.symm.trans held) nofun
    · exact absurd (going.symm.trans suspended) nofun
  · rintro z ⟨⟨held, going⟩, cs, stage, gated, c, mem, actuator⟩
    exact idle z cs held going stage gated c mem actuator

/-! ## After the engine -/

/-- While stand-down is OFF the engine holds no zone (R157). -/
theorem settled_unheld {w : Work} (off : w.st.standDown = false) (free : ∀ z, (w.st.zone z).held = false) (z : Fin 24) :
    ((settled w).zone z).held = false := by
  have rule : ZoneRule (fun _ => True) fun s => s.standDown = false ∧ ∀ z, (s.zone z).held = false := {
    active := fun _ _ _ _ => trivial
    same := fun s t ⟨off, free⟩ same => ⟨same.standDown.trans off, fun z => by rw [same.zone]; exact free z⟩
    write := fun s z r ⟨off, free⟩ _ written => by
      refine ⟨off, fun y => ?_⟩
      by_cases same : y = z
      · subst same
        rw [State.setZone_zone_same, Bool.eq_false_iff]
        intro held
        rcases written.held held with old | ⟨-, down⟩
        · exact absurd ((free y).symm.trans old) nofun
        · exact absurd (off.symm.trans down) nofun
      · rw [State.setZone_zone_other s r same]
        exact free y
    place := fun w a z cmd ⟨off, free⟩ _ => by
      obtain ⟨only, -⟩ := placeOp_only a (zoneSource (w.st.zone z) z) cmd w
      exact ⟨(keeps_placeOp a _ cmd w).standDown.trans off, fun y => (only.remapped y).run.held.trans (free y)⟩ }
  exact (rule.settled ⟨off, free⟩).2 z

/-- What the engine leaves of a release. -/
structure ReleaseSettled (s t : State) : Prop where
  standDown : t.standDown = false
  standDownOption : t.standDownOption = none
  held : ∀ z, (t.zone z).held = false
  kept : Keeps { s with standDown := false, standDownOption := none } t
  flags : FlagsSet t

theorem releaseSettled (s : State) : ReleaseSettled s (settled (releaseStandDown (Work.start s))) := by
  obtain ⟨off, option, flags, free, -⟩ := releaseStandDown_released s
  have engine := keeps_settled (releaseStandDown (Work.start s))
  exact ⟨engine.standDown.trans off, engine.standDownOption.trans option, settled_unheld off free,
    (keeps_releaseStandDown (Work.start s)).trans engine, flags.keeps engine⟩

theorem takeResume_set {s : State} (down : s.standDown = true) :
    takeResume s =
      (settled (releaseStandDown (Work.start s)),
        { result := .done, body := .resumed (settled (releaseStandDown (Work.start s))).standDown }) :=
  if_pos down

theorem takeResume_off {s : State} (off : s.standDown = false) :
    takeResume s = (s, { result := .noChange, body := .resumed false }) := by
  rw [takeResume, if_neg (by rw [off]; nofun), off]
  rfl

/-- Settles O33: the release by `releaseStandDown_released`, and what the engine leaves of it. -/
theorem resumeReleasesStandDown : Obligations.ResumeReleasesStandDown := by
  intro s takes
  refine ⟨fun off => request_answers takes (takeResume_off off), fun down => ?_⟩
  have after := releaseSettled s
  refine ⟨releaseStandDown (Work.start s), ?_, releaseStandDown_released s, after.standDown, after.standDownOption, after.held,
    fun z => ⟨after.kept.mode z, after.kept.suspended z⟩, after.kept.activation, after.kept.overrides, after.kept.store,
    after.flags⟩
  have taken := request_answers takes (k := 0x23) (takeResume_set down)
  rwa [after.standDown] at taken

/-! ## The supervision timer (R161, R173, R174) -/

/-- A port whose line is lost. -/
def lostPort (s : State) (l : Line) : State := s.setPort l { s.port l with line := .lost, supervisionTimer := none }

/-- A state with its change flags set where a line's state has changed (R174). -/
theorem raiseIfChanged_cases (old new : LineState) (s : State) :
    raiseIfChanged old new s = s ∨ raiseIfChanged old new s = s.raiseFlags := by
  unfold raiseIfChanged
  split
  · exact .inl rfl
  · exact .inr rfl

theorem supervisionExpiry_stopped {l : Line} {s : State} (stopped : (s.port l).supervisionTimer = none) :
    supervisionExpiry l s = s := by
  simp only [supervisionExpiry, stopped]

theorem supervisionExpiry_runs {l : Line} {s : State} {e : Nat} (running : (s.port l).supervisionTimer = some e) :
    supervisionExpiry l s = loseLine l (s.reach e) := by
  simp only [supervisionExpiry, running]

/-- A line lost without a stand-down to release. -/
theorem loseLine_quiet {l : Line} {s : State} (quiet : l ≠ .override ∨ s.standDown = false) :
    loseLine l s = raiseIfChanged (s.port l).line .lost (lostPort s l) := by
  have down : (raiseIfChanged (s.port l).line .lost (lostPort s l)).standDown = s.standDown := by
    rcases raiseIfChanged_cases (s.port l).line .lost (lostPort s l) with same | raised
    · rw [same]; rfl
    · rw [raised]; rfl
  refine if_neg fun releases => ?_
  rcases quiet with other | off
  · exact other releases.1
  · exact absurd ((down.trans off).symm.trans releases.2) nofun

/-- The Override Line lost with stand-down SET releases it (R161). -/
theorem loseLine_releases {s : State} (down : s.standDown = true) :
    loseLine .override s =
      settled (releaseStandDown
        (Work.start (raiseIfChanged (s.port .override).line .lost (lostPort s .override)))) := by
  refine if_pos ⟨rfl, ?_⟩
  rcases raiseIfChanged_cases (s.port .override).line .lost (lostPort s .override) with same | raised
  · exact (congrArg State.standDown same).trans down
  · exact (congrArg State.standDown raised).trans down

/-- Change flags are no part of what a release is told of. -/
theorem released_of_raised {s v : State} (raised : v = s ∨ v = s.raiseFlags) :
    StandDownReleased s (releaseStandDown (Work.start v)).st ∧
      Keeps { s with standDown := false, standDownOption := none } (releaseStandDown (Work.start v)).st := by
  rcases raised with rfl | rfl
  · exact ⟨releaseStandDown_released v, keeps_releaseStandDown (Work.start v)⟩
  · exact ⟨releaseStandDown_released s.raiseFlags,
      (keeps_raiseFlags { s with standDown := false, standDownOption := none }).trans
        (keeps_releaseStandDown (Work.start s.raiseFlags))⟩

/-- A port alike but for its change flag is in the same line state, with the same supervision timer. -/
theorem Keeps.line {s t : State} (h : Keeps s t) (l : Line) :
    (t.port l).line = (s.port l).line ∧ (t.port l).supervisionTimer = (s.port l).supervisionTimer := by
  have line := congrArg Port.line (h.ports l)
  have timer := congrArg Port.supervisionTimer (h.ports l)
  exact ⟨line, timer⟩

/-- Settles O46: the line LOST, and on the Override Line with stand-down SET the release. -/
theorem supervisionExpiryLosesTheLine : Obligations.SupervisionExpiryLosesTheLine := by
  intro l s power
  have exec_eq : exec (.supervisionTimerExpiry l) s = .next (supervisionExpiry l s) := event_running power _
  refine ⟨fun stopped => by rw [exec_eq, supervisionExpiry_stopped stopped], fun e running => ?_⟩
  rw [exec_eq, supervisionExpiry_runs running]
  refine ⟨fun quiet => congrArg Host.Outcome.next (loseLine_quiet (s := s.reach e) quiet), ?_⟩
  rintro rfl down
  have raised := raiseIfChanged_cases ((s.reach e).port .override).line .lost (lostPort (s.reach e) .override)
  rw [loseLine_releases (s := s.reach e) down]
  generalize raiseIfChanged ((s.reach e).port .override).line .lost (lostPort (s.reach e) .override) = v at raised
  obtain ⟨released, kept⟩ := released_of_raised raised
  have after := releaseSettled v
  have all := kept.trans (keeps_settled (releaseStandDown (Work.start v)))
  obtain ⟨line, timer⟩ := all.line .override
  have lost : (lostPort (s.reach e) .override).port .override =
      { s.port .override with line := .lost, supervisionTimer := none } := State.setPort_port_same ..
  exact ⟨_, rfl, released, kept.ports, all.now, line.trans (congrArg Port.line lost),
    timer.trans (congrArg Port.supervisionTimer lost), after.standDown, after.standDownOption, after.held, all.overrides,
    all.activation, after.flags⟩

end Sys2Proof.Machine

end

/-! # Conversions of the channels (R64, R111, R112, R114, R115, R119, R138, R139, R142, R143) -/

section

namespace Sys2Proof.Machine

/-! ## Drives written in turn -/

/-- A fold that writes the drive of each actuator of a list once, from that drive and from what no drive holds, with change flags. -/
theorem foldl_drives {f : Work → Fin 64 → Work} {new : State → Fin 64 → Drive}
    (writes : ∀ w a, ∃ ps, (f w a).st = { w.st with drives := w.st.drives.set a (new w.st a), ports := ps })
    (depends : ∀ (s : State) ds ps a, ({ s with drives := ds, ports := ps } : State).drive a = s.drive a →
      new { s with drives := ds, ports := ps } a = new s a)
    (l : List (Fin 64)) (once : l.Nodup) (w : Work) :
    (∃ ds ps, (l.foldl f w).st = { w.st with drives := ds, ports := ps }) ∧
      ∀ a, (l.foldl f w).st.drive a = if a ∈ l then new w.st a else w.st.drive a := by
  induction l generalizing w with
  | nil => exact ⟨⟨w.st.drives, w.st.ports, rfl⟩, fun a => by simp⟩
  | cons b l ih =>
    obtain ⟨notIn, once⟩ := List.nodup_cons.1 once
    obtain ⟨ps, written⟩ := writes w b
    obtain ⟨⟨ds, ps', rest⟩, drives⟩ := ih once (f w b)
    have own : (f w b).st.drive b = new w.st b := by
      rw [written]
      exact State.setDrive_drive_same w.st b _
    refine ⟨⟨ds, ps', by rw [List.foldl_cons, rest, written]⟩, fun a => ?_⟩
    rw [List.foldl_cons, drives a]
    by_cases same : a = b
    · subst same
      rw [if_neg notIn, if_pos (List.mem_cons_self ..), own]
    · have kept : (f w b).st.drive a = w.st.drive a := by
        rw [written]
        exact State.setDrive_drive_other w.st _ same
      have alike : new (f w b).st a = new w.st a := by
        rw [written] at kept ⊢
        exact depends _ _ _ _ kept
      rw [kept, alike]
      simp [same]

/-! ## The fans that prove on a channel (R111, R112, R114, R115, R119) -/

theorem judgeFan_judged (ctx : FanCtx) (f : FanDrive) : FanJudged ctx f (judgeFan ctx f) := by
  cases state : f.state with
  | running =>
    simp only [FanJudged, judgeFan, state]
    split <;> rfl
  | starting | stopping =>
    simp only [FanJudged, judgeFan, state]
    split <;> rfl
  | stopped | restartWait | failed => simp only [FanJudged, judgeFan, state]

/-- A fan's drive after a notice of a channel. -/
def fanNoticed (c : Fin 16) (s : State) (a : Fin 64) : Drive :=
  if provesOn c (s.record a) then fanActed s a fanChannel else s.drive a

theorem handChannel_drives (c : Fin 16) (w : Work) :
    (∃ ds ps, (handChannel c w).st = { w.st with drives := ds, ports := ps }) ∧
      ∀ a, (handChannel c w).st.drive a = fanNoticed c w.st a := by
  obtain ⟨frame, drives⟩ := foldl_drives
    (f := fun w a => if provesOn c (w.st.record a) then fanEvent a fanChannel w else w) (new := fanNoticed c)
    (fun w a => by
      unfold fanNoticed
      split
      · exact fanEvent_st a fanChannel w
      · exact ⟨w.st.ports, by rw [State.set_drive]⟩)
    (fun s ds ps a same => by
      unfold fanNoticed fanActed
      rw [same]
      rfl)
    (List.finRange 64) (List.nodup_finRange 64) w
  exact ⟨frame, fun a => (drives a).trans (if_pos (List.mem_finRange a))⟩

theorem fanNoticed_other {c : Fin 16} {s : State} {a : Fin 64} (other : provesOn c (s.record a) = false) :
    fanNoticed c s a = s.drive a :=
  if_neg (by rw [other]; nofun)

/-- A fan that proves on a channel takes its notice (R112). -/
theorem fanNoticed_judged {c : Fin 16} {s : State} {a : Fin 64} {f : FanDrive} {ctx : FanCtx} (drive : s.drive a = .fan f)
    (hctx : s.fanCtx a = some ctx) (proves : ctx.definition.pressure.map (·.channel) = some c) :
    ∃ f', fanNoticed c s a = .fan f' ∧
      FanJudged ctx { f with proofUnavailable := (s.channel c).status != .valid } f' := by
  have record := fanCtx_record hctx
  have noticed : fanNoticed c s a = .fan (fanChannel ctx f) := by
    rw [fanNoticed, if_pos (by simp [provesOn, record, proves]), fanActed, drive, hctx]
  have unavailable : proofUnavailable (ctx.channel.map (·.1)) = ((s.channel c).status != .valid) := by
    obtain ⟨p, pressure, rfl⟩ := Option.map_eq_some_iff.1 proves
    simp only [fanCtx_channel hctx, pressure, Option.map_some, proofUnavailable]
  refine ⟨_, noticed, ?_⟩
  rw [fanChannel, unavailable]
  exact judgeFan_judged ctx _

/-! ## The gates that a channel opens (R64) -/

/-- A zone's GATED stage is issued at a notice of a channel: its gate names the channel and holds, and no flag blocks the zone. -/
def GateOpens (s : State) (c : Fin 16) (z : Fin 24) (cs : CurrentStage) : Prop :=
  z ∈ s.activation ∧ (s.zone z).stage = some cs ∧ cs.phase = .gated ∧ (s.zone z).held = false ∧ (s.zone z).suspended = false ∧
    ∃ g, (s.stageOf cs).gate = some g ∧ g.channel = c ∧ GateHolds g (s.channel c)

theorem judgeGate_opens {c : Fin 16} {w : Work} {z : Fin 24} {cs : CurrentStage} (opens : GateOpens w.st c z cs) :
    judgeGate c w z = issueStage z cs false w := by
  obtain ⟨-, stage, gated, free, going, g, gate, channel, holds⟩ := opens
  have unblocked : (w.st.zone z).blocked = false := by simp [ZoneRecord.blocked, free, going]
  simp only [judgeGate, stage, gate]
  rw [if_pos ⟨gated, unblocked⟩, if_pos ⟨channel, (gateTrue_iff ..).2 holds⟩]

theorem judgeGate_shut {c : Fin 16} {w : Work} {z : Fin 24} (active : z ∈ w.st.activation) (shut : ∀ cs, ¬ GateOpens w.st c z cs) :
    judgeGate c w z = w := by
  unfold judgeGate
  dsimp only
  split
  · rfl
  · rename_i cs stage
    split
    · rename_i waits
      obtain ⟨gated, unblocked⟩ := waits
      rw [ZoneRecord.blocked, Bool.or_eq_false_iff] at unblocked
      split
      · rfl
      · rename_i g gate
        rw [if_neg]
        rintro ⟨channel, holds⟩
        exact shut cs ⟨active, stage, gated, unblocked.1, unblocked.2, g, gate, channel, (gateTrue_iff ..).1 holds⟩
    · rfl

theorem IssuedStage.not_gated {now : Nat} {sd : StageDef} {cs x : CurrentStage} {mark : Bool} (h : IssuedStage now sd cs mark x) :
    x.phase ≠ .gated := by
  obtain ⟨-, -, -, -, -, -, proving, settling⟩ := h
  by_cases none : sd.settleTime = 0
  · rw [(proving none).1]
    nofun
  · rw [(settling none).1]
    nofun

/-- A zone's record after its gate has been judged. -/
inductive GateJudged (s : State) (c : Fin 16) (z : Fin 24) (r : ZoneRecord) : Prop
  | opened (cs x : CurrentStage) (opens : GateOpens s c z cs) (stage : r.stage = some x)
      (issued : IssuedStage s.now (s.stageOf cs) cs false x) (placed : CommandsPlaced (s.stageOf cs) r)
  | shut (shut : ∀ cs, ¬ GateOpens s c z cs) (same : Remapped (s.zone z) r)

theorem GateJudged.remapped {s : State} {c : Fin 16} {z : Fin 24} {r x : ZoneRecord} (h : GateJudged s c z r) (k : Remapped r x) :
    GateJudged s c z x := by
  cases h with
  | opened cs y opens stage issued placed => exact .opened cs y opens (k.run.stage.trans stage) issued (placed.remapped k)
  | shut shut same => exact .shut shut (same.trans k)

/-- The actuators on which a zone may act as its gate opens. -/
def OpensOn (s : State) (c : Fin 16) (z : Fin 24) (a : Fin 64) : Prop := ∃ cs, GateOpens s c z cs ∧ CommandsOf s cs a

/-- A gate opens alike in a state that the steps of other zones have left. -/
theorem gateOpens_iff {s t : State} {c : Fin 16} {z : Fin 24} (frame : Framed s t) (same : Remapped (s.zone z) (t.zone z))
    (cs : CurrentStage) : GateOpens t c z cs ↔ GateOpens s c z cs := by
  have run := same.run
  unfold GateOpens
  rw [run.stage, run.held, run.suspended]
  obtain ⟨_, _, _, _, rfl⟩ := frame
  exact .rfl

theorem judgeGate_step (s : State) (c : Fin 16) (w : Work) (z : Fin 24) (active : z ∈ s.activation)
    (h : Underway s (OpensOn s c) (GateJudged s c) w.st) :
    ZoneActs z (OpensOn s c z) w.st (judgeGate c w z).st ∧ GateJudged s c z ((judgeGate c w z).st.zone z) := by
  have listed : z ∈ w.st.activation := by
    obtain ⟨_, _, _, _, frame⟩ := h.frame
    rw [frame]
    exact active
  have unchanged : GateJudged s c z (w.st.zone z) → (∀ cs, ¬ GateOpens w.st c z cs) →
      ZoneActs z (OpensOn s c z) w.st (judgeGate c w z).st ∧ GateJudged s c z ((judgeGate c w z).st.zone z) :=
    fun judged shut => by
      rw [judgeGate_shut listed shut]
      exact ⟨.refl .., judged⟩
  have first : Remapped (s.zone z) (w.st.zone z) →
      ZoneActs z (OpensOn s c z) w.st (judgeGate c w z).st ∧ GateJudged s c z ((judgeGate c w z).st.zone z) := fun same => by
    by_cases opens : ∃ cs, GateOpens s c z cs
    · obtain ⟨cs, opens⟩ := opens
      have acts := zoneActs_issueStage z cs false w
      obtain ⟨⟨x, stage, issued⟩, placed, -⟩ := issueStage_issued z cs false w
      rw [h.frame.stageOf] at issued placed
      rw [h.frame.now] at issued
      rw [judgeGate_opens ((gateOpens_iff h.frame same cs).2 opens)]
      refine ⟨acts.mono ?_, .opened cs x opens stage issued placed⟩
      rintro a ⟨d, mem, actuator⟩
      rw [h.frame.stageOf] at mem
      exact ⟨cs, opens, d, mem, actuator⟩
    · have shut := not_exists.1 opens
      exact unchanged (.shut shut same) fun cs => by rw [gateOpens_iff h.frame same]; exact shut cs
  rcases h.zones z with same | judged
  · exact first same
  · cases judged with
    | opened cs x opens stage issued placed =>
      refine unchanged (.opened cs x opens stage issued placed) fun y again => issued.not_gated ?_
      obtain ⟨-, found, gated, -⟩ := again
      rw [stage] at found
      rwa [Option.some.inj found]
    | shut shut same => exact first same

theorem judgeGates (c : Fin 16) (w : Work) :
    Underway w.st (OpensOn w.st c) (GateJudged w.st c) (w.st.activation.foldl (judgeGate c) w).st ∧
      ∀ z, GateJudged w.st c z ((w.st.activation.foldl (judgeGate c) w).st.zone z) := by
  obtain ⟨all, each⟩ := Underway.foldl (fun _ _ _ judged same => judged.remapped same) w.st.activation
    (fun v z active => judgeGate_step w.st c v z active) (.start w.st)
  refine ⟨all, fun z => ?_⟩
  rcases all.zones z with same | judged
  · by_cases active : z ∈ w.st.activation
    · exact each z (.inl active)
    · exact .shut (fun cs opens => active opens.1) same
  · exact judged

/-! ## A conversion (R138, R139, R142, R143) -/

theorem pushCode_eq {window : List Nat} (short : window.length ≤ 4) (code : Nat) :
    pushCode window code = if window.length < 4 then window ++ [code] else window.tail ++ [code] := by
  unfold pushCode windowSize
  split
  · rename_i room
    have none : (window ++ [code]).length - 4 = 0 := by
      rw [List.length_append, List.length_singleton]
      omega
    simp only [none, List.drop_zero]
  · rename_i full
    have one : (window ++ [code]).length - 4 = 1 := by
      rw [List.length_append, List.length_singleton]
      omega
    have some : window ≠ [] := fun empty => full (by simp [empty])
    simp only [one, List.drop_one, List.tail_append_of_ne_nil some]

/-- The state with a channel judged at a conversion, before its notice is handed on. -/
def converted (c : Fin 16) (code : BitVec 10) (s : State) : State :=
  { s with
    scan := s.scan + 1
    channels := s.channels.set c
      (judgeChannel s.plant.scalings[c] { s.channel c with window := pushCode (s.channel c).window code.toNat }) }

theorem converted_channel (c : Fin 16) (code : BitVec 10) (s : State) :
    (converted c code s).channel c =
      judgeChannel s.plant.scalings[c] { s.channel c with window := pushCode (s.channel c).window code.toNat } := by
  simp [converted, State.channel]

theorem converted_channel_other {c k : Fin 16} (other : k ≠ c) (code : BitVec 10) (s : State) :
    (converted c code s).channel k = s.channel k := by
  have differs : (c : Nat) ≠ k := fun e => other (Fin.ext e.symm)
  simp [converted, State.channel, differs]

theorem channelChanged_iff (old new : Channel) :
    channelChanged old new = true ↔ new.status ≠ old.status ∨ new.value ≠ old.value := by
  simp [channelChanged, ne_comm]

theorem takeConversion_scanned (c : Fin 16) (code : BitVec 10) (s : State) :
    takeConversion c code { s with scan := s.scan + 1 } =
      if channelChanged (s.channel c) ((converted c code s).channel c) then
        settled (channelNotice c (Work.start (converted c code s)))
      else converted c code s := by
  rw [converted_channel]
  rfl

/-- The scan goes on to the place after a channel's. -/
theorem scan_next {c : Fin 16} {s : State} (here : s.scan = c.castSucc) : (s.scan + 1).val = c.val + 1 := by
  rw [here, Fin.coeSucc_eq_succ, Fin.val_succ]

/-- The gates that a notice of a channel opens are those that hold as it comes, for the fans judged before them touch no zone. -/
theorem channelNotice_opens (c : Fin 16) (s : State) :
    let v := (handChannel c (Work.start s)).st
    let t := (channelNotice c (Work.start s)).st
    Framed s t ∧
      (∀ a, (∀ z cs, GateOpens s c z cs → ∀ x ∈ (s.stageOf cs).commands, x.actuator ≠ a) →
        t.drive a = v.drive a ∧ t.claimList a = s.claimList a) ∧
      ∀ z,
        (∀ cs, GateOpens s c z cs → ∃ x, (t.zone z).stage = some x ∧ IssuedStage s.now (s.stageOf cs) cs false x ∧
          CommandsPlaced (s.stageOf cs) (t.zone z)) ∧
        ((∀ cs, ¬ GateOpens s c z cs) → (t.zone z).stage = (s.zone z).stage) := by
  intro v t
  obtain ⟨⟨ds, ps, fans⟩, -⟩ := handChannel_drives c (Work.start s)
  obtain ⟨all, gates⟩ := judgeGates c (handChannel c (Work.start s))
  have judged : v = { s with drives := ds, ports := ps } := fans
  change Underway v (OpensOn v c) (GateJudged v c) t at all
  change ∀ z, GateJudged v c z (t.zone z) at gates
  clear_value v t
  subst judged
  refine ⟨.trans ⟨_, _, _, _, rfl⟩ all.frame, fun a outside => ?_, fun z => ?_⟩
  · obtain ⟨list, drive⟩ := all.elsewhere a fun z ⟨cs, opens, x, mem, actuator⟩ => outside z cs opens x mem actuator
    exact ⟨drive, list⟩
  · cases gates z with
    | opened cs x opens stage issued placed =>
      refine ⟨fun y again => ?_, fun shut => absurd opens (shut cs)⟩
      obtain ⟨-, found, -⟩ := opens
      obtain ⟨-, found', -⟩ := again
      obtain rfl := Option.some.inj (found.symm.trans found')
      exact ⟨x, stage, issued, placed⟩
    | shut shut same => exact ⟨fun cs opens => absurd opens (shut cs), fun _ => same.run.stage⟩

/-- What a conversion leaves but for its notice: the channel, the scan and nothing else. -/
theorem conversion_end (c : Fin 16) (code : BitVec 10) (s : State) :
    ∃ t, t = takeConversion c code { s with scan := s.scan + 1 } ∧ t.channels = (converted c code s).channels ∧
      t.scan = s.scan + 1 ∧ t.supply = s.supply ∧ t.inputs = s.inputs ∧ t.key = s.key := by
  refine ⟨_, rfl, ?_⟩
  rw [takeConversion_scanned]
  split
  · have kept := (keeps_channelNotice c (Work.start (converted c code s))).trans (keeps_settled _)
    exact ⟨kept.channels, kept.scan, kept.supply, kept.inputs, kept.key⟩
  · exact ⟨rfl, rfl, rfl, rfl, rfl⟩

/-- Settles O51: the channel by `judgeChannel_judged`, its fans by `handChannel_drives`, its gates by `judgeGates`. -/
theorem conversionsAreJudged : Obligations.ConversionsAreJudged := by
  intro c code s power
  have exec_eq : exec (.channelConversion c code) s = .next (atScan c.castSucc (takeConversion c code) s) := event_running power _
  refine ⟨fun elsewhere => by rw [exec_eq, atScan_elsewhere elsewhere], fun here short => ?_⟩
  rw [exec_eq, atScan_here here]
  obtain ⟨t, taken, channels, scan, supply, inputs, key⟩ := conversion_end c code s
  have channel : ∀ k, t.channel k = (converted c code s).channel k := fun k => by rw [State.channel, channels]; rfl
  refine ⟨t, ?_⟩
  intro old new u
  have input : u = converted c code s := by
    dsimp only [u]
    rw [channels, scan]
    rfl
  have judged : ChannelJudged s.plant.scalings[c] { old with window := pushCode old.window code.toNat } new := by
    dsimp only [new]
    rw [channel, converted_channel]
    exact judgeChannel_judged _ _
  have changed := channelChanged_iff old new
  rw [takeConversion_scanned, ← channel] at taken
  refine ⟨congrArg Host.Outcome.next (by rw [taken, takeConversion_scanned, ← channel]), by rw [scan, scan_next here],
    fun k other => by rw [channel, converted_channel_other other], supply, inputs, key, pushCode_eq short _ ▸ judged,
    fun status value => ?_, fun notice => ?_⟩
  · have same : ¬ channelChanged old new = true := by
      rw [changed]
      exact fun differs => differs.elim (absurd status) (absurd value)
    exact taken.trans ((if_neg same).trans input.symm)
  · rw [if_pos (changed.2 notice)] at taken
    have changedTo : u.channel c = new := by rw [input]; exact (channel c).symm
    rw [← input] at taken
    clear_value u new
    obtain ⟨⟨ds, ps, frame⟩, drives⟩ := handChannel_drives c (Work.start u)
    obtain ⟨noticed, elsewhere, gates⟩ := channelNotice_opens c u
    have issues : ∀ z cs, GateOpens u c z cs ↔ (z ∈ s.activation ∧ (s.zone z).stage = some cs ∧ cs.phase = .gated ∧
        (s.zone z).held = false ∧ (s.zone z).suspended = false ∧
        ∃ g, (s.stageOf cs).gate = some g ∧ g.channel = c ∧ GateHolds g new) := fun z cs => by
      rw [← changedTo, input]
      exact .rfl
    refine ⟨(handChannel c (Work.start u)).st, channelNotice c (Work.start u), taken, ⟨ds, ps, frame⟩, noticed, ?_, ?_, ?_,
      fun z => ?_⟩
    · intro a f ctx drive hctx proves
      rw [drives, ← changedTo]
      exact fanNoticed_judged (by rw [input]; exact drive) hctx proves
    · intro a other
      rw [drives, fanNoticed_other (by rw [input]; exact other), input]
      rfl
    · intro a outside
      rw [input] at elsewhere issues ⊢
      exact elsewhere a fun z cs opens => outside z cs ((issues z cs).1 opens)
    · obtain ⟨opened, shut⟩ := gates z
      rw [input] at opened shut issues ⊢
      exact ⟨fun cs opens => opened cs ((issues z cs).2 opens), fun none => shut fun cs opens => none cs ((issues z cs).1 opens)⟩

end Sys2Proof.Machine

end

/-! # The supply's conversions (R77 to R79, R103 to R105, R138, R146 to R148) -/

section

namespace Sys2Proof.Machine

/-! ## What no movement of a damper drive writes -/

/-- What a movement, its suspension and its end leave of a damper drive. -/
structure SameOrders (d x : DamperDrive) : Prop where
  supply : x.supply = d.supply
  target : x.target = d.target
  history : x.history = d.history
  fault : x.fault = d.fault

theorem SameOrders.refl (d : DamperDrive) : SameOrders d d := ⟨rfl, rfl, rfl, rfl⟩

theorem SameOrders.trans {d x y : DamperDrive} (h : SameOrders d x) (k : SameOrders x y) : SameOrders d y :=
  ⟨k.supply.trans h.supply, k.target.trans h.target, k.history.trans h.history, k.fault.trans h.fault⟩

section

variable (ctx : DamperCtx) (d : DamperDrive)

theorem sameOrders_loseTimed : SameOrders d (loseTimed ctx d) := by
  unfold loseTimed
  split <;> exact ⟨rfl, rfl, rfl, rfl⟩

theorem sameOrders_driveFor (side : Side) (ms : Nat) : SameOrders d (driveFor ctx side ms d) := by
  unfold driveFor
  cases ctx.kind <;> exact ⟨rfl, rfl, rfl, rfl⟩

theorem sameOrders_finish (before : DamperDrive) : SameOrders d (damperFinish ctx before d) := by
  obtain ⟨timer, leftFrom, finished⟩ := damperFinish_eq ctx before d
  rw [finished]
  exact ⟨rfl, rfl, rfl, rfl⟩

theorem sameOrders_reversingSupplyLow : SameOrders d (reversingSupplyLow ctx d) := by
  have suspended : ∀ side ms mark, SameOrders d (toSuspended ctx side ms mark d) := fun _ _ _ => ⟨rfl, rfl, rfl, rfl⟩
  unfold reversingSupplyLow
  cases d.state with
  | drivingOpen | drivingClose => exact (suspended ..).trans (sameOrders_loseTimed ..)
  | deadTime | cooldown => exact suspended ..
  | idle | suspended => exact .refl d

theorem sameOrders_springSupplyLow : SameOrders d (springSupplyLow ctx d) := by
  have suspended : SameOrders d { d with state := .suspended, travel := .stopped } := ⟨rfl, rfl, rfl, rfl⟩
  unfold springSupplyLow
  split
  · exact suspended.trans (sameOrders_loseTimed ..)
  · exact .refl d

theorem sameOrders_reversingSupplyOk (deadTime : Nat) : SameOrders d (reversingSupplyOk ctx deadTime d) := by
  unfold reversingSupplyOk
  split_ifs
  · exact ⟨rfl, rfl, rfl, rfl⟩
  · exact sameOrders_driveFor ..
  · exact ⟨rfl, rfl, rfl, rfl⟩
  · exact .refl d

theorem sameOrders_springSupplyOk : SameOrders d (springSupplyOk ctx d) := by
  unfold springSupplyOk
  split_ifs
  · exact ⟨rfl, rfl, rfl, rfl⟩
  · exact sameOrders_driveFor ..
  · exact .refl d

end

/-! ## Damper drives at SUPPLY-LOW (R103, R105) -/

/-- A TIMED position changes with travel alone (R95). -/
theorem judgePosition_timed {ctx : DamperCtx} {d : DamperDrive} (timed : ctx.mode = .timed) (rests : drivingSide d.state = none) :
    judgePosition ctx d = d.position := by
  rw [judgePosition, rests, if_pos timed]
  rfl

/-- A drive that leaves travel for SUSPENDED is so at the end of the event, with a TIMED position UNKNOWN (R95, R103, R105). -/
theorem suspended_finish {ctx : DamperCtx} {d : DamperDrive} (suspended : d.state = .suspended) (before : DamperDrive) :
    ∃ timer leftFrom position kept, (ctx.mode = .timed → position = .unknown) ∧
      damperFinish ctx before (loseTimed ctx d) =
        { d with position := position, keptPosition := kept, leftTimer := timer, leftFrom := leftFrom } := by
  obtain ⟨timer, leftFrom, finished⟩ := damperFinish_eq ctx before (loseTimed ctx d)
  rw [finished]
  by_cases timed : ctx.mode = .timed
  · have lost : loseTimed ctx d = { d with position := .unknown } := if_pos timed
    rw [lost, judgePosition_timed timed (by rw [suspended]; rfl)]
    exact ⟨_, _, _, _, fun _ => rfl, rfl⟩
  · have kept : loseTimed ctx d = d := if_neg timed
    rw [kept]
    exact ⟨_, _, _, _, fun yes => absurd yes timed, rfl⟩

theorem leavesTravel_finish (ctx : DamperCtx) (side : Side) (ms : Nat) (before d : DamperDrive) :
    let after := damperFinish ctx before (loseTimed ctx (toSuspended ctx side ms true d))
    after.state = .suspended ∧ OutputsOff after ∧ after.remembered = some side ∧ after.interrupted = true ∧
      after.travel = .frozen ms ∧ (ctx.mode = .timed → after.position = .unknown) := by
  intro after
  obtain ⟨timer, leftFrom, position, kept, timed, finished⟩ := suspended_finish (ctx := ctx)
    (d := toSuspended ctx side ms true d) rfl before
  simp only [after, finished]
  exact ⟨rfl, ⟨rfl, rfl⟩, rfl, rfl, rfl, timed⟩

theorem leavesPause_finish (ctx : DamperCtx) (side : Side) (ms : Nat) (mark : Bool) (before d : DamperDrive) :
    let after := damperFinish ctx before (toSuspended ctx side ms mark d)
    after.state = .suspended ∧ OutputsOff after ∧ after.deadTimer = none ∧ after.coolTimer = none ∧
      after.remembered = some side ∧ after.interrupted = mark ∧ after.travel = .frozen ms := by
  intro after
  obtain ⟨timer, leftFrom, finished⟩ := damperFinish_eq ctx before (toSuspended ctx side ms mark d)
  simp only [after, finished]
  exact ⟨rfl, ⟨rfl, rfl⟩, rfl, rfl, rfl, rfl, rfl⟩

theorem reversingSupplyLow_driving {ctx : DamperCtx} {d : DamperDrive} {side : Side} (driving : drivingSide d.state = some side) :
    reversingSupplyLow ctx d =
      loseTimed ctx (toSuspended ctx side ((remainingMs ctx.now d.travel).getD ctx.travelLimit) true d) := by
  unfold reversingSupplyLow
  cases state : d.state <;> rw [state] at driving <;> cases driving <;> rfl

theorem reversingSupplyLow_pausing {ctx : DamperCtx} {d : DamperDrive} (pauses : d.state = .deadTime ∨ d.state = .cooldown) :
    reversingSupplyLow ctx d =
      toSuspended ctx (d.lastDirection.getD (d.pending.getD d.target)) ctx.travelLimit d.interrupted d := by
  unfold reversingSupplyLow
  rcases pauses with state | state <;> rw [state]

theorem reversingSupplyLow_resting {ctx : DamperCtx} {d : DamperDrive} (rests : d.state = .idle ∨ d.state = .suspended) :
    reversingSupplyLow ctx d = d := by
  unfold reversingSupplyLow
  rcases rests with state | state <;> rw [state]

theorem springSupplyLow_falls {ctx : DamperCtx} {d : DamperDrive}
    (falls : (d.state = .idle ∧ d.driveOut = true) ∨ (drivingSide d.state).isSome = true) :
    springSupplyLow ctx d = loseTimed ctx { d with state := .suspended, travel := .stopped } := if_pos falls

theorem springSupplyLow_stays {ctx : DamperCtx} {d : DamperDrive}
    (stays : ¬ ((d.state = .idle ∧ d.driveOut = true) ∨ (drivingSide d.state).isSome = true)) : springSupplyLow ctx d = d :=
  if_neg stays

/-- The supply's state as a drive hears of it. -/
def DamperDrive.hears (d : DamperDrive) (supply : SupplyState) : DamperDrive := { d with supply := supply }

theorem DamperDrive.hears_stays (d : DamperDrive) (supply : SupplyState) : Stays d (d.hears supply) := ⟨rfl, rfl, rfl, rfl, rfl⟩

section

variable {ctx : DamperCtx} {deadTime limit : Nat} {fail : Side} (d : DamperDrive)

theorem damperSupplyLow_reversing_eq (kind : ctx.kind = .reversing deadTime limit) :
    damperSupplyLow ctx d = reversingSupplyLow ctx (d.hears .low) := by
  simp only [damperSupplyLow, kind, DamperDrive.hears]

theorem damperSupplyLow_spring_eq (kind : ctx.kind = .spring fail) : damperSupplyLow ctx d = springSupplyLow ctx (d.hears .low) := by
  simp only [damperSupplyLow, kind, DamperDrive.hears]

theorem damperSupplyOk_reversing_eq (kind : ctx.kind = .reversing deadTime limit) :
    damperSupplyOk ctx d = reversingSupplyOk ctx deadTime (d.hears .ok) := by
  simp only [damperSupplyOk, kind, DamperDrive.hears]

theorem damperSupplyOk_spring_eq (kind : ctx.kind = .spring fail) : damperSupplyOk ctx d = springSupplyOk ctx (d.hears .ok) := by
  simp only [damperSupplyOk, kind, DamperDrive.hears]

end

theorem supplyFalls_finish (ctx : DamperCtx) (d : DamperDrive) :
    SupplyFalls ctx d (damperFinish ctx d (damperSupplyLow ctx d)) := by
  cases kind : ctx.kind with
  | reversing deadTime limit =>
    rw [damperSupplyLow_reversing_eq d kind]
    have orders := (sameOrders_reversingSupplyLow ctx (d.hears .low)).trans (sameOrders_finish ctx _ d)
    refine ⟨orders.supply, orders.target, orders.history, ?_⟩
    simp only [kind]
    refine ⟨fun side driving => ?_, fun pauses => ?_, fun rests => ?_⟩
    · rw [reversingSupplyLow_driving (d := d.hears .low) driving]
      obtain ⟨state, outputs, remembered, interrupted, travel, timed⟩ := leavesTravel_finish ctx side
        ((remainingMs ctx.now (d.hears .low).travel).getD ctx.travelLimit) d (d.hears .low)
      have left : ∀ e, d.travel = .running e → remainingMs ctx.now (d.hears .low).travel = some (e - ctx.now) :=
        fun e runs => congrArg (remainingMs ctx.now) runs
      exact ⟨state, outputs, remembered, interrupted, fun e runs => by rw [travel, left e runs, Option.getD_some], timed⟩
    · rw [reversingSupplyLow_pausing (d := d.hears .low) pauses]
      exact leavesPause_finish ctx (d.lastDirection.getD (d.pending.getD d.target)) ctx.travelLimit d.interrupted d (d.hears .low)
    · rw [reversingSupplyLow_resting (d := d.hears .low) rests]
      exact stays_finish _ _ _ (d.hears_stays _)
  | spring fail =>
    rw [damperSupplyLow_spring_eq d kind]
    have orders := (sameOrders_springSupplyLow ctx (d.hears .low)).trans (sameOrders_finish ctx _ d)
    refine ⟨orders.supply, orders.target, orders.history, ?_⟩
    simp only [kind]
    by_cases falls : (d.state = .idle ∧ d.driveOut = true) ∨ (drivingSide d.state).isSome = true
    · rw [springSupplyLow_falls (d := d.hears .low) falls]
      obtain ⟨timer, leftFrom, position, kept, timed, finished⟩ := suspended_finish (ctx := ctx)
        (d := { d.hears .low with state := .suspended, travel := .stopped }) rfl d
      rw [finished]
      exact ⟨rfl, fun _ => ⟨rfl, rfl, timed⟩, fun stays => absurd falls stays⟩
    · rw [springSupplyLow_stays (d := d.hears .low) falls]
      have stays := stays_finish ctx d (d.hears .low) (d.hears_stays _)
      have ⟨_, _, _, _, driveOut⟩ := stays
      exact ⟨driveOut, fun yes => absurd yes falls, fun _ => stays⟩

/-! ## Damper drives at SUPPLY-OK (R104, R105) -/

/-- A suspension that ends at the target leaves the drive IDLE, with a reversing drive's outputs off (R104, R105). -/
theorem toIdle_finish (ctx : DamperCtx) {before d : DamperDrive} (same : d.driveOut = before.driveOut) :
    let after := damperFinish ctx before (toIdle ctx d)
    after.state = .idle ∧ after.travel = .stopped ∧ OutputsFor ctx before after := by
  intro after
  obtain ⟨timer, leftFrom, finished⟩ := damperFinish_eq ctx before (toIdle ctx d)
  simp only [after, finished]
  refine ⟨rfl, rfl, ?_⟩
  unfold OutputsFor
  cases ctx.kind with
  | reversing _ _ => exact ⟨rfl, rfl⟩
  | spring _ => exact same

section

variable {ctx : DamperCtx} {deadTime : Nat} {d : DamperDrive}

theorem reversingSupplyOk_elsewhere (elsewhere : d.state ≠ .suspended) : reversingSupplyOk ctx deadTime d = d := if_neg elsewhere

theorem reversingSupplyOk_proven (suspended : d.state = .suspended) (proven : atTarget ctx d = true) :
    reversingSupplyOk ctx deadTime d = toIdle ctx d := by
  rw [reversingSupplyOk, if_pos suspended, if_pos proven]

theorem reversingSupplyOk_onward {ms : Nat} (suspended : d.state = .suspended) (unproven : ¬ atTarget ctx d = true)
    (onward : d.remembered = some d.target ∧ (d.lastDirection = some d.target ∨ d.lastDirection = none))
    (frozen : d.travel = .frozen ms) : reversingSupplyOk ctx deadTime d = driveFor ctx d.target ms d := by
  rw [reversingSupplyOk, if_pos suspended, if_neg unproven, if_pos onward, frozen]
  rfl

theorem reversingSupplyOk_turns (suspended : d.state = .suspended) (unproven : ¬ atTarget ctx d = true)
    (turns : ¬ (d.remembered = some d.target ∧ (d.lastDirection = some d.target ∨ d.lastDirection = none))) :
    reversingSupplyOk ctx deadTime d = toDeadTime ctx deadTime d.target d.interrupted d := by
  rw [reversingSupplyOk, if_pos suspended, if_neg unproven, if_neg turns]

theorem springSupplyOk_elsewhere (elsewhere : d.state ≠ .suspended) : springSupplyOk ctx d = d := if_neg elsewhere

theorem springSupplyOk_idles (suspended : d.state = .suspended) (idles : atTarget ctx d = true ∨ stoppedByFault d = true) :
    springSupplyOk ctx d = toIdle ctx d := by
  rw [springSupplyOk, if_pos suspended, if_pos (Bool.or_eq_true _ _ ▸ idles)]

theorem springSupplyOk_drives (suspended : d.state = .suspended) (unproven : ¬ atTarget ctx d = true)
    (free : stoppedByFault d = false) : springSupplyOk ctx d = driveFor ctx d.target ctx.travelLimit d := by
  rw [springSupplyOk, if_pos suspended, if_neg (by simp [unproven, free])]
  rfl

end

theorem supplyReturns_finish (ctx : DamperCtx) (d : DamperDrive) :
    SupplyReturns ctx d (damperFinish ctx d (damperSupplyOk ctx d)) := by
  cases kind : ctx.kind with
  | reversing deadTime limit =>
    rw [damperSupplyOk_reversing_eq d kind]
    have orders := (sameOrders_reversingSupplyOk ctx (d.hears .ok) deadTime).trans (sameOrders_finish ctx _ d)
    refine ⟨orders.supply, orders.target, orders.history, orders.fault, fun elsewhere => ?_, fun suspended proven => ?_,
      fun suspended unproven => ?_⟩
    · rw [reversingSupplyOk_elsewhere (d := d.hears .ok) elsewhere]
      exact stays_finish _ _ _ (d.hears_stays _)
    · rw [reversingSupplyOk_proven (d := d.hears .ok) suspended proven]
      exact toIdle_finish ctx rfl
    · simp only [kind]
      refine ⟨fun onward ms frozen => ?_, fun turns => ?_⟩
      · rw [reversingSupplyOk_onward (d := d.hears .ok) suspended unproven onward frozen]
        exact startsToward_finish ..
      · rw [reversingSupplyOk_turns (d := d.hears .ok) suspended unproven turns]
        exact waitsDeadTime_finish ..
  | spring fail =>
    rw [damperSupplyOk_spring_eq d kind]
    have orders := (sameOrders_springSupplyOk ctx (d.hears .ok)).trans (sameOrders_finish ctx _ d)
    refine ⟨orders.supply, orders.target, orders.history, orders.fault, fun elsewhere => ?_, fun suspended proven => ?_,
      fun suspended unproven => ?_⟩
    · rw [springSupplyOk_elsewhere (d := d.hears .ok) elsewhere]
      exact stays_finish _ _ _ (d.hears_stays _)
    · rw [springSupplyOk_idles (d := d.hears .ok) suspended (.inl proven)]
      exact toIdle_finish ctx rfl
    · simp only [kind]
      refine ⟨fun stopped => ?_, fun free => ?_⟩
      · rw [springSupplyOk_idles (d := d.hears .ok) suspended (.inr stopped)]
        obtain ⟨state, travel, -⟩ := toIdle_finish ctx (before := d) (d := d.hears .ok) rfl
        exact ⟨state, travel⟩
      · rw [springSupplyOk_drives (d := d.hears .ok) suspended unproven free]
        exact startsToward_finish ..

/-! ## The supply's reading and its count (R146, R147) -/

theorem supplyReading_rounds (code : BitVec 10) :
    let reading := supplyReading code.toNat
    2 * reading * 1023 ≤ 2 * (code.toNat * 400) + 1023 ∧ 2 * (code.toNat * 400) + 1023 < 2 * (reading + 1) * 1023 ∧
      reading ≤ 400 := by
  intro reading
  have value : reading = (code.toNat * 800 + 1023) / 2046 := rfl
  have bound := code.isLt
  omega

/-- A reading confirms the change of the state that is not the monitor's. -/
def Confirms (m : SupplyMonitor) (reading : Nat) : Prop :=
  (m.state = .ok ∧ reading < 190) ∨ (m.state = .low ∧ 210 ≤ reading)

theorem supplyClass_low_iff (reading : Nat) : supplyClass reading = .lowReading ↔ reading < 190 := by
  unfold supplyClass
  split_ifs <;> simp_all

theorem supplyClass_ok_iff (reading : Nat) : supplyClass reading = .okReading ↔ 210 ≤ reading := by
  unfold supplyClass
  split_ifs <;> simp_all
  omega

section

variable {m : SupplyMonitor} {reading : Nat}

theorem supplyAfter_ends (other : ¬ Confirms m reading) : supplyAfter m reading = { m with count := 0, reading := reading } := by
  unfold Confirms at other
  rw [← supplyClass_low_iff, ← supplyClass_ok_iff] at other
  unfold supplyAfter
  cases state : m.state <;> cases found : supplyClass reading <;> simp_all

theorem supplyAfter_confirms (confirms : Confirms m reading) :
    supplyAfter m reading =
      if m.count + 1 < confirmingReadings then { m with count := m.count + 1, reading := reading }
      else { state := match m.state with | .ok => .low | .low => .ok, count := 0, reading := reading } := by
  rcases confirms with ⟨state, below⟩ | ⟨state, above⟩
  · simp only [supplyAfter, state, (supplyClass_low_iff _).2 below, if_true]
  · simp only [supplyAfter, state, (supplyClass_ok_iff _).2 above, if_true]

/-- The first and the second confirming reading are counted (R147). -/
theorem supplyAfter_counts (confirms : Confirms m reading) (few : m.count < 2) :
    supplyAfter m reading = { m with count := m.count + 1, reading := reading } := by
  have more : m.count + 1 < confirmingReadings := Nat.succ_lt_succ few
  rw [supplyAfter_confirms confirms, if_pos more]

/-- The third confirming reading changes the state (R147). -/
theorem supplyAfter_changes (confirms : Confirms m reading) (third : m.count = 2) :
    (supplyAfter m reading).state ≠ m.state ∧ (supplyAfter m reading).count = 0 := by
  have full : ¬ m.count + 1 < confirmingReadings := by rw [third]; decide
  rw [supplyAfter_confirms confirms, if_neg full]
  cases m.state <;> exact ⟨nofun, rfl⟩

theorem supplyAfter_reading : (supplyAfter m reading).reading = reading := by
  by_cases confirms : Confirms m reading
  · rw [supplyAfter_confirms confirms]
    split <;> rfl
  · rw [supplyAfter_ends confirms]

end

/-! ## The damper drives at a change of the supply (R148) -/

/-- An act of every damper drive, one after another. -/
def damperEvents (act : DamperCtx → DamperDrive → DamperDrive) (w : Work) : Work :=
  (List.finRange 64).foldl (fun w a => damperEvent a act w) w

theorem damperEvents_drives (act : DamperCtx → DamperDrive → DamperDrive) (w : Work) :
    (∃ ds ps, (damperEvents act w).st = { w.st with drives := ds, ports := ps }) ∧
      ∀ a, (damperEvents act w).st.drive a = damperActed w.st a act := by
  obtain ⟨frame, drives⟩ := foldl_drives (f := fun w a => damperEvent a act w) (new := fun s a => damperActed s a act)
    (fun w a => damperEvent_st a act w)
    (fun s ds ps a same => by
      unfold damperActed
      rw [same]
      rfl)
    (List.finRange 64) (List.nodup_finRange 64) w
  exact ⟨frame, fun a => (drives a).trans (if_pos (List.mem_finRange a))⟩

section

variable {s : State} {a : Fin 64} {act : DamperCtx → DamperDrive → DamperDrive}

theorem damperActed_finish {d : DamperDrive} {ctx : DamperCtx} (drive : s.drive a = .damper d) (hctx : s.damperCtx a = some ctx) :
    damperActed s a act = .damper (damperFinish ctx d (act ctx d)) := by
  rw [damperActed, drive, hctx]

theorem damperActed_other (other : ∀ d, s.drive a ≠ .damper d) : damperActed s a act = s.drive a := by
  unfold damperActed
  split
  · rename_i d _ drive _
    exact absurd drive (other d)
  · rfl

end

/-! ## SUPPLY-LOW (R77, R79, R103, R105, R148) -/

/-- A zone's record after SUPPLY-LOW. -/
def suspendedRecord (now : Nat) (r : ZoneRecord) : ZoneRecord :=
  if r.mode = .none ∨ r.suspended = true then r
  else { r with suspended := true, stage := if r.held then r.stage else r.stage.map (freezeStage now) }

theorem suspendZone_writes (s : State) (z : Fin 24) :
    ∃ ps, suspendZone s z = { s with zones := s.zones.set z (suspendedRecord s.now (s.zone z)), ports := ps } := by
  unfold suspendZone suspendedRecord
  dsimp only
  by_cases stays : (s.zone z).mode = .none ∨ (s.zone z).suspended = true
  · rw [if_pos stays, if_pos stays]
    exact ⟨s.ports, by simp [State.zone]⟩
  · rw [if_neg stays, if_neg stays]
    refine ⟨s.raiseFlags.ports, ?_⟩
    have going : (s.zone z).suspended = false := Bool.eq_false_iff.2 fun yes => stays (.inr yes)
    cases held : (s.zone z).held <;>
      simp [ZoneRecord.freeze, ZoneRecord.blocked, held, going, State.setZone, State.raiseFlags]

theorem supplyLowEvent_st (w : Work) :
    (supplyLowEvent w).st = (List.finRange 24).foldl suspendZone (damperEvents damperSupplyLow w).st := by
  rw [supplyLowEvent, Work.map_st, damperEvents]

theorem supplyLowEvent_falls (w : Work) :
    let t := (supplyLowEvent w).st
    (∃ ds zs ps, t = { w.st with drives := ds, zones := zs, ports := ps }) ∧
      (∀ a, t.drive a = damperActed w.st a damperSupplyLow) ∧ ∀ z, t.zone z = suspendedRecord w.st.now (w.st.zone z) := by
  intro t
  have written : t = (List.finRange 24).foldl suspendZone (damperEvents damperSupplyLow w).st := supplyLowEvent_st w
  obtain ⟨⟨ds, ps, dampers⟩, drives⟩ := damperEvents_drives damperSupplyLow w
  obtain ⟨⟨zs, ps', suspended⟩, zones⟩ := foldl_records suspendZone_writes (List.finRange 24) (List.nodup_finRange 24)
    (damperEvents damperSupplyLow w).st
  rw [← written] at suspended zones
  generalize damperEvents damperSupplyLow w = v at dampers drives suspended zones
  clear_value t
  refine ⟨⟨ds, zs, ps', by rw [suspended, dampers]⟩, fun a => ?_, fun z => ?_⟩
  · rw [suspended]
    exact drives a
  · rw [zones z, if_pos (List.mem_finRange z), dampers]
    rfl

/-! ## SUPPLY-OK (R78, R79, R104, R105, R148) -/

theorem supplyOkEvent_eq (w : Work) :
    supplyOkEvent w = (List.finRange 24).foldl suspendedFlag.clearZone (damperEvents damperSupplyOk w) := by
  rw [supplyOkEvent, damperEvents, unsuspendZone_eq]

theorem supplyOkEvent_returns (w : Work) :
    let v := (damperEvents damperSupplyOk w).st
    Underway v (suspendedFlag.ActsOn v) (suspendedFlag.Cleared v) (supplyOkEvent w).st ∧
      ∀ z, suspendedFlag.Cleared v z ((supplyOkEvent w).st.zone z) := by
  rw [supplyOkEvent_eq]
  exact suspendedFlag_lawful.clearZones _

/-- The zones brought forward at SUPPLY-OK are those suspended as it came, for the dampers resumed before them touch no zone. -/
theorem supplyOkEvent_brings (w : Work) :
    let s := w.st
    let v := (damperEvents damperSupplyOk w).st
    let t := (supplyOkEvent w).st
    (∀ a, (∀ z cs, (s.zone z).suspended = true → (s.zone z).held = false → (s.zone z).stage = some cs → cs.phase = .gated →
        ∀ x ∈ (s.stageOf cs).commands, x.actuator ≠ a) → t.drive a = v.drive a ∧ t.claimList a = s.claimList a) ∧
      ∀ z, (t.zone z).suspended = false ∧ (t.zone z).held = (s.zone z).held ∧ (t.zone z).mode = (s.zone z).mode ∧
        (∀ cs, (s.zone z).suspended = true → (s.zone z).held = false → (s.zone z).stage = some cs →
          BroughtForward v z cs (t.zone z)) ∧
        ((s.zone z).suspended = false ∨ (s.zone z).held = true →
          (t.zone z).stage = (s.zone z).stage ∧ (t.zone z).phase = (s.zone z).phase) := by
  intro s v t
  obtain ⟨⟨ds, ps, dampers⟩, -⟩ := damperEvents_drives damperSupplyOk w
  obtain ⟨all, zones⟩ := supplyOkEvent_returns w
  have resumed : v = { s with drives := ds, ports := ps } := dampers
  change Underway v (suspendedFlag.ActsOn v) (suspendedFlag.Cleared v) t at all
  change ∀ z, suspendedFlag.Cleared v z (t.zone z) at zones
  clear_value t v s
  subst resumed
  refine ⟨fun a outside => ?_, fun z => ?_⟩
  · obtain ⟨list, drive⟩ := all.elsewhere a fun z ⟨⟨suspended, held⟩, cs, stage, gated, x, mem, actuator⟩ =>
      outside z cs suspended held stage gated x mem actuator
    exact ⟨drive, list⟩
  · obtain ⟨flag, other, mode, forward, stays⟩ := zones z
    refine ⟨flag, other, mode, fun cs suspended held stage => forward ⟨suspended, held⟩ cs stage, fun blocked => stays ?_⟩
    rintro ⟨suspended, held⟩
    rcases blocked with going | blocked
    · exact absurd (suspended.symm.trans going) nofun
    · exact absurd (blocked.symm.trans held) nofun

/-! ## A conversion of the supply (R138, R146 to R148) -/

section

variable {code : BitVec 10} {s : State}

/-- The state with the supply's reading taken, before a change of its state is handed on. -/
def supplied (code : BitVec 10) (s : State) : State :=
  { s with supply := supplyAfter s.supply (supplyReading code.toNat), scan := 0 }

theorem takeSupply_same (same : (supplied code s).supply.state = s.supply.state) :
    takeSupply code { s with scan := 0 } = supplied code s := by
  simp only [supplied] at same
  cases state : s.supply.state <;> rw [state] at same <;> simp only [takeSupply, state, same, supplied]

theorem takeSupply_low (ok : s.supply.state = .ok) (low : (supplied code s).supply.state = .low) :
    takeSupply code { s with scan := 0 } = settled (supplyLowEvent (Work.start (supplied code s))) := by
  simp only [supplied] at low
  simp only [takeSupply, ok, low]
  rfl

theorem takeSupply_ok (low : s.supply.state = .low) (ok : (supplied code s).supply.state = .ok) :
    takeSupply code { s with scan := 0 } = settled (supplyOkEvent (Work.start (supplied code s))) := by
  simp only [supplied] at ok
  simp only [takeSupply, low, ok]
  rfl

end

/-- What a conversion leaves but for what a change of the supply's state hands on. -/
structure SupplyTaken (code : BitVec 10) (s t : State) : Prop where
  supply : t.supply = (supplied code s).supply
  scan : t.scan = 0
  inputs : t.inputs = s.inputs
  channels : t.channels = s.channels
  activation : t.activation = s.activation

theorem supplyTaken_settled {code : BitVec 10} {s : State} {w : Work} (frame : Framed (supplied code s) w.st) :
    SupplyTaken code s (settled w) := by
  have engine := keeps_settled w
  obtain ⟨_, _, _, _, framed⟩ := frame
  constructor
  · rw [engine.supply, framed]
  · rw [engine.scan, framed]
    rfl
  · rw [engine.inputs, framed]
    rfl
  · rw [engine.channels, framed]
    rfl
  · rw [engine.activation, framed]
    rfl

theorem supplyOkEvent_frame (w : Work) : Framed w.st (supplyOkEvent w).st := by
  obtain ⟨⟨ds, ps, dampers⟩, -⟩ := damperEvents_drives damperSupplyOk w
  have start : Framed w.st (damperEvents damperSupplyOk w).st := ⟨_, _, _, _, dampers⟩
  exact start.trans (supplyOkEvent_returns w).1.frame

theorem takeSupply_taken (code : BitVec 10) (s : State) : SupplyTaken code s (takeSupply code { s with scan := 0 }) := by
  cases before : s.supply.state <;> cases after : (supplied code s).supply.state
  case ok.ok | low.low =>
    rw [takeSupply_same (after.trans before.symm)]
    exact ⟨rfl, rfl, rfl, rfl, rfl⟩
  case ok.low =>
    rw [takeSupply_low before after]
    obtain ⟨⟨ds, zs, ps, frame⟩, -⟩ := supplyLowEvent_falls (Work.start (supplied code s))
    exact supplyTaken_settled ⟨_, _, _, _, frame⟩
  case low.ok =>
    rw [takeSupply_ok before after]
    exact supplyTaken_settled (supplyOkEvent_frame _)

/-- Settles O52: the count by `supplyAfter_counts` and `supplyAfter_changes`, the drives by `supplyFalls_finish` and
`supplyReturns_finish`, the zones by `supplyLowEvent_falls` and `supplyOkEvent_brings`. -/
theorem supplyReadingsAreConfirmed : Obligations.SupplyReadingsAreConfirmed := by
  intro code s power
  have exec_eq : exec (.supplyConversion code) s = .next (atScan 16 (takeSupply code) s) := event_running power _
  refine ⟨fun elsewhere => by rw [exec_eq, atScan_elsewhere elsewhere], fun here _ => ?_⟩
  have next : ({ s with scan := s.scan + 1 } : State) = { s with scan := 0 } := by rw [here]; rfl
  rw [exec_eq, atScan_here here, next]
  have taken := takeSupply_taken code s
  refine ⟨takeSupply code { s with scan := 0 }, ?_⟩
  generalize handed : takeSupply code { s with scan := 0 } = t at taken
  intro reading u confirms
  have input : u = supplied code s := by
    dsimp only [u]
    rw [taken.supply]
    rfl
  have counts : t.supply = supplyAfter s.supply (supplyReading code.toNat) := taken.supply
  have value : reading = supplyReading code.toNat := by
    dsimp only [reading]
    rw [counts, supplyAfter_reading]
  have same : confirms ↔ Confirms s.supply (supplyReading code.toNat) := by rw [← value]; exact .rfl
  clear_value u
  subst input
  obtain ⟨lower, upper, top⟩ := supplyReading_rounds code
  refine ⟨rfl, taken.scan, value ▸ lower, value ▸ upper, value ▸ top, fun other => ?_, fun yes first => ?_, fun yes third => ?_,
    fun unchanged => ?_, fun ok low => ?_, fun low ok => ?_, taken.inputs, taken.channels, taken.activation⟩
  · rw [counts, supplyAfter_ends (mt same.2 other)]
    exact ⟨rfl, rfl⟩
  · rw [counts, supplyAfter_counts (same.1 yes) first]
    exact ⟨rfl, rfl⟩
  · rw [counts]
    exact supplyAfter_changes (same.1 yes) third
  · rw [taken.supply] at unchanged
    exact handed.symm.trans (takeSupply_same unchanged)
  · rw [taken.supply] at low
    obtain ⟨frame, drives, zones⟩ := supplyLowEvent_falls (Work.start (supplied code s))
    refine ⟨supplyLowEvent (Work.start (supplied code s)), handed.symm.trans (takeSupply_low ok low), frame,
      fun a d ctx drive hctx => ?_, fun a other => ?_, zones⟩
    · exact ⟨_, (drives a).trans (damperActed_finish drive hctx), supplyFalls_finish ctx d⟩
    · exact (drives a).trans (damperActed_other other)
  · rw [taken.supply] at ok
    obtain ⟨⟨ds, ps, frame⟩, drives⟩ := damperEvents_drives damperSupplyOk (Work.start (supplied code s))
    obtain ⟨elsewhere, zones⟩ := supplyOkEvent_brings (Work.start (supplied code s))
    refine ⟨(damperEvents damperSupplyOk (Work.start (supplied code s))).st, supplyOkEvent (Work.start (supplied code s)),
      handed.symm.trans (takeSupply_ok low ok), ⟨ds, ps, frame⟩, fun a d ctx drive hctx => ?_, fun a other => ?_,
      (supplyOkEvent_returns _).1.frame, elsewhere, zones⟩
    · exact ⟨_, (drives a).trans (damperActed_finish drive hctx), supplyReturns_finish ctx d⟩
    · exact (drives a).trans (damperActed_other other)

end Sys2Proof.Machine

end

/-! # The timers of a fan and its ramp (R110, R114 to R117, R119, R120, R124, R125) -/

section

namespace Sys2Proof.Machine

/-! ## An event of one drive -/

/-- What an event of one drive leaves to the engine, written as the operations that make it. -/
theorem handNotice_start (a : Fin 64) (before after : Drive) (s : State) :
    handNotice a before after ((Work.start s).map fun s => s.setDrive a after) = driveEnded a before after s := by
  unfold handNotice driveEnded
  by_cases fault : before.fault = after.fault
  · simp only [if_pos fault]
    split <;> rfl
  · simp only [if_neg fault]
    split <;> rfl

theorem fanEvent_start {s : State} {a : Fin 64} {f : FanDrive} {ctx : FanCtx} (drive : s.drive a = .fan f)
    (hctx : s.fanCtx a = some ctx) (act : FanCtx → FanDrive → FanDrive) :
    fanEvent a act (Work.start s) = driveEnded a (.fan f) (.fan (act ctx f)) s := by
  unfold fanEvent
  rw [show (Work.start s).st = s from rfl, drive, hctx]
  exact handNotice_start ..

theorem fanExpiry_runs {s : State} {a : Fin 64} {f : FanDrive} {ctx : FanCtx} {e : Nat} {timer : FanDrive → Option Nat}
    (drive : s.drive a = .fan f) (hctx : (s.reach e).fanCtx a = some ctx) (running : timer f = some e)
    (act : FanCtx → FanDrive → FanDrive) :
    fanExpiry a timer act s = settled (driveEnded a (.fan f) (.fan (act ctx f)) (s.reach e)) := by
  simp only [fanExpiry, drive, running]
  exact congrArg settled (fanEvent_start (s := s.reach e) drive hctx act)

section

variable (ctx : FanCtx) (f : FanDrive)

/-! ## The run output and the faults (R110, R116, R120) -/

/-- INPUT-FAULT keeps the run output on while the target is RUN (R120). -/
theorem latchFan_inputFault : FanInputFailed f (latchFan ctx .inputFault f) := by
  cases run : f.target.isRun <;> cases out : f.runOut <;>
    simp [FanInputFailed, latchFan, failedFan, stopTimers, switchOn, switchOff, run, out]

/-- Any other fault switches the run output off (R120). -/
theorem latchFan_off {kind : FanFault} (other : kind ≠ .inputFault) : latchFan ctx kind f = switchOff (failedFan kind f) :=
  if_neg fun input => other input.1

/-- A failure takes an attempt's wait or the fault (R116). -/
theorem fanFailure_failedOrWaiting {kind : FanFault} (other : kind ≠ .inputFault) :
    FailedOrWaiting ctx kind f (fanFailure ctx kind f) := by
  unfold FailedOrWaiting fanFailure
  by_cases remain : f.attempts < ctx.definition.restartAttempts
  · rw [if_pos remain, if_pos remain]
    exact ⟨rfl, rfl, rfl, rfl, rfl, rfl, rfl, rfl, rfl, rfl, rfl, rfl⟩
  · rw [if_neg remain, if_neg remain, latchFan_off ctx f other]
    exact ⟨rfl, rfl, rfl, rfl, rfl, rfl, rfl, rfl, rfl, rfl, rfl⟩

/-! ## The start proof timer (R114, R116) -/

theorem startProofEnd_shown (shown : ctx.evidence = .noSource ∨ ctx.evidence = .runningShown) :
    startProofEnd ctx f = { f with state := .running, startTimer := none, waiting := false } := by
  unfold startProofEnd
  rcases shown with shown | shown <;> rw [shown] <;> rfl

theorem startProofEnd_fails (shown : ctx.evidence = .stoppedShown) :
    startProofEnd ctx f = fanFailure ctx .failStart { f with startTimer := none } := by
  simp only [startProofEnd, shown]

theorem startProofEnd_undecided (undecided : ctx.evidence = .undecided) :
    startProofEnd ctx f =
      if ctx.inputFaulted = true then latchFan ctx .inputFault { f with startTimer := none }
      else { f with startTimer := none, waiting := true } := by
  simp only [startProofEnd, undecided]

/-- In every case the timer stops, and the target and the attempts stay. -/
theorem startProofEnd_frame :
    (startProofEnd ctx f).startTimer = none ∧ (startProofEnd ctx f).target = f.target ∧
      (startProofEnd ctx f).attempts = f.attempts := by
  cases evidence : ctx.evidence with
  | noSource | runningShown =>
    rw [startProofEnd_shown ctx f (by simp [evidence])]
    exact ⟨rfl, rfl, rfl⟩
  | stoppedShown =>
    rw [startProofEnd_fails ctx f evidence]
    obtain ⟨-, -, -, -, attempts, target, timer, -⟩ :=
      fanFailure_failedOrWaiting ctx { f with startTimer := none } (kind := .failStart) nofun
    exact ⟨timer, target, attempts⟩
  | undecided =>
    rw [startProofEnd_undecided ctx f evidence]
    split
    · obtain ⟨-, -, -, target, attempts, -, timer, -⟩ := latchFan_inputFault ctx { f with startTimer := none }
      exact ⟨timer, target, attempts⟩
    · exact ⟨rfl, rfl, rfl⟩

/-! ## The stop proof timer (R119, R120) -/

theorem stopProofEnd_shown (shown : ctx.evidence = .stoppedShown ∨ ctx.evidence = .noSource) :
    stopProofEnd ctx f = { f with state := .stopped, stopTimer := none, waiting := false } := by
  unfold stopProofEnd
  rcases shown with shown | shown <;> rw [shown] <;> rfl

theorem stopProofEnd_fails (shown : ctx.evidence = .runningShown) :
    stopProofEnd ctx f = switchOff (failedFan .failStop { f with stopTimer := none }) := by
  simp only [stopProofEnd, shown]
  exact latchFan_off ctx _ nofun

theorem stopProofEnd_undecided (undecided : ctx.evidence = .undecided) :
    stopProofEnd ctx f =
      if ctx.inputFaulted = true then latchFan ctx .inputFault { f with stopTimer := none }
      else { f with stopTimer := none, waiting := true } := by
  simp only [stopProofEnd, undecided]

theorem stopProofEnd_frame :
    (stopProofEnd ctx f).stopTimer = none ∧ (stopProofEnd ctx f).target = f.target ∧
      (stopProofEnd ctx f).attempts = f.attempts := by
  cases evidence : ctx.evidence with
  | noSource | stoppedShown =>
    rw [stopProofEnd_shown ctx f (by simp [evidence])]
    exact ⟨rfl, rfl, rfl⟩
  | runningShown =>
    rw [stopProofEnd_fails ctx f evidence]
    exact ⟨rfl, rfl, rfl⟩
  | undecided =>
    rw [stopProofEnd_undecided ctx f evidence]
    split
    · obtain ⟨-, -, -, target, attempts, -, -, timer, -⟩ := latchFan_inputFault ctx { f with stopTimer := none }
      exact ⟨timer, target, attempts⟩
    · exact ⟨rfl, rfl, rfl⟩

/-! ## The restart delay (R110, R115 to R117) -/

/-- The fan as the restart delay starts it, before its evidence is judged (R117). -/
def restartedFan : FanDrive :=
  { switchOn ctx f with
    state := .starting
    attempts := f.attempts + 1
    lastFailure := none
    restartTimer := none
    startTimer := some (ctx.now + tenthsToMs ctx.definition.startProofTime) }

theorem restartDelayEnd_shown (shown : ctx.evidence = .runningShown) :
    restartDelayEnd ctx f = toRunning (restartedFan ctx f) := if_pos shown

theorem restartDelayEnd_starts (other : ctx.evidence ≠ .runningShown) :
    restartDelayEnd ctx f = restartedFan ctx f := if_neg other

/-- Switching the run output on leaves the orders and the fault; an output that was off begins at R 0 (R110). -/
theorem switchOn_frame :
    (switchOn ctx f).target = f.target ∧ (switchOn ctx f).fault = f.fault ∧
      (f.runOut = false → (switchOn ctx f).ramped = 0 ∧ (switchOn ctx f).preload = 0) := by
  unfold switchOn
  split
  · next on => exact ⟨rfl, rfl, fun off => absurd (on.symm.trans off) nofun⟩
  · exact ⟨rfl, rfl, fun _ => ⟨rfl, rfl⟩⟩

theorem restartDelayEnd_frame :
    (restartDelayEnd ctx f).restartTimer = none ∧ (restartDelayEnd ctx f).attempts = f.attempts + 1 ∧
      (restartDelayEnd ctx f).lastFailure = none ∧ (restartDelayEnd ctx f).runOut = true ∧
      (restartDelayEnd ctx f).target = f.target ∧ (restartDelayEnd ctx f).fault = f.fault ∧
      (f.runOut = false → (restartDelayEnd ctx f).ramped = 0 ∧ (restartDelayEnd ctx f).preload = 0) := by
  have out : (switchOn ctx f).runOut = true := switchOn_runOut f
  obtain ⟨target, fault, speeds⟩ := switchOn_frame ctx f
  by_cases shown : ctx.evidence = .runningShown
  · rw [restartDelayEnd_shown ctx f shown]
    exact ⟨rfl, rfl, rfl, out, target, fault, speeds⟩
  · rw [restartDelayEnd_starts ctx f shown]
    exact ⟨rfl, rfl, rfl, out, target, fault, speeds⟩

/-! ## The ramp (R124, R125) -/

/-- A step leaves R as it is where R stands at C, and at a rate of 0. -/
theorem rampToward_eq_self_iff (rate c r : Nat) : rampToward rate c r = r ↔ r = c ∨ rate = 0 := by
  unfold rampToward
  split_ifs <;> omega

/-- Where R is not at C, a step goes up from below C and down from above it. -/
theorem rampToward_of_ne {rate c r : Nat} (apart : r ≠ c) :
    rampToward rate c r = if r < c then min c (r + rate) else max c (r - rate) := by
  unfold rampToward
  by_cases below : r < c
  · rw [if_pos below, if_pos below]
  · have above : c < r := by omega
    rw [if_neg below, if_neg below, if_pos above]

theorem fanRamp_run {sd : SpeedDef} {v : Nat} (speed : ctx.definition.speed = some sd) (run : f.target = .run v) :
    fanRamp ctx f =
      { f with
        rampTimer := some (ctx.now + rampTime)
        ramped := rampToward sd.rate f.clamped f.ramped
        preload :=
          if f.ramped = f.clamped ∨ sd.rate = 0 then f.preload
          else dutyCode (if f.ramped < f.clamped then min f.clamped (f.ramped + sd.rate)
            else max f.clamped (f.ramped - sd.rate)) } := by
  simp only [fanRamp, speed, run]
  by_cases still : f.ramped = f.clamped ∨ sd.rate = 0
  · have same := (rampToward_eq_self_iff ..).2 still
    rw [if_pos same, if_pos still, same]
  · rw [if_neg (mt (rampToward_eq_self_iff ..).1 still), if_neg still,
      rampToward_of_ne (not_or.1 still).1]

theorem fanRamp_idle (idle : ctx.definition.speed = none ∨ ∀ v, f.target ≠ .run v) :
    fanRamp ctx f = { f with rampTimer := some (ctx.now + rampTime) } := by
  unfold fanRamp
  dsimp only
  split
  · next speed run =>
    rcases idle with none | other
    · exact absurd (none.symm.trans speed) nofun
    · exact absurd run (other _)
  · rfl

end

/-- Settles O56: each timer's expiry by `fanExpiry_runs`, and the drive that it leaves by its evidence. -/
theorem fanTimersJudgeTheFan : Obligations.FanTimersJudgeTheFan := by
  intro a f e ctx s power drive hctx
  have exec_eq : ∀ g : State → State, event g s = .next (g s) := event_running power
  have expires : ∀ {timer : FanDrive → Option Nat} (act : FanCtx → FanDrive → FanDrive), timer f = some e →
      event (fanExpiry a timer act) s = .next (settled (driveEnded a (.fan f) (.fan (act ctx f)) (s.reach e))) :=
    fun act running => (exec_eq _).trans (congrArg Host.Outcome.next (fanExpiry_runs drive hctx running act))
  refine ⟨fun running => ?_, fun running => ?_, fun running => ?_, fun running => ?_⟩
  · obtain ⟨timer, target, attempts⟩ := startProofEnd_frame ctx f
    refine ⟨_, expires startProofEnd running, timer, target, attempts, startProofEnd_shown ctx f, fun shown => ?_,
      fun undecided faulted => ?_, fun undecided healthy => ?_⟩
    · rw [startProofEnd_fails ctx f shown]
      exact fanFailure_failedOrWaiting ctx { f with startTimer := none } nofun
    · rw [startProofEnd_undecided ctx f undecided, if_pos faulted]
      obtain ⟨state, fault, out, -⟩ := latchFan_inputFault ctx { f with startTimer := none }
      exact ⟨state, fault, out⟩
    · rw [startProofEnd_undecided ctx f undecided, if_neg (by rw [healthy]; nofun)]
  · obtain ⟨timer, target, attempts⟩ := stopProofEnd_frame ctx f
    refine ⟨_, expires stopProofEnd running, timer, target, attempts, stopProofEnd_shown ctx f, fun shown => ?_,
      fun undecided faulted => ?_, fun undecided healthy => ?_⟩
    · rw [stopProofEnd_fails ctx f shown]
      exact ⟨rfl, rfl, rfl⟩
    · rw [stopProofEnd_undecided ctx f undecided, if_pos faulted]
      obtain ⟨state, fault, out, -⟩ := latchFan_inputFault ctx { f with stopTimer := none }
      exact ⟨state, fault, out⟩
    · rw [stopProofEnd_undecided ctx f undecided, if_neg (by rw [healthy]; nofun)]
  · exact ⟨_, expires runLossEnd running, fanFailure_failedOrWaiting ctx { f with lossTimer := none } nofun⟩
  · obtain ⟨timer, attempts, last, out, target, fault, speeds⟩ := restartDelayEnd_frame ctx f
    refine ⟨_, expires restartDelayEnd running, timer, attempts, last, out, target, fault, speeds, fun shown => ?_,
      fun other => ?_⟩
    · rw [restartDelayEnd_shown ctx f shown]
      exact ⟨rfl, rfl⟩
    · rw [restartDelayEnd_starts ctx f other]
      exact ⟨rfl, rfl⟩

/-- Settles O57: the ramp timer's expiry by `fanExpiry_runs`, and R by `rampToward`. -/
theorem rampStepsMoveTheSpeed : Obligations.RampStepsMoveTheSpeed := by
  intro a f e ctx s power drive hctx running
  have exec_eq : exec (.rampStep a) s = .next (settled (driveEnded a (.fan f) (.fan (fanRamp ctx f)) (s.reach e))) :=
    (event_running power _).trans
      (congrArg Host.Outcome.next (fanExpiry_runs (timer := fun f => f.rampTimer) drive hctx running fanRamp))
  refine ⟨fun sd v speed run => ?_, fun idle => ?_⟩
  · rw [exec_eq, fanRamp_run ctx f speed run]
    rfl
  · rw [exec_eq, fanRamp_idle ctx f idle]
    rfl

end Sys2Proof.Machine

end

/-! # The raw value of a channel (R141) -/

section

namespace Sys2Proof.Machine

theorem roundHalfAway_of_nonneg {num : Int} (den : Nat) (nonneg : 0 ≤ num) :
    roundHalfAway num den = (((2 * num.natAbs + den) / (2 * den) : Nat) : Int) :=
  if_neg nonneg.not_gt

/-- Rounding is symmetric in the sign, so that a half goes away from zero on both sides. -/
theorem roundHalfAway_of_neg {num : Int} (den : Nat) (neg : num < 0) :
    roundHalfAway num den = -roundHalfAway (-num) den := by
  rw [roundHalfAway_of_nonneg den (Int.neg_nonneg_of_nonpos neg.le), Int.natAbs_neg]
  exact if_pos neg

/-- The quotient of a numerator not below zero is nearest, and a half goes up. -/
theorem roundHalfAway_nearest_of_nonneg {num : Int} {den : Nat} (pos : 0 < den) (nonneg : 0 ≤ num) :
    2 * num - den < 2 * roundHalfAway num den * den ∧ 2 * roundHalfAway num den * den ≤ 2 * num + den := by
  obtain ⟨n, rfl⟩ := Int.eq_ofNat_of_zero_le nonneg
  rw [roundHalfAway_of_nonneg den nonneg, Int.natAbs_natCast]
  have low : (2 * n + den) / (2 * den) * (2 * den) ≤ 2 * n + den := Nat.div_mul_le_self _ _
  have high : 2 * n + den < (2 * n + den) / (2 * den) * (2 * den) + 2 * den :=
    Nat.lt_div_mul_add (Nat.mul_pos two_pos pos)
  generalize (2 * n + den) / (2 * den) = k at low high
  zify at low high
  constructor <;> linarith only [low, high]

/-- The quotient of a numerator below zero is nearest, and a half goes down. -/
theorem roundHalfAway_nearest_of_neg {num : Int} {den : Nat} (pos : 0 < den) (neg : num < 0) :
    2 * num - den ≤ 2 * roundHalfAway num den * den ∧ 2 * roundHalfAway num den * den < 2 * num + den := by
  obtain ⟨low, high⟩ := roundHalfAway_nearest_of_nonneg pos (Int.neg_nonneg_of_nonpos neg.le)
  rw [roundHalfAway_of_neg den neg]
  constructor <;> linarith only [low, high]

theorem rawValue_sub_elo (sc : Scaling) (avg : Nat) :
    rawValue sc avg - sc.elo = roundHalfAway (((avg : Int) - sc.clo) * (sc.ehi - sc.elo)) (sc.chi - sc.clo) :=
  add_sub_cancel_left _ _

/-- Settles O18: the quotient by `roundHalfAway_nearest_of_nonneg` and `roundHalfAway_nearest_of_neg`. -/
theorem rawValueRoundsHalfAwayFromZero : Obligations.RawValueRoundsHalfAwayFromZero := by
  intro sc avg span
  rw [rawValue_sub_elo, ← Int.natCast_sub span.le]
  have pos : 0 < sc.chi - sc.clo := Nat.sub_pos_of_lt span
  exact ⟨roundHalfAway_nearest_of_nonneg pos, roundHalfAway_nearest_of_neg pos⟩

end Sys2Proof.Machine

end

/-! # Stand-down stays OFF but for a STAND-DOWN of the Override Line (R156, R163, R167) -/

section

namespace Sys2Proof.Machine

/-- Stand-down is OFF. -/
def StandDownOff (s : State) : Prop := s.standDown = false

theorem StandDownOff.keeps {s t : State} (h : StandDownOff s) (kept : Keeps s t) : StandDownOff t := kept.standDown.trans h

/-- The engine after an event's operations sets no stand-down. -/
theorem StandDownOff.settled {s : State} {f : Work → Work} (h : StandDownOff (f (Work.start s)).st) :
    StandDownOff (runEvent s f) := h.keeps (keeps_runEvent s f)

theorem StandDownOff.run {s : State} {f : Work → Work} (h : StandDownOff s) (kept : ∀ w, Keeps w.st (f w).st) :
    StandDownOff (runEvent s f) := StandDownOff.settled (StandDownOff.keeps h (kept (Work.start s)))

/-! ## An event's operations -/

section

variable {w : Work} (h : StandDownOff w.st)
include h

theorem StandDownOff.endInstance (z : Fin 24) (why : EndReason) : StandDownOff (endInstance z why w).st := by
  obtain ⟨⟨_, _, _, _, frame⟩, -⟩ := endInstance_effect z why w
  rw [frame]
  exact h

theorem StandDownOff.applySector (sec : Sector) : StandDownOff (applySector sec w).st := by
  obtain ⟨_, _, _, _, _, _, _, _, _, frame⟩ := applySector_frame sec w
  rw [frame]
  exact h

theorem StandDownOff.storeEmptied : StandDownOff (storeEmptied w).st := by
  obtain ⟨_, _, _, _, _, _, _, _, _, frame⟩ := storeEmptied_frame w
  rw [frame]
  exact h

/-- An alarm may release stand-down; it sets none (R158). -/
theorem StandDownOff.startFire (p : Panel) (z : Fin 24) : StandDownOff (startFire p z w).st := by
  obtain ⟨-, -, -, down⟩ := alarmReady_effect w
  have still : ¬ (alarmReady w).st.standDown = true := fun set => absurd (h.symm.trans (down.1 set).1) nofun
  exact Bool.eq_false_iff.2 still

theorem StandDownOff.supplyLowEvent : StandDownOff (supplyLowEvent w).st := by
  obtain ⟨⟨_, _, _, frame⟩, -⟩ := supplyLowEvent_falls w
  rw [frame]
  exact h

theorem StandDownOff.supplyOkEvent : StandDownOff (supplyOkEvent w).st := by
  obtain ⟨_, _, _, _, frame⟩ := supplyOkEvent_frame w
  rw [frame]
  exact h

theorem StandDownOff.stageAct {z : Fin 24} {cs : CurrentStage} {act : Work → Work} (k : StageAct z cs act) :
    StandDownOff (act w).st := by
  cases k with
  | settle => exact h
  | window => exact h.keeps (keeps_expireWindow _ _ _)
  | gateWait => exact h.keeps (keeps_issueStage _ _ _ _)

end

theorem standDownOff_coldStart (cause : StartCause) (s : State) : StandDownOff (coldStart cause s) := by
  obtain ⟨-, -, -, -, -, -, -, off, -⟩ := coldStart_startedCold cause s
  exact off

/-- Only the Override Line may send a STAND-DOWN (R167). -/
theorem lineMaySend_standDown (l : Line) : lineMaySend l 0x22 = (l == .override) := by
  cases l <;> decide

/-! ## The requests other than STAND-DOWN -/

section

variable {s : State} (h : StandDownOff s)
include h

theorem StandDownOff.readSummary (l : Line) (page : Byte) : StandDownOff (takeReadSummary l page s).1 := by
  unfold takeReadSummary
  split
  · exact h
  · dsimp only
    split <;> exact h

theorem StandDownOff.readZone (zone part : Byte) : StandDownOff (takeReadZone zone part s).1 := by
  unfold takeReadZone
  split
  · exact h
  · split <;> exact h

theorem StandDownOff.readActuator (a : Byte) : StandDownOff (takeReadActuator a s).1 := by
  unfold takeReadActuator
  split <;> exact h

theorem StandDownOff.zoneAlarm (p : Panel) (zone : Byte) : StandDownOff (takeZoneAlarm p zone s).1 := by
  have starts : ∀ z, StandDownOff (runEvent s (Machine.startFire p z)) := fun z =>
    StandDownOff.settled (StandDownOff.startFire h p z)
  unfold takeZoneAlarm
  split
  · exact h
  · split
    · exact h
    · unfold alarmZone
      split
      · split <;> exact h
      · exact starts _
      · exact starts _

theorem StandDownOff.endFire (p : Panel) (z : Fin 24) : StandDownOff (runEvent s (endFire p z)) := by
  have reset : StandDownOff ((Work.start s).map fun s => s.setZone z ((s.zone z).setSource p false)).st := h
  exact StandDownOff.settled (reset.endInstance z .ended).storeEmptied

theorem StandDownOff.zoneReset (p : Panel) (zone : Byte) : StandDownOff (takeZoneReset p zone s).1 := by
  unfold takeZoneReset
  split
  · exact h
  · unfold resetZone
    dsimp only
    split
    · exact h
    · split
      · exact h
      · dsimp only [zoneReply]
        exact h.endFire p _

theorem StandDownOff.overrideSet (a k : Byte) (v : Half) : StandDownOff (takeOverrideSet a k v s).1 := by
  have placed : ∀ a cmd, StandDownOff (runEventWith s (placeOverride a cmd)).1 := fun a cmd => by
    have claim : StandDownOff (placeOverride a cmd (Work.start s)).1.st :=
      (keeps_placeOp a .override cmd (Work.start s)).standDown.trans h
    exact claim.keeps (keeps_runEventWith s _)
  unfold takeOverrideSet
  split
  · exact h
  · split
    · exact h
    · split
      · exact h
      · split
        · exact h
        · exact placed _ _

theorem StandDownOff.releaseAll (l : List (Fin 64)) : StandDownOff (runEvent s (releaseAll l)) := by
  have withdrawn : StandDownOff (l.foldl (fun w a => withdrawOp a .override w) (Work.start s)).st :=
    h.keeps (keeps_foldl_work _ (fun w a => keeps_withdrawOp a .override w) l (Work.start s))
  exact StandDownOff.settled (StandDownOff.storeEmptied (w := Work.map _ _) withdrawn)

theorem StandDownOff.releaseOne (a : Fin 64) : StandDownOff (runEvent s (releaseOne a)) := by
  have withdrawn : StandDownOff (withdrawOp a .override (Work.start s)).st := h.keeps (keeps_withdrawOp a .override (Work.start s))
  refine StandDownOff.settled ?_
  rw [releaseOne_eq]
  exact StandDownOff.storeEmptied (w := Work.map _ _) withdrawn

theorem StandDownOff.overrideRelease (a : Byte) : StandDownOff (takeOverrideRelease a s).1 := by
  unfold takeOverrideRelease
  split
  · unfold takeReleaseAll
    split
    · exact h
    · exact h.releaseAll _
  · unfold takeReleaseOne
    split
    · exact h
    · split
      · exact h.releaseOne _
      · exact h

theorem StandDownOff.resume : StandDownOff (takeResume s).1 := by
  rw [takeResume_off h]
  exact h

theorem StandDownOff.faultClear (l : Line) (a : Byte) : StandDownOff (takeFaultClear l a s).1 := by
  have cleared : ∀ a, StandDownOff (runEvent s (clearFault a)) := fun a =>
    h.run fun w => (keeps_damperEvent a _ w).trans (keeps_fanEvent a _ _)
  unfold takeFaultClear
  split
  · exact h
  · split
    · exact h
    · exact cleared _

theorem StandDownOff.placeNormal (a : Fin 64) (c : Command) : StandDownOff (runEventWith s (placeNormal a c)).1 := by
  have cleared : StandDownOff ((Work.start s).map (clearNormalShed a)).st := h
  exact cleared.keeps ((keeps_placeOp a .normal c _).trans (keeps_runEventWith s (Machine.placeNormal a c)))

theorem StandDownOff.normalSet (a k : Byte) (v : Half) : StandDownOff (takeNormalSet a k v s).1 := by
  unfold takeNormalSet
  split
  · exact h
  · split
    · exact h
    · split
      · exact h
      · exact h.placeNormal _ _

theorem StandDownOff.normalRelease (a : Byte) : StandDownOff (takeNormalRelease a s).1 := by
  have withdrawn : ∀ a, StandDownOff (runEvent s fun w => withdrawOp a .normal (w.map (clearNormalShed a))) := fun a =>
    h.run fun w => Keeps.trans (keeps_setList w.st a _) (keeps_withdrawOp a .normal (w.map (clearNormalShed a)))
  unfold takeNormalRelease
  split
  · exact h
  · dsimp only
    split
    · exact withdrawn _
    · split <;> exact h

theorem StandDownOff.applyPairs (pairs : List (Fin 64 × Command)) (placed : List (Fin 64 × Placing)) :
    StandDownOff (pairs.foldl applyPair (s, placed)).1 := by
  induction pairs generalizing s placed with
  | nil => exact h
  | cons x pairs ih => exact ih (h.placeNormal x.1 x.2) _

theorem StandDownOff.normalGroup (body : List Byte) : StandDownOff (takeNormalGroup body s).1 := by
  unfold takeNormalGroup
  split
  · exact h
  · split
    · exact h
    · split
      · exact h
      · split
        · exact h
        · split
          · exact h
          · exact h.applyPairs _ []

theorem StandDownOff.testStart (zone reason : Byte) : StandDownOff (takeTestStart zone reason s).1 := by
  have starts : ∀ z why, StandDownOff (runEvent s (startTest z why)) := fun z why => StandDownOff.settled h
  unfold takeTestStart
  split
  · exact h
  · split
    · exact h
    · split
      · exact h
      · split
        · exact h
        · split
          · exact starts _ _
          · exact h

theorem StandDownOff.endTest (z : Fin 24) : StandDownOff (runEvent s (endTest z)) :=
  StandDownOff.settled (StandDownOff.endInstance (w := Work.start s) h z .ended).storeEmptied

theorem StandDownOff.testEnd (zone : Byte) : StandDownOff (takeTestEnd zone s).1 := by
  unfold takeTestEnd
  split
  · exact h
  · split
    · dsimp only
      exact h.endTest _
    · exact h
    · exact h

theorem StandDownOff.configRead (body : List Byte) : StandDownOff (takeConfigRead body s).1 := by
  unfold takeConfigRead
  split <;> exact h

theorem StandDownOff.configWrite (body : List Byte) : StandDownOff (takeConfigWrite body s).1 := by
  obtain e | ⟨_, _, e⟩ := takeConfigWrite_cases body s
  · rwa [e]
  · rw [e]
    exact h

theorem StandDownOff.startWrite (sec : Sector) (img : Image) : StandDownOff (startWrite sec img s) := by
  unfold Machine.startWrite
  dsimp only
  split <;> exact h

theorem StandDownOff.configActivate (body : List Byte) : StandDownOff (takeConfigActivate body s).1 := by
  obtain e | ⟨_, _, e⟩ | ⟨sec, img, -, -, e⟩ := takeConfigActivate_cases body s
  · rwa [e]
  · rw [e]
    exact h
  · rw [e]
    exact h.startWrite sec _

theorem StandDownOff.restart : StandDownOff (takeRestart s).1 := by
  unfold takeRestart
  split <;> exact h

/-! ## Frames and bytes -/

theorem StandDownOff.oneByte (body : List Byte) {take : Byte → State → State × Reply} (k : ∀ a, StandDownOff (take a s).1) :
    StandDownOff (oneByte body take s).1 := by
  unfold Machine.oneByte
  split
  · exact k _
  · exact h

theorem StandDownOff.twoBytes (body : List Byte) {take : Byte → Byte → State → State × Reply}
    (k : ∀ a b, StandDownOff (take a b s).1) : StandDownOff (twoBytes body take s).1 := by
  unfold Machine.twoBytes
  split
  · exact k _ _
  · exact h

theorem StandDownOff.commandBytes (body : List Byte) {take : Byte → Byte → Half → State → State × Reply}
    (k : ∀ a c v, StandDownOff (take a c v s).1) : StandDownOff (commandBytes body take s).1 := by
  unfold Machine.commandBytes
  split
  · exact k _ _ _
  · exact h

theorem StandDownOff.fromPanel (l : Line) {take : Panel → State → State × Reply} (k : ∀ p, StandDownOff (take p s).1) :
    StandDownOff (fromPanel l take s).1 := by
  unfold Machine.fromPanel
  split
  · exact k _
  · exact h

/-- Every row of R167's table but STAND-DOWN's. -/
theorem StandDownOff.handOver (l : Line) {kind : Byte} (body : List Byte) (other : kind ≠ 0x22) :
    StandDownOff (handOver l kind body s).1 := by
  unfold Machine.handOver
  rw [if_neg other]
  refine CommandRule.ite_first h ?_
  refine CommandRule.ite_first (h.oneByte body (h.readSummary l)) ?_
  refine CommandRule.ite_first (h.twoBytes body h.readZone) ?_
  refine CommandRule.ite_first (h.oneByte body h.readActuator) ?_
  refine CommandRule.ite_first (h.fromPanel l fun p => h.oneByte body (h.zoneAlarm p)) ?_
  refine CommandRule.ite_first (h.fromPanel l fun p => h.oneByte body (h.zoneReset p)) ?_
  refine CommandRule.ite_first (h.commandBytes body h.overrideSet) ?_
  refine CommandRule.ite_first (h.oneByte body h.overrideRelease) ?_
  refine CommandRule.ite_first h.resume ?_
  refine CommandRule.ite_first (h.oneByte body (h.faultClear l)) ?_
  refine CommandRule.ite_first (h.commandBytes body h.normalSet) ?_
  refine CommandRule.ite_first (h.oneByte body h.normalRelease) ?_
  refine CommandRule.ite_first (h.normalGroup body) ?_
  refine CommandRule.ite_first (h.twoBytes body h.testStart) ?_
  refine CommandRule.ite_first (h.oneByte body h.testEnd) ?_
  refine CommandRule.ite_first (h.configRead body) ?_
  refine CommandRule.ite_first (h.configWrite body) ?_
  refine CommandRule.ite_first (h.configActivate body) ?_
  exact h.restart

theorem StandDownOff.dispatch {l : Line} (elsewhere : l ≠ .override) (kind : Byte) (body : List Byte) :
    StandDownOff (dispatch l kind body s).1 := by
  unfold Machine.dispatch
  split
  · exact h
  · split
    · exact h
    · rename_i may
      split
      · exact h
      · refine h.handOver l body fun standDown => may ?_
        rw [standDown, lineMaySend_standDown]
        exact beq_false_of_ne elsewhere

theorem StandDownOff.raiseIfChanged (old new : LineState) : StandDownOff (raiseIfChanged old new s) := by
  rcases raiseIfChanged_cases old new s with same | raised
  · rwa [same]
  · rwa [raised]

theorem StandDownOff.superviseGood (l : Line) : StandDownOff (superviseGood l s) := by
  unfold Machine.superviseGood
  dsimp only
  exact StandDownOff.raiseIfChanged (s := State.setPort _ _ _) h _ _

theorem StandDownOff.judgeFrame {l : Line} (elsewhere : l ≠ .override) (frame : List Byte) :
    StandDownOff (judgeFrame l frame s) := by
  have hunting : StandDownOff (s.setPort l (s.port l).hunt) := h
  unfold Machine.judgeFrame
  dsimp only
  split
  · exact (hunting.superviseGood l).dispatch elsewhere _ _
  · exact hunting

theorem StandDownOff.receiveInFrame {l : Line} (elsewhere : l ≠ .override) (b : Byte) : StandDownOff (receiveInFrame l b s) := by
  unfold Machine.receiveInFrame
  dsimp only
  split
  · exact h
  · split
    · exact h.judgeFrame elsewhere _
    · exact h

/-- What a port receives, on another line than the Override Line or without a byte: in RECEIVING alone can a frame be judged
(R165). -/
theorem StandDownOff.receive {l : Line} {r : Received} (harmless : l ≠ .override ∨ ∀ b, r ≠ .byte b) :
    StandDownOff (receive l r s) := by
  unfold Machine.receive
  split
  · split <;> exact h
  · exact h
  · exact h
  · exact h.receiveInFrame (harmless.resolve_right fun noByte => noByte _ rfl) _
  all_goals exact h

theorem StandDownOff.receiveAll {l : Line} (elsewhere : l ≠ .override) (frame : List Byte) : StandDownOff (receiveAll l frame s) :=
  foldl_keeps (P := StandDownOff) _ (fun _ _ h => h.receive (.inl elsewhere)) frame h

/-! ## The other events -/

theorem StandDownOff.gapExpiry (l : Line) : StandDownOff (gapExpiry l s) := by
  unfold Machine.gapExpiry
  split <;> exact h

theorem StandDownOff.beginAnswer (l : Line) : StandDownOff (beginAnswer l s) := by
  unfold Machine.beginAnswer
  dsimp only
  split <;> exact h

theorem StandDownOff.endAnswer (l : Line) : StandDownOff (endAnswer l s) := by
  unfold Machine.endAnswer
  dsimp only
  split
  · split <;> exact h
  · exact h

theorem StandDownOff.supervisionExpiry (l : Line) : StandDownOff (supervisionExpiry l s) := by
  unfold Machine.supervisionExpiry
  split
  · exact h
  · rename_i e _
    have lost : StandDownOff (lostPort (s.reach e) l) := h
    rw [loseLine_quiet (s := s.reach e) (.inr h)]
    exact lost.raiseIfChanged _ _

theorem StandDownOff.sample (i : Fin 128) (n : Nat) : StandDownOff (takeSample i n s) := by
  unfold takeSample
  dsimp only
  split
  · exact h
  · exact StandDownOff.run h (keeps_handInput i)

theorem StandDownOff.conversion (c : Fin 16) (code : BitVec 10) : StandDownOff (atScan c.castSucc (takeConversion c code) s) := by
  unfold atScan takeConversion
  dsimp only
  split
  · split
    · exact StandDownOff.run h (keeps_channelNotice c)
    · exact h
  · exact h

theorem StandDownOff.supply (code : BitVec 10) : StandDownOff (atScan supplyPlace (takeSupply code) s) := by
  unfold atScan takeSupply
  dsimp only
  split
  · split
    · exact StandDownOff.settled (StandDownOff.supplyLowEvent h)
    · exact StandDownOff.settled (StandDownOff.supplyOkEvent h)
    · exact h
    · exact h
  · exact h

theorem StandDownOff.completeWrite : StandDownOff (completeWrite s) := by
  obtain e | ⟨-, e⟩ | ⟨sec, -, -, ⟨-, e⟩ | ⟨-, e⟩ | ⟨-, -, e⟩ | ⟨-, e⟩⟩ := completeWrite_cases s
  · rwa [e]
  · rw [e]
    exact h
  · rw [e]
    exact h
  · rw [e]
    exact h
  · rw [e]
    exact StandDownOff.applySector (w := Work.start (written sec s)) h sec
  · rw [e]
    exact h

theorem StandDownOff.damperExpiry (a : Fin 64) (timer : DamperDrive → Option Nat) (act : DamperCtx → DamperDrive → DamperDrive) :
    StandDownOff (damperExpiry a timer act s) := by
  unfold Machine.damperExpiry
  split
  · split
    · exact StandDownOff.run h (keeps_damperEvent a act)
    · exact h
  · exact h
  · exact h

theorem StandDownOff.fanExpiry (a : Fin 64) (timer : FanDrive → Option Nat) (act : FanCtx → FanDrive → FanDrive) :
    StandDownOff (fanExpiry a timer act s) := by
  unfold Machine.fanExpiry
  split
  · split
    · exact StandDownOff.run h (keeps_fanEvent a act)
    · exact h
  · exact h
  · exact h

theorem StandDownOff.stageExpiry (z : Fin 24) (phase : StagePhase) (timer : CurrentStage → Timer)
    {act : CurrentStage → Work → Work} (k : ∀ cs, StageAct z cs (act cs)) : StandDownOff (stageExpiry z phase timer act s) := by
  unfold Machine.stageExpiry
  split
  · exact h
  · split
    · split
      · exact StandDownOff.settled (StandDownOff.stageAct h (k _))
      · exact h
    · exact h

/-! ## Power and restarts (R12, R14, R162) -/

theorem StandDownOff.startWarmRestart (cause : WarmCause) : StandDownOff (startWarmRestart cause s) := by
  obtain e | ⟨why, e⟩ := startWarmRestart_cases cause s
  · rwa [e]
  · rw [e]
    obtain ⟨-, e⟩ | ⟨-, e⟩ := beginWarmRestart_cases why s
    · rw [e]
      exact h
    · rw [e]
      exact standDownOff_coldStart _ s

theorem StandDownOff.endWarmRestart : StandDownOff (endWarmRestart s) :=
  StandDownOff.keeps (s := restartedState s) h (keeps_endWarmRestart s)

end

/-! ## Every command -/

theorem StandDownOff.request {l : Line} {kind : Byte} {take : State → State × Reply} {s t : State} (h : StandDownOff s)
    (k : StandDownOff (take s).1) (e : request l kind take s = .next t) : StandDownOff t := by
  unfold Machine.request at e
  obtain rfl := Host.Outcome.next.inj e
  split
  · exact k
  · exact h

theorem StandDownOff.event {f : State → State} {s t : State} (h : StandDownOff s) (k : StandDownOff (f s))
    (e : event f s = .next t) : StandDownOff t := by
  unfold Machine.event whileRunning at e
  obtain rfl := Host.Outcome.next.inj e
  split
  · exact k
  · exact h

/-- Every command but a STAND-DOWN and what the Override Line receives leaves stand-down OFF where it is OFF. -/
theorem StandDownOff.exec {c : Instr} {s t : State} (h : StandDownOff s) (e : exec c s = .next t)
    (noRequest : ∀ option, c ≠ .standDown option) (noFrame : ∀ frame, c ≠ .frameReceived .override frame)
    (noByte : ∀ b, c ≠ .byteReceived .override (.byte b)) : StandDownOff t := by
  cases c with
  | standDown option => exact absurd rfl (noRequest option)
  | frameReceived l frame =>
    have elsewhere : l ≠ .override := fun line => noFrame frame (by rw [line])
    exact h.event (h.receiveAll elsewhere frame) e
  | byteReceived l r =>
    have harmless : l ≠ .override ∨ ∀ b, r ≠ .byte b := by
      by_cases line : l = .override
      · exact .inr fun b byte => noByte b (by rw [line, byte])
      · exact .inl line
    exact h.event (h.receive harmless) e
  | poll l => exact h.request (take := takePoll l) h e
  | readSummary l page => exact h.request (h.readSummary l page) e
  | readZone l z part => exact h.request (h.readZone z part) e
  | readActuator l a => exact h.request (h.readActuator a) e
  | zoneAlarm p z => exact h.request (h.zoneAlarm p z) e
  | zoneReset p z => exact h.request (h.zoneReset p z) e
  | overrideSet a k v => exact h.request (h.overrideSet a k v) e
  | overrideRelease a => exact h.request (h.overrideRelease a) e
  | resume => exact h.request h.resume e
  | faultClear l a => exact h.request (h.faultClear l a) e
  | normalSet a k v => exact h.request (h.normalSet a k v) e
  | normalRelease a => exact h.request (h.normalRelease a) e
  | normalGroup body => exact h.request (h.normalGroup body) e
  | testStart z reason => exact h.request (h.testStart z reason) e
  | testEnd z => exact h.request (h.testEnd z) e
  | configRead body => exact h.request (h.configRead body) e
  | configWrite body => exact h.request (h.configWrite body) e
  | configActivateApply sec => exact h.request (h.configActivate _) e
  | configActivateDiscard sec => exact h.request (h.configActivate _) e
  | restart => exact h.request h.restart e
  | gapTimerExpiry l => exact h.event (h.gapExpiry l) e
  | answerBegin l => exact h.event (h.beginAnswer l) e
  | answerSent l => exact h.event (h.endAnswer l) e
  | supervisionTimerExpiry l => exact h.event (h.supervisionExpiry l) e
  | inputSample i n => exact h.event (h.sample i n) e
  | keyLineSample n => exact h.event (f := takeKeySample n) h e
  | channelConversion ch code => exact h.event (h.conversion ch code) e
  | supplyConversion code => exact h.event (h.supply code) e
  | speedFrameBoundary o => exact h.event (f := takeBoundary o) h e
  | writeCompletion => exact h.event h.completeWrite e
  | travelTimerExpiry a => exact h.event (h.damperExpiry a _ _) e
  | deadTimeExpiry a => exact h.event (h.damperExpiry a _ _) e
  | cooldownExpiry a => exact h.event (h.damperExpiry a _ _) e
  | switchDisagreeExpiry a => exact h.event (h.damperExpiry a _ _) e
  | leftPositionExpiry a => exact h.event (h.damperExpiry a _ _) e
  | startProofExpiry a => exact h.event (h.fanExpiry a _ _) e
  | stopProofExpiry a => exact h.event (h.fanExpiry a _ _) e
  | runLossExpiry a => exact h.event (h.fanExpiry a _ _) e
  | restartDelayExpiry a => exact h.event (h.fanExpiry a _ _) e
  | rampStep a => exact h.event (h.fanExpiry a _ _) e
  | settleExpiry z => exact h.event (h.stageExpiry z _ _ fun _ => .settle) e
  | proofWindowExpiry z => exact h.event (h.stageExpiry z _ _ fun _ => .window) e
  | gateWaitExpiry z => exact h.event (h.stageExpiry z _ _ fun _ => .gateWait) e
  | coldStart =>
    obtain rfl := Host.Outcome.next.inj e
    exact standDownOff_coldStart _ s
  | powerLoss =>
    obtain rfl := Host.Outcome.next.inj e
    exact rfl
  | warmRestartStart cause =>
    obtain rfl := Host.Outcome.next.inj e
    exact h.startWarmRestart cause
  | supervisor =>
    obtain rfl := Host.Outcome.next.inj e
    exact h.startWarmRestart .supervisor
  | warmRestartEnd =>
    obtain rfl := Host.Outcome.next.inj e
    split
    · exact h.endWarmRestart
    · exact h

/-- Settles O10: a command that is none of the three keeps stand-down OFF, by `StandDownOff.exec`. -/
theorem onlyTheOverrideLineSetsStandDown : Obligations.OnlyTheOverrideLineSetsStandDown := by
  intro c s t e off set
  by_contra neither
  simp only [not_or, not_exists] at neither
  obtain ⟨noRequest, noFrame, noByte⟩ := neither
  exact Bool.eq_false_iff.1 (StandDownOff.exec off e noRequest noFrame noByte) set

end Sys2Proof.Machine

end

/-! # The queue, and what stands at a port: an answer, a POLL and the pages of READ-SUMMARY (R166, R169, R176, R178, R179) -/

section

namespace Sys2Proof.Machine

/-! ## The queue -/

theorem step_front {s : State} {c : Instr} {rest : List Instr} (h : s.pending = c :: rest) :
    step s = exec c { s with pending := rest } := by
  simp only [step, h]

theorem step_empty {s : State} (h : s.pending = []) : step s = .next s.tick := by
  simp only [step, h]

/-- Settles O1, by the two cases of the queue. -/
theorem stepTakesTheFrontCommand : Obligations.StepTakesTheFrontCommand :=
  fun _ => ⟨fun _ _ => step_front, step_empty⟩

/-! ## An answer at its port -/

/-- Settles O12: an answer is written at the port of its line, and nowhere else. -/
theorem anAnswerStandsAtItsPort : Obligations.AnAnswerStandsAtItsPort := by
  intro l kind r s
  exact ⟨(s.port l).holding s.now { kind := kind, result := r.result, body := r.body }, rfl,
    State.setPort_port_same .., rfl, rfl, rfl, rfl, rfl, rfl, rfl, rfl, rfl, rfl,
    fun _ other => State.setPort_port_other _ _ other⟩

/-! ## POLL -/

/-- The line states are those of the four ports in the order of the lines (R178). -/
theorem lineStates_eq (s : State) : s.lineStates =
    [(s.port .panelA).line, (s.port .panelB).line, (s.port .override).line, (s.port .building).line] := by
  have ports : s.ports.toList = [s.port .panelA, s.port .panelB, s.port .override, s.port .building] := by
    refine List.ext_getElem (by simp) fun i short _ => ?_
    have place : i < 4 := by simpa using short
    interval_cases i <;> rfl
  rw [State.lineStates, ports]
  rfl

/-- Settles O21: a POLL is answered with its items as they stand. -/
theorem pollShowsTheLine : Obligations.PollShowsTheLine := by
  intro l s takes
  rw [← lineStates_eq]
  exact request_answers takes rfl

/-! ## READ-SUMMARY -/

theorem summaryPage_above (s : State) (l : Line) {page : Nat} (above : 4 < page) : s.summaryPage l page = none := by
  obtain ⟨n, rfl⟩ := Nat.exists_eq_add_of_le' above
  rfl

theorem takeReadSummary_refused {s : State} {page : Byte} (l : Line) (above : 4 < page.toNat) :
    takeReadSummary l page s = refuse s .refusedRange := by
  simp only [takeReadSummary, summaryPage_above s l above]

/-- A page other than page 0 is shown and changes nothing (R176). -/
theorem takeReadSummary_shows {s : State} {l : Line} {page : Byte} {body : AnswerBody} (other : page ≠ 0)
    (shown : s.summaryPage l page.toNat = some body) :
    takeReadSummary l page s = (s, { result := .done, body := body }) := by
  simp only [takeReadSummary, shown, if_neg other]

/-- Page 0 clears this line's change flag after it is shown (R176). -/
theorem takeReadSummary_first (s : State) (l : Line) :
    takeReadSummary l 0 s = (s.clearFlag l, { result := .done, body := .summary (s.summaryView l) }) := rfl

theorem mem_faults (s : State) (a : Fin 64) (f : ActuatorFault) : (a, f) ∈ s.faults ↔ (s.drive a).fault = some f := by
  simp [State.faults]

/-- The input that stands at a place of page 1 or of page 2 (R179). -/
def inputAt (half : Bool) (k : Fin 64) : Fin 128 := if half then k.natAdd 64 else k.castLE (by decide)

/-- The inputs of each page are those that the model's filter leaves, in their order. -/
theorem inputs_of_half (half : Bool) :
    (List.finRange 128).filter (fun i => decide (64 ≤ i.val) == half) = List.ofFn (inputAt half) := by
  have inputs : List.finRange 128 = List.ofFn (inputAt false) ++ List.ofFn (inputAt true) := by
    rw [← List.ofFn_id]
    exact List.ofFn_add (n := 64) (m := 64)
  have own : (List.ofFn (inputAt half)).filter (fun i => decide (64 ≤ i.val) == half) = List.ofFn (inputAt half) := by
    rw [List.filter_eq_self, List.forall_mem_ofFn_iff]
    cases half <;> simp [inputAt]
  have other : (List.ofFn (inputAt (!half))).filter (fun i => decide (64 ≤ i.val) == half) = [] := by
    rw [List.filter_eq_nil_iff, List.forall_mem_ofFn_iff]
    cases half <;> simp [inputAt]
  rw [inputs, List.filter_append]
  cases half with
  | false => exact (congrArg₂ (· ++ ·) own other).trans (List.append_nil _)
  | true => exact congrArg₂ (· ++ ·) other own

theorem inputViews_eq (s : State) (half : Bool) :
    s.inputViews half = List.ofFn fun k => (s.reading (inputAt half k), s.filterCount (inputAt half k)) := by
  rw [State.inputViews, inputs_of_half, List.map_ofFn]
  rfl

theorem inputViews_length (s : State) (half : Bool) : (s.inputViews half).length = 64 := by
  rw [inputViews_eq, List.length_ofFn]

theorem inputViews_get (s : State) {half : Bool} {i : Fin 128} (onPage : decide (64 ≤ i.val) = half) :
    (s.inputViews half)[i.val % 64]? = some (s.inputs[i].debounced, s.filterCount i) := by
  have short : i.val % 64 < 64 := Nat.mod_lt _ (by decide)
  have place : inputAt half ⟨i.val % 64, short⟩ = i := by
    subst onPage
    apply Fin.ext
    simp only [inputAt, decide_eq_true_eq, apply_ite Fin.val, Fin.val_natAdd, Fin.val_castLE]
    split <;> omega
  rw [inputViews_eq, List.getElem?_ofFn, dif_pos short, place]
  rfl

/-- Settles O22, page by page. -/
theorem summaryPages : Obligations.SummaryPages := by
  intro l page s takes
  refine ⟨?_, ?_, ?_, ?_, fun above => request_refused takes (takeReadSummary_refused l above)⟩
  · rintro rfl
    refine ⟨s.summaryView l, request_answers takes (takeReadSummary_first s l), rfl, rfl, rfl, rfl, rfl, rfl, rfl, rfl, rfl, rfl,
      rfl, rfl, lineStates_eq s, fun z => ?_, mem_faults s, rfl, rfl, rfl⟩
    simp [State.summaryView]
  · rintro (rfl | rfl)
    · refine ⟨_, request_answers takes (takeReadSummary_shows (by decide) rfl), inputViews_length s false, fun i onPage => ?_⟩
      have first : i.val / 64 + 1 = 1 := onPage
      exact inputViews_get s (decide_eq_false (by omega))
    · refine ⟨_, request_answers takes (takeReadSummary_shows (by decide) rfl), inputViews_length s true, fun i onPage => ?_⟩
      have second : i.val / 64 + 1 = 2 := onPage
      exact inputViews_get s (decide_eq_true (by omega))
  · rintro rfl
    refine ⟨_, request_answers takes (takeReadSummary_shows (by decide) rfl), fun c => ?_⟩
    simp [channelView, State.channel]
  · rintro rfl
    refine ⟨_, request_answers takes (takeReadSummary_shows (by decide) rfl), fun c => ?_⟩
    simp

end Sys2Proof.Machine

end

/-! # The ports and the Line Interface: reception, the judgement of a frame, dispatch (R164 to R168, R173, R174) -/

section

namespace Sys2Proof.Machine

/-! ## Writing a port -/

theorem State.setPort_setPort (s : State) (l : Line) (p q : Port) : (s.setPort l p).setPort l q = s.setPort l q := by
  simp only [State.setPort, Vector.set_set]

theorem Port.collect_receiving {p : Port} (receiving : p.reception = .receiving) (now : Nat) (frame : List Byte) :
    p.collect now frame = { p with buffer := frame, gapTimer := some (now + 2) } := by
  rw [Port.collect, ← receiving]
  rfl

/-! ## Reception, state by state (R165) -/

/-- The bytes received so far neither discard a frame nor complete it (R165). -/
def Unfinished (part : List Byte) : Prop :=
  ¬(part.length = 3 ∧ maxBodyBytes < frameBodyLength part) ∧ ¬(3 ≤ part.length ∧ part.length = 6 + frameBodyLength part)

section

variable {l : Line} {s : State}

theorem receive_hunting_start (hunting : (s.port l).reception = .hunting) :
    receive l (.byte startByte) s = s.setPort l ((s.port l).collect s.now [startByte]) := by
  simp only [receive, hunting, if_pos]

theorem receive_hunting_other (hunting : (s.port l).reception = .hunting) {b : Byte} (other : b ≠ startByte) :
    receive l (.byte b) s = s := by
  simp only [receive, hunting, if_neg other]

theorem receive_hunting_noByte (hunting : (s.port l).reception = .hunting) {r : Received} (noByte : ∀ b, r ≠ .byte b) :
    receive l r s = s := by
  cases r with
  | byte b => exact absurd rfl (noByte b)
  | byteError => simp only [receive, hunting]
  | lineBreak => simp only [receive, hunting]

theorem receive_receiving_noByte (receiving : (s.port l).reception = .receiving) {r : Received} (noByte : ∀ b, r ≠ .byte b) :
    receive l r s = s.setPort l ((s.port l).discard s.now) := by
  cases r with
  | byte b => exact absurd rfl (noByte b)
  | byteError => simp only [receive, receiving]
  | lineBreak => simp only [receive, receiving]

theorem receive_receiving_byte (receiving : (s.port l).reception = .receiving) (b : Byte) :
    receive l (.byte b) s = receiveInFrame l b s := by
  simp only [receive, receiving]

theorem receive_discarding (discarding : (s.port l).reception = .discarding) (r : Received) :
    receive l r s = s.setPort l ((s.port l).discard s.now) := by
  cases r <;> simp only [receive, discarding]

theorem receive_answering (answering : (s.port l).reception = .answering) (r : Received) : receive l r s = s := by
  cases r <;> simp only [receive, answering]

theorem receiveInFrame_tooLong {b : Byte} (third : ((s.port l).buffer ++ [b]).length = 3)
    (tooLong : maxBodyBytes < frameBodyLength ((s.port l).buffer ++ [b])) :
    receiveInFrame l b s = s.setPort l ((s.port l).discard s.now) :=
  if_pos ⟨third, tooLong⟩

theorem receiveInFrame_unfinished {b : Byte} (unfinished : Unfinished ((s.port l).buffer ++ [b])) :
    receiveInFrame l b s = s.setPort l ((s.port l).collect s.now ((s.port l).buffer ++ [b])) :=
  (if_neg unfinished.1).trans (if_neg unfinished.2)

theorem receiveInFrame_last {b : Byte}
    (whole : ((s.port l).buffer ++ [b]).length = 6 + frameBodyLength ((s.port l).buffer ++ [b])) :
    receiveInFrame l b s = judgeFrame l ((s.port l).buffer ++ [b]) s :=
  (if_neg fun third => by omega).trans (if_pos ⟨by omega, whole⟩)

theorem gapExpiry_stopped (stopped : (s.port l).gapTimer = none) : gapExpiry l s = s := by
  simp only [gapExpiry, stopped]

theorem gapExpiry_runs {t : Nat} (running : (s.port l).gapTimer = some t) :
    gapExpiry l s = (s.reach t).setPort l (s.port l).hunt := by
  simp only [gapExpiry, running]

end

/-! ## The body length as the bytes come in -/

theorem frameBodyLength_append {part : List Byte} (rest : List Byte) (known : 3 ≤ part.length) :
    frameBodyLength (part ++ rest) = frameBodyLength part := by
  rw [frameBodyLength, List.getD_append _ _ _ _ known]
  rfl

theorem frameBodyLength_third {part : List Byte} (b : Byte) (two : part.length = 2) : frameBodyLength (part ++ [b]) = b.toNat := by
  rw [frameBodyLength, List.getD_append_right _ _ _ _ two.le, two]
  rfl

/-- Settles O44, by the reception states. -/
theorem aPortActsByItsReceptionState : Obligations.APortActsByItsReceptionState := by
  intro l s power
  have byte_eq (r : Received) : exec (.byteReceived l r) s = .next (receive l r s) := event_running power _
  have gap_eq : exec (.gapTimerExpiry l) s = .next (gapExpiry l s) := event_running power _
  simp only [byte_eq, gap_eq, Host.Outcome.next.injEq]
  refine ⟨fun hunting => ?_, fun receiving => ?_, receive_discarding, ?_, gapExpiry_stopped, fun t => gapExpiry_runs⟩
  · exact ⟨receive_hunting_start hunting, fun b => receive_hunting_other hunting, receive_hunting_noByte hunting nofun,
      receive_hunting_noByte hunting nofun⟩
  · refine ⟨fun b two above => ?_, fun b within => ?_, fun b known last => ?_, receive_receiving_noByte receiving nofun,
      receive_receiving_noByte receiving nofun⟩
    · rw [receive_receiving_byte receiving]
      exact receiveInFrame_tooLong (by simp [two]) (by rwa [frameBodyLength_third b two])
    · have unfinished : Unfinished ((s.port l).buffer ++ [b]) := by
        rw [Unfinished, List.length_append, List.length_singleton]
        rcases within with few | ⟨two, short⟩ | ⟨known, notLast⟩
        · omega
        · rw [frameBodyLength_third b two, maxBodyBytes]
          omega
        · rw [frameBodyLength_append [b] known]
          exact ⟨by omega, fun whole => notLast whole.2⟩
      rw [receive_receiving_byte receiving, receiveInFrame_unfinished unfinished, Port.collect_receiving receiving]
    · rw [receive_receiving_byte receiving, receiveInFrame_last]
      rw [frameBodyLength_append [b] known, List.length_append]
      exact last
  · rintro (taking | answering)
    · exact receive_taking taking
    · exact receive_answering answering

/-! ## A frame received whole -/

theorem receiveAll_cons (l : Line) (b : Byte) (rest : List Byte) (s : State) :
    receiveAll l (b :: rest) s = receiveAll l rest (receive l (.byte b) s) := rfl

theorem receiveAll_append (l : Line) (front rest : List Byte) (s : State) :
    receiveAll l (front ++ rest) s = receiveAll l rest (receiveAll l front s) := List.foldl_append

/-- What is received of a whole frame before its last byte leaves it unfinished. -/
theorem unfinished_of_whole {front rest : List Byte} (more : rest ≠ []) (short : frameBodyLength (front ++ rest) ≤ maxBodyBytes)
    (whole : (front ++ rest).length = 6 + frameBodyLength (front ++ rest)) : Unfinished front := by
  have left : 0 < rest.length := List.length_pos_iff.2 more
  rw [List.length_append] at whole
  by_cases known : 3 ≤ front.length
  · rw [frameBodyLength_append rest known] at short whole
    exact ⟨by omega, by omega⟩
  · exact ⟨by omega, by omega⟩

/-- A port that has collected bytes takes another one. -/
theorem receive_collected {l : Line} {s : State} {front : List Byte} {b : Byte} (unfinished : Unfinished (front ++ [b])) :
    receive l (.byte b) (s.setPort l ((s.port l).collect s.now front)) =
      s.setPort l ((s.port l).collect s.now (front ++ [b])) := by
  have port := State.setPort_port_same s l ((s.port l).collect s.now front)
  have buffer := congrArg Port.buffer port
  rw [receive_receiving_byte (congrArg Port.reception port), receiveInFrame_unfinished (by rwa [buffer]), port,
    State.setPort_setPort]
  rfl

theorem receiveAll_collected {l : Line} {s : State} (front rest : List Byte)
    (unfinished : ∀ more left, more ++ left = rest → more ≠ [] → Unfinished (front ++ more)) :
    receiveAll l rest (s.setPort l ((s.port l).collect s.now front)) =
      s.setPort l ((s.port l).collect s.now (front ++ rest)) := by
  induction rest generalizing front with
  | nil => rw [List.append_nil]; rfl
  | cons b rest ih =>
    rw [receiveAll_cons, receive_collected (unfinished [b] rest rfl nofun), ih (front ++ [b]), List.append_assoc]
    · rfl
    · intro more left e _
      rw [List.append_assoc]
      exact unfinished (b :: more) left (congrArg (b :: ·) e) nofun

/-- What a port has collected before is no part of the judgement (R166). -/
theorem judgeFrame_collected (l : Line) (s : State) (front frame : List Byte) :
    judgeFrame l frame (s.setPort l ((s.port l).collect s.now front)) = judgeFrame l frame s := by
  have hunt : ((s.port l).collect s.now front).hunt = (s.port l).hunt := rfl
  simp only [judgeFrame, State.setPort_port_same, State.setPort_setPort, hunt]

/-- A port that has collected all bytes but the last judges the frame with the last one. -/
theorem receive_completes {l : Line} {s : State} {front : List Byte} {b : Byte}
    (whole : (front ++ [b]).length = 6 + frameBodyLength (front ++ [b])) :
    receive l (.byte b) (s.setPort l ((s.port l).collect s.now front)) = judgeFrame l (front ++ [b]) s := by
  have port := State.setPort_port_same s l ((s.port l).collect s.now front)
  have buffer : ((s.setPort l ((s.port l).collect s.now front)).port l).buffer = front := congrArg Port.buffer port
  rw [receive_receiving_byte (congrArg Port.reception port), receiveInFrame_last (by rwa [buffer]), buffer]
  exact judgeFrame_collected l s front _

/-- A whole frame received by a HUNTING port is judged at its last byte (R165). -/
theorem receiveAll_whole {l : Line} {s : State} {rest : List Byte} (hunting : (s.port l).reception = .hunting)
    (short : frameBodyLength (startByte :: rest) ≤ maxBodyBytes)
    (whole : (startByte :: rest).length = 6 + frameBodyLength (startByte :: rest)) :
    receiveAll l (startByte :: rest) s = judgeFrame l (startByte :: rest) s := by
  obtain rfl | ⟨middle, last, rfl⟩ := List.eq_nil_or_concat' rest
  · rw [List.length_singleton] at whole
    omega
  have first : receiveAll l (startByte :: middle) s = s.setPort l ((s.port l).collect s.now (startByte :: middle)) := by
    rw [receiveAll_cons, receive_hunting_start hunting]
    refine receiveAll_collected [startByte] middle fun more left e _ => ?_
    subst e
    refine unfinished_of_whole (rest := left ++ [last]) (by simp) ?_ ?_
    · simpa using short
    · simpa using whole
  rw [← List.cons_append, receiveAll_append, first]
  exact receive_completes whole

/-! ## The judgement of a frame (R166) -/

/-- The bytes of a frame (R164). -/
def frameOf (role len kind crcHi crcLo : Byte) (body : List Byte) : List Byte :=
  startByte :: role :: len :: kind :: (body ++ [crcHi, crcLo])

theorem frameOf_body {role len kind crcHi crcLo : Byte} {body : List Byte} (fits : body.length = len.toNat) :
    ((frameOf role len kind crcHi crcLo body).drop 4).take (frameBodyLength (frameOf role len kind crcHi crcLo body)) = body :=
  List.take_left' fits

/-- A frame is good with its CRC and its role code right (R166). -/
theorem frameGood_frameOf {l : Line} {role len kind crcHi crcLo : Byte} {body : List Byte} (fits : body.length = len.toNat) :
    frameGood l (frameOf role len kind crcHi crcLo body) = true ↔
      role = l.roleCode ∧ crc (role :: len :: kind :: body) = crcHi ++ crcLo := by
  have checked : ((frameOf role len kind crcHi crcLo body).drop 1).take (3 + len.toNat) = role :: len :: kind :: body :=
    List.take_left' (l₁ := role :: len :: kind :: body) (by rw [← fits, Nat.add_comm]; rfl)
  have front : (startByte :: role :: len :: kind :: body).length = 4 + len.toNat := by rw [← fits, Nat.add_comm]; rfl
  have high : (frameOf role len kind crcHi crcLo body).getD (4 + len.toNat) 0 = crcHi := by
    refine (List.getD_append_right (startByte :: role :: len :: kind :: body) [crcHi, crcLo] 0 _ front.le).trans ?_
    rw [front, Nat.sub_self]
    rfl
  have low : (frameOf role len kind crcHi crcLo body).getD (5 + len.toNat) 0 = crcLo := by
    refine (List.getD_append_right (startByte :: role :: len :: kind :: body) [crcHi, crcLo] 0 _ (by omega)).trans ?_
    rw [front, Nat.add_sub_add_right]
    rfl
  have size : frameBodyLength (frameOf role len kind crcHi crcLo body) = len.toNat := rfl
  rw [frameGood, size, checked, high, low, Bool.and_eq_true, beq_iff_eq, beq_iff_eq]
  exact And.comm

theorem judgeFrame_bad {l : Line} {frame : List Byte} {s : State} (bad : ¬ frameGood l frame = true) :
    judgeFrame l frame s = s.setPort l (s.port l).hunt :=
  if_neg bad

theorem judgeFrame_good {l : Line} {role len kind crcHi crcLo : Byte} {body : List Byte} {s : State}
    (fits : body.length = len.toNat) (good : frameGood l (frameOf role len kind crcHi crcLo body) = true) :
    judgeFrame l (frameOf role len kind crcHi crcLo body) s =
      answered l kind (dispatch l kind body) (superviseGood l (s.setPort l (s.port l).hunt)) := by
  refine (if_pos good).trans ?_
  rw [frameOf_body fits]
  rfl

/-! ## Line supervision (R173, R174) -/

theorem raiseIfChanged_same {old new : LineState} (same : old = new) (s : State) : raiseIfChanged old new s = s := if_pos same

theorem raiseIfChanged_raises {old new : LineState} (changed : old ≠ new) (s : State) :
    raiseIfChanged old new s = s.raiseFlags := if_neg changed

/-- A port in HUNTING whose line is LIVE, with its supervision timer restarted where it has one. -/
def Port.heard (l : Line) (now : Nat) (p : Port) : Port :=
  { p.hunt with
    line := .live
    supervisionTimer := if l.supervised then some (now + tenthsToMs p.supervisionTime) else p.supervisionTimer }

/-- The state in which line supervision has taken a good frame, but for the change flags. -/
def State.heard (s : State) (l : Line) : State := s.setPort l ((s.port l).heard l s.now)

theorem State.heard_port_same (s : State) (l : Line) : (s.heard l).port l = (s.port l).heard l s.now :=
  State.setPort_port_same ..

theorem State.heard_port_other (s : State) {l k : Line} (other : k ≠ l) : (s.heard l).port k = s.port k :=
  State.setPort_port_other _ _ other

theorem superviseGood_hunt (l : Line) (s : State) :
    superviseGood l (s.setPort l (s.port l).hunt) = raiseIfChanged (s.port l).line .live (s.heard l) := by
  simp only [superviseGood, State.setPort_port_same, State.setPort_setPort]
  rfl

theorem raiseIfChanged_samePorts (old new : LineState) (s : State) : SamePorts s (raiseIfChanged old new s) := by
  intro k
  rcases raiseIfChanged_cases old new s with same | raised
  · rw [same]
  · rw [raised, State.raiseFlags_port]
    rfl

/-- Settles O43: the bytes lead to the judgement by `receiveAll_whole`, and the judgement is by `frameGood_frameOf`. -/
theorem aFrameIsJudgedAtItsLastByte : Obligations.AFrameIsJudgedAtItsLastByte := by
  intro l role len kind crcHi crcLo body s power hunting short fits
  have judged : exec (.frameReceived l (frameOf role len kind crcHi crcLo body)) s =
      .next (judgeFrame l (frameOf role len kind crcHi crcLo body) s) := by
    refine (event_running power _).trans (congrArg _ (receiveAll_whole hunting short ?_))
    show (frameOf role len kind crcHi crcLo body).length = 6 + len.toNat
    simp [frameOf, fits]
    omega
  refine ⟨fun good => ?_, fun bad => ?_⟩
  · have same := raiseIfChanged_samePorts (s.port l).line .live (s.heard l)
    have here := (same l).trans (congrArg Port.raise (s.heard_port_same l))
    refine ⟨raiseIfChanged (s.port l).line .live (s.heard l), ?_, ?_, congrArg Port.line here, congrArg Port.reception here,
      congrArg Port.supervisionTimer here, fun k other => ?_, fun changed => ?_, fun live k => ?_⟩
    · refine judged.trans (congrArg _ ?_)
      rw [judgeFrame_good fits ((frameGood_frameOf fits).2 good), superviseGood_hunt]
      rfl
    · rcases raiseIfChanged_cases (s.port l).line .live (s.heard l) with kept | raised
      · exact ⟨_, kept⟩
      · exact ⟨_, raised⟩
    · exact (same k).trans (congrArg Port.raise (s.heard_port_other other))
    · rw [raiseIfChanged_raises changed]
      exact raiseFlags_set _
    · rw [raiseIfChanged_same live]
      by_cases own : k = l
      · rw [own, State.heard_port_same]
        rfl
      · rw [s.heard_port_other own]
  · exact judged.trans (congrArg _ (judgeFrame_bad fun good => bad ((frameGood_frameOf fits).1 good)))

/-! ## Dispatch (R167, R168) -/

theorem dispatch_unknown {kind : Byte} (unknown : kindKnown kind = false) (l : Line) (body : List Byte) (s : State) :
    dispatch l kind body s = refuse s .refusedForm :=
  if_pos unknown

theorem dispatch_notOfLine {l : Line} {kind : Byte} (known : kindKnown kind = true) (barred : lineMaySend l kind = false)
    (body : List Byte) (s : State) : dispatch l kind body s = refuse s .refusedRole := by
  rw [dispatch, if_neg (by simp [known]), if_pos barred]

theorem dispatch_wrongLength {l : Line} {kind : Byte} {body : List Byte} (known : kindKnown kind = true)
    (may : lineMaySend l kind = true) (wrong : bodyLengthRight kind body = false) (s : State) :
    dispatch l kind body s = refuse s .refusedForm := by
  rw [dispatch, if_neg (by simp [known]), if_neg (by simp [may]), if_pos wrong]

/-- A request that passes the checks of R167 goes to the block of its kind. -/
theorem dispatch_passes {l : Line} {kind : Byte} {body : List Byte} (role : kindKnown kind = true ∧ lineMaySend l kind = true)
    (right : bodyLengthRight kind body = true) (s : State) : dispatch l kind body s = handOver l kind body s := by
  obtain ⟨known, may⟩ := role
  rw [dispatch, if_neg (by simp [known]), if_neg (by simp [may]), if_neg (by simp [right])]

theorem bodyLengthRight_fixed {kind : Byte} {n : Nat} (fixed : fixedBodyLength kind = some n) (body : List Byte) :
    bodyLengthRight kind body = (body.length == n) := by
  simp only [bodyLengthRight, fixed]

/-- A two-byte field is read from its two bytes, high byte first (R168). -/
theorem halfOf_bytes (x : Half) : halfOf ((x >>> 8).setWidth 8) (x.setWidth 8) = x := by
  ext i short
  rw [halfOf, BitVec.getElem_append]
  split
  · simp [BitVec.getLsbD_eq_getElem short]
  · have place : 8 + (i - 8) = i := by omega
    simp [place, BitVec.getLsbD_eq_getElem short]

theorem commandBytes_block (actuator command : Byte) (speed : Half) (take : Byte → Byte → Half → State → State × Reply) :
    commandBytes [actuator, command, (speed >>> 8).setWidth 8, speed.setWidth 8] take = take actuator command speed :=
  congrArg (take actuator command) (halfOf_bytes speed)

/-- A command that is its line's request of a block is the request that its good frame's body is dispatched to. -/
theorem request_of_block {c : Instr} {l own : Line} {kind code : Byte} {take : State → State × Reply} {s : State}
    (wf : c.wellFormed = true) (h : c.request = some (l, kind)) (role : Laws.RequestRole.Statement c)
    (asks : c.request = some (own, code)) (run : exec c s = request own code take s)
    (right : bodyLengthRight code (requestBody c) = true) (block : handOver own code (requestBody c) = take) :
    exec c s = request l kind (dispatch l kind (requestBody c)) s := by
  cases asks.symm.trans h
  rw [run, ← block, funext (dispatch_passes (role wf l kind h) right)]

/-- A well-formed request command takes and answers what the dispatch of its good frame's body does (R167). -/
theorem exec_eq_request {c : Instr} {l : Line} {kind : Byte} {s : State} (wf : c.wellFormed = true)
    (h : c.request = some (l, kind)) : exec c s = request l kind (dispatch l kind (requestBody c)) s := by
  cases c with
  | poll l => exact request_of_block wf h (Laws.RequestRole.poll l) rfl rfl rfl rfl
  | readSummary l page => exact request_of_block wf h (Laws.RequestRole.readSummary l page) rfl rfl rfl rfl
  | readZone l zone part => exact request_of_block wf h (Laws.RequestRole.readZone l zone part) rfl rfl rfl rfl
  | readActuator l actuator => exact request_of_block wf h (Laws.RequestRole.readActuator l actuator) rfl rfl rfl rfl
  | zoneAlarm panel zone => exact request_of_block wf h (Laws.RequestRole.zoneAlarm panel zone) rfl rfl rfl (by cases panel <;> rfl)
  | zoneReset panel zone => exact request_of_block wf h (Laws.RequestRole.zoneReset panel zone) rfl rfl rfl (by cases panel <;> rfl)
  | overrideSet actuator command speed =>
    exact request_of_block wf h (Laws.RequestRole.overrideSet actuator command speed) rfl rfl rfl
      (commandBytes_block actuator command speed takeOverrideSet)
  | overrideRelease actuator => exact request_of_block wf h (Laws.RequestRole.overrideRelease actuator) rfl rfl rfl rfl
  | standDown option => exact request_of_block wf h (Laws.RequestRole.standDown option) rfl rfl rfl rfl
  | resume => exact request_of_block wf h Laws.RequestRole.resume rfl rfl rfl rfl
  | faultClear l actuator => exact request_of_block wf h (Laws.RequestRole.faultClear l actuator) rfl rfl rfl rfl
  | normalSet actuator command speed =>
    exact request_of_block wf h (Laws.RequestRole.normalSet actuator command speed) rfl rfl rfl
      (commandBytes_block actuator command speed takeNormalSet)
  | normalRelease actuator => exact request_of_block wf h (Laws.RequestRole.normalRelease actuator) rfl rfl rfl rfl
  | normalGroup body => exact request_of_block wf h (Laws.RequestRole.normalGroup body) rfl rfl rfl rfl
  | testStart zone reason => exact request_of_block wf h (Laws.RequestRole.testStart zone reason) rfl rfl rfl rfl
  | testEnd zone => exact request_of_block wf h (Laws.RequestRole.testEnd zone) rfl rfl rfl rfl
  | configRead body => exact request_of_block wf h (Laws.RequestRole.configRead body) rfl rfl rfl rfl
  | configWrite body => exact request_of_block wf h (Laws.RequestRole.configWrite body) rfl rfl rfl rfl
  | configActivateApply sector => exact request_of_block wf h (Laws.RequestRole.configActivateApply sector) rfl rfl rfl rfl
  | configActivateDiscard sector => exact request_of_block wf h (Laws.RequestRole.configActivateDiscard sector) rfl rfl rfl rfl
  | restart => exact request_of_block wf h Laws.RequestRole.restart rfl rfl rfl rfl
  | _ => cases h

theorem not_takes_busy {l : Line} {s : State} (busy : (s.port l).reception = .taking ∨ (s.port l).reception = .answering) :
    ¬ s.takes l := by
  rintro ⟨-, free⟩
  rcases busy with e | e <;> simp [Port.busy, e] at free

/-- Settles O42: a request command by `exec_eq_request`, and the checks of R167 by the branches of the dispatch. -/
theorem aRequestIsItsFramesRequest : Obligations.ARequestIsItsFramesRequest := by
  refine ⟨fun c l kind s wf h => ⟨fun takes => ?_, fun busy => ?_⟩, fun l kind body s => ⟨fun unknown => ?_,
    fun known barred => ?_, fun known may n fixed wrong => ?_⟩⟩
  · exact (exec_eq_request wf h).trans (request_taken takes _ _)
  · exact (exec_eq_request wf h).trans (request_not_taken (not_takes_busy busy) _ _)
  · exact dispatch_unknown unknown l body s
  · exact dispatch_notOfLine known barred body s
  · exact dispatch_wrongLength known may ((bodyLengthRight_fixed fixed body).trans (beq_false_of_ne wrong)) s

end Sys2Proof.Machine

end
/-! # The Configuration Store stays sound, and what CONFIG-READ and CONFIG-WRITE do (R181 to R183, R185 to R188)

An event's operations touch the store only by applying a PENDING image. What is left are the store's own requests, the completion
of a write and the loss of the working memory: each writes one sector, or every sector by itself. -/

section

namespace Sys2Proof.Machine

/-! ## One sector (R181, R183, R185, R186, R188) -/

/-- A sector that is not WRITING takes any staging image in canonical form, or none (R183, R185). -/
theorem sectorSound_stage {sec : Sector} {x : SectorState} {staging : Option Image} (h : SectorSound sec x)
    (idle : x.activation ≠ .writing) (wf : ∀ img, staging = some img → Memory.wf sec img = true) :
    SectorSound sec { x with staging := staging } := by
  obtain ⟨stored, -, -⟩ := h
  exact ⟨stored, wf, fun writing => absurd writing idle⟩

theorem sectorSound_beginWrite {sec : Sector} {x : SectorState} {img : Image} (h : SectorSound sec x)
    (wf : Memory.wf sec img = true) : SectorSound sec (x.beginWrite img) := by
  obtain ⟨stored, -, -⟩ := h
  exact ⟨stored, fun _ e => Option.some.inj e ▸ wf, fun _ => ⟨rfl, rfl⟩⟩

theorem sectorSound_endWrite {sec : Sector} {x : SectorState} (h : SectorSound sec x) : SectorSound sec x.endWrite := by
  obtain ⟨stored, staging, -⟩ := h
  refine ⟨?_, fun _ present => (by cases present), fun writing => (by cases writing)⟩
  show Memory.wf sec (x.staging.getD x.stored) = true
  cases e : x.staging with
  | none => exact stored
  | some img => exact staging img e

theorem sectorSound_setActivation {sec : Sector} {x : SectorState} {act : Activation} (h : SectorSound sec x)
    (idle : act ≠ .writing) : SectorSound sec { x with activation := act } := by
  obtain ⟨stored, staging, -⟩ := h
  exact ⟨stored, staging, fun writing => absurd writing idle⟩

/-- A write that is cut off leaves a part-written image, in canonical form like every other (R188). -/
theorem sectorSound_losePower {sec : Sector} {x : SectorState} (cut : Nat) (h : SectorSound sec x) :
    SectorSound sec (x.losePower sec cut) := by
  obtain ⟨stored, -, -⟩ := h
  refine ⟨?_, fun _ present => (by cases present), fun writing => (by cases writing)⟩
  by_cases writing : x.activation = .writing
  · simpa [SectorState.losePower, writing] using tornImage_wf sec cut
  · rwa [losePower_stored writing]

theorem stagingBase_eq (x : SectorState) : x.stagingBase = x.staging.getD (if x.valid then x.stored else []) := by
  unfold SectorState.stagingBase
  cases x.staging <;> rfl

theorem SectorSound.staging_wf {sec : Sector} {x : SectorState} {img : Image} (h : SectorSound sec x)
    (staging : x.staging = some img) : Memory.wf sec img = true := by
  obtain ⟨-, images, -⟩ := h
  exact images img staging

theorem stagingBase_wf {sec : Sector} {x : SectorState} (h : SectorSound sec x) : Memory.wf sec x.stagingBase = true := by
  unfold SectorState.stagingBase
  split
  · rename_i img staging
    exact h.staging_wf staging
  · split
    · exact h.1
    · exact blank_wf sec

/-! ## CONFIG-WRITE past its checks (R183) -/

theorem configWriteFields_keyOff {s : State} {code : Byte} {sec : Sector} {offset : Nat} {chunk : List Byte}
    (idle : s.store.writing = none) (known : sectorOf code = some sec) (inside : offset + chunk.length ≤ sectorSize sec)
    (key : s.keyOn = false) : configWriteFields code offset chunk s = refuse s .refusedKey := by
  simp [configWriteFields, idle, known, Nat.not_lt.2 inside, key]

theorem configWriteFields_staged {s : State} {code : Byte} {sec : Sector} {offset : Nat} {chunk : List Byte}
    (idle : s.store.writing = none) (known : sectorOf code = some sec) (inside : offset + chunk.length ≤ sectorSize sec)
    (key : s.keyOn = true) :
    configWriteFields code offset chunk s =
      ({ s with store := s.store.setSector sec { s.store.sector sec with
          staging := some (writeBytes sec (s.store.sector sec).stagingBase offset chunk) } },
        { result := .done, body := .configWrite sec offset chunk.length }) := by
  simp [configWriteFields, idle, known, Nat.not_lt.2 inside, key]

/-! ## The store, one sector written (R181) -/

namespace StoreSound

theorem congr {s t : State} (h : StoreSound s) (same : t.store = s.store) : StoreSound t := by
  unfold StoreSound
  rwa [same]

theorem sector {s : State} (h : StoreSound s) (sec : Sector) : SectorSound sec (s.store.sector sec) := h.1 sec

/-- One sector may be written with a sound one: WRITING where no sector is, and PENDING where it is not IDENTITY. -/
theorem setSector {s : State} {sec : Sector} {x : SectorState} (h : StoreSound s) (sound : SectorSound sec x)
    (alone : x.activation = .writing → s.store.writing = none) (waits : x.activation = .pending → sec ≠ .identity) :
    StoreSound { s with store := s.store.setSector sec x } := by
  obtain ⟨sectors, one, notPending⟩ := h
  refine ⟨fun other => ?_, fun a b => ?_, ?_⟩
  · by_cases same : other = sec
    · subst same
      rwa [Store.setSector_same]
    · rw [Store.setSector_other _ _ same]
      exact sectors other
  · by_cases a_same : a = sec <;> by_cases b_same : b = sec
    · exact fun _ _ => a_same.trans b_same.symm
    · subst a_same
      rw [Store.setSector_same, Store.setSector_other _ _ b_same]
      exact fun begun writing => absurd writing ((writing_none_iff _).1 (alone begun) b)
    · subst b_same
      rw [Store.setSector_same, Store.setSector_other _ _ a_same]
      exact fun writing begun => absurd writing ((writing_none_iff _).1 (alone begun) a)
    · rw [Store.setSector_other _ _ a_same, Store.setSector_other _ _ b_same]
      exact one a b
  · cases sec with
    | identity => exact fun pending => waits pending rfl
    | plant => exact notPending
    | sequences => exact notPending

theorem notPending {s : State} (h : StoreSound s) {sec : Sector} (pending : (s.store.sector sec).activation = .pending) :
    sec ≠ .identity := by
  obtain ⟨-, -, identity⟩ := h
  rintro rfl
  exact identity pending

/-- A staging image is written while no sector is WRITING (R183, R185). -/
theorem stage {s : State} {sec : Sector} {staging : Option Image} (h : StoreSound s) (idle : s.store.writing = none)
    (wf : ∀ img, staging = some img → Memory.wf sec img = true) :
    StoreSound { s with store := s.store.setSector sec { s.store.sector sec with staging := staging } } :=
  h.setSector (sectorSound_stage (h.sector sec) ((writing_none_iff _).1 idle sec) wf) (fun _ => idle) h.notPending

theorem setActivation {s : State} {sec : Sector} {act : Activation} (h : StoreSound s) (idle : act ≠ .writing)
    (waits : act = .pending → sec ≠ .identity) : StoreSound (s.setActivation sec act) :=
  h.setSector (sectorSound_setActivation (h.sector sec) idle) (fun writing => absurd writing idle) waits

theorem clearActivation {s : State} (h : StoreSound s) (sec : Sector) : StoreSound (s.setActivation sec .none) :=
  h.setActivation (by decide) (fun pending => absurd pending (by decide))

/-! ## The requests (R183, R185) -/

theorem configWriteFields {s : State} (h : StoreSound s) (code : Byte) (offset : Nat) (chunk : List Byte) :
    StoreSound (configWriteFields code offset chunk s).1 := by
  by_cases idle : s.store.writing = none
  · cases known : sectorOf code with
    | none => rwa [configWriteFields_unknown idle known]
    | some sec =>
      by_cases inside : offset + chunk.length ≤ sectorSize sec
      · cases key : s.keyOn with
        | false => rwa [configWriteFields_keyOff idle known inside key]
        | true =>
          rw [configWriteFields_staged idle known inside key]
          exact h.stage idle (fun _ e => Option.some.inj e ▸ writeBytes_wf (stagingBase_wf (h.sector sec)) inside)
      · rwa [configWriteFields_beyond idle known (Nat.not_le.1 inside)]
  · rwa [configWriteFields_busy idle]

theorem configWrite {s : State} (h : StoreSound s) (body : List Byte) : StoreSound (takeConfigWrite body s).1 := by
  unfold takeConfigWrite
  split
  · split
    · exact h.configWriteFields _ _ _
    · exact h
  · exact h

/-- The write begins alone, of an image in canonical form (R185). -/
theorem startWrite {s : State} {sec : Sector} {img : Image} (h : StoreSound s) (idle : s.store.writing = none)
    (wf : Memory.wf sec img = true) : StoreSound (startWrite sec img s) :=
  (h.setSector (sectorSound_beginWrite (h.sector sec) wf) (fun _ => idle) (fun e => nomatch e)).congr
    (startWrite_effect sec img s).1

theorem applyStaging {s : State} (h : StoreSound s) (idle : s.store.writing = none) (sec : Sector) :
    StoreSound (applyStaging sec s).1 := by
  cases staging : (s.store.sector sec).staging with
  | none => rwa [applyStaging_absent staging]
  | some img =>
    have cleared : Memory.wf sec (clearForeign sec img) = true := clearForeign_wf ((h.sector sec).staging_wf staging)
    cases verdict : validate sec img (s.store.reference sec.crossed) with
    | some fail =>
      obtain ⟨item, why⟩ := fail
      rwa [applyStaging_invalid staging verdict]
    | none =>
      rw [applyStaging_passed staging verdict]
      split
      · exact h.startWrite idle cleared
      · exact h.stage idle (fun _ e => Option.some.inj e ▸ cleared)

theorem discardStaging {s : State} (h : StoreSound s) (idle : s.store.writing = none) (sec : Sector) :
    StoreSound (discardStaging sec s).1 := by
  cases staging : (s.store.sector sec).staging with
  | none => rwa [discardStaging_absent staging]
  | some img =>
    rw [discardStaging_present staging]
    exact h.stage idle (fun _ e => nomatch e)

theorem configActivate {s : State} (h : StoreSound s) (body : List Byte) : StoreSound (takeConfigActivate body s).1 := by
  unfold takeConfigActivate
  split
  · split
    · exact h
    · rename_i busy
      have idle : s.store.writing = none := by simpa using busy
      split
      · exact h
      · split
        · exact h.applyStaging idle _
        · split
          · exact h.discardStaging idle _
          · exact h
  · exact h

/-! ## Writes completed and images applied (R186, R187, R189) -/

theorem written {s : State} (h : StoreSound s) (sec : Sector) : StoreSound (written sec s) :=
  h.setSector (sectorSound_endWrite (h.sector sec)) (fun e => nomatch e) (fun e => nomatch e)

theorem applySector {w : Work} (h : StoreSound w.st) (sec : Sector) : StoreSound (applySector sec w).st :=
  (h.clearActivation sec).congr (applySector_store sec w)

theorem applyIfPending {w : Work} (h : StoreSound w.st) (sec : Sector) : StoreSound (applyIfPending sec w).st := by
  unfold Machine.applyIfPending
  split
  · exact h.applySector sec
  · exact h

theorem endConfigFault {s : State} (h : StoreSound s) : StoreSound (endConfigFault s) :=
  (((h.clearActivation .identity).clearActivation .plant).clearActivation .sequences).congr rfl

theorem completeWrite {s : State} (h : StoreSound s) : StoreSound (completeWrite s) := by
  obtain e | ⟨-, e⟩ | ⟨sec, -, other, ⟨-, e⟩ | ⟨-, e⟩ | ⟨-, -, e⟩ | ⟨-, e⟩⟩ := completeWrite_cases s
  · rwa [e]
  · rw [e]; exact (h.written .identity).congr rfl
  · rw [e]; exact (h.written sec).endConfigFault
  · rw [e]; exact ((h.written sec).clearActivation sec).congr rfl
  · rw [e]; exact StoreSound.applySector (w := Work.start (Machine.written sec s)) (h.written sec) sec
  · rw [e]; exact (h.written sec).setActivation (by decide) (fun _ => other)

/-! ## Power and restarts (R12, R14, R15, R188) -/

/-- The store that a loss of the working memory leaves is sound: no sector is WRITING or PENDING. -/
theorem powerLost {s t : State} (h : StoreSound s) (lost : t.store = s.store.losePower s.cutWrites) : StoreSound t := by
  unfold StoreSound
  rw [lost]
  refine ⟨fun sec => ?_, fun a b writing => ?_, fun pending => nomatch pending⟩
  · rw [losePower_sector]
    exact sectorSound_losePower _ (h.sector sec)
  · rw [losePower_sector] at writing
    cases writing

theorem coldStart {s : State} (h : StoreSound s) (cause : StartCause) : StoreSound (coldStart cause s) :=
  h.powerLost (by rw [coldStart_eq, loadedState_store])

theorem startWarmRestart {s : State} (h : StoreSound s) (cause : WarmCause) : StoreSound (startWarmRestart cause s) := by
  obtain e | ⟨why, e⟩ := startWarmRestart_cases cause s
  · rwa [e]
  · rw [e]
    obtain ⟨-, e⟩ | ⟨-, e⟩ := beginWarmRestart_cases why s
    · rw [e]; exact h.congr rfl
    · rw [e]; exact h.coldStart _

theorem endWarmRestart {s : State} (h : StoreSound s) : StoreSound (endWarmRestart s) :=
  h.congr ((keeps_endWarmRestart s).store.trans rfl)

end StoreSound

/-! ## Every command -/

theorem storeSound_rule : StateRule StoreSound StoreSound StoreSound where
  light _ _ h l := h.congr l.store
  damper _ _ _ _ _ h _ _ _ := h.congr rfl
  fan _ _ _ _ _ h _ _ _ := h.congr rfl
  ports _ _ _ h _ := h.congr rfl
  begins _ h := h
  ends _ h := h
  quiet _ _ _ h := h.congr rfl
  apply _ h _ := (h.applyIfPending .plant).applyIfPending .sequences
  configWrite body _ h := h.configWrite body
  configActivate body _ h := h.configActivate body
  write _ h := h.completeWrite

theorem storeSound_exec {c : Instr} {s t : State} (h : StoreSound s) (e : exec c s = .next t) : StoreSound t := by
  cases routine : c.routine with
  | true => exact storeSound_rule.command.exec routine h e
  | false =>
    cases c with
    | coldStart =>
      obtain rfl := Host.Outcome.next.inj e
      exact h.coldStart _
    | powerLoss =>
      obtain rfl := Host.Outcome.next.inj e
      exact h.powerLost rfl
    | warmRestartStart cause =>
      obtain rfl := Host.Outcome.next.inj e
      exact h.startWarmRestart cause
    | supervisor =>
      obtain rfl := Host.Outcome.next.inj e
      exact h.startWarmRestart .supervisor
    | warmRestartEnd =>
      obtain rfl := Host.Outcome.next.inj e
      split
      · exact h.endWarmRestart
      · exact h
    | speedFrameBoundary o =>
      obtain rfl := Host.Outcome.next.inj e
      unfold whileRunning
      split
      · exact h.congr rfl
      · exact h
    | _ => cases routine

/-- Settles O6: the rule of the routine commands for the store's soundness, and the commands of power one by one. -/
theorem storeStaysSound : Obligations.StoreStaysSound :=
  fun _ _ h e => step_keeps h e (fun _ h => h.congr rfl) (fun _ _ h => h.congr rfl) (fun _ _ _ => storeSound_exec)

/-! ## CONFIG-READ (R182) -/

theorem readBytes_length (sec : Sector) (img : Image) (off len : Nat) : (readBytes sec img off len).length = len := by
  simp [readBytes]

theorem readBytes_getElem? (sec : Sector) (img : Image) (off : Nat) {len i : Nat} (h : i < len) :
    (readBytes sec img off len)[i]? = some (readByte sec img (off + i)) := by
  simp [readBytes, h]

theorem configReadFields_busy {s : State} (busy : s.store.writing ≠ none) (code source : Byte) (offset length : Nat) :
    configReadFields code source offset length s = Reply.bare .busy := by
  simp [configReadFields, Option.isSome_iff_ne_none, busy]

/-- A source and a length that pass check 4 of R182. -/
theorem configRead_wellFormed {source : Byte} {length : Nat} (form : source = 0x01 ∨ source = 0x02) (low : 1 ≤ length)
    (high : length ≤ 96) : ¬((source ≠ 0x01 ∧ source ≠ 0x02) ∨ length < 1 ∨ maxChunk < length) := by
  rintro (⟨notStored, notStaging⟩ | short | long)
  · exact form.elim notStored notStaging
  · omega
  · exact Nat.not_lt.2 high long

theorem configReadFields_absent {s : State} {code source : Byte} {sec : Sector} {offset length : Nat}
    (idle : s.store.writing = none) (known : sectorOf code = some sec) (inside : offset + length ≤ sectorSize sec)
    (low : 1 ≤ length) (high : length ≤ 96) (form : source = 0x01 ∨ source = 0x02)
    (absent : readSource (s.store.sector sec) source = none) :
    configReadFields code source offset length s = Reply.bare .refusedState := by
  have passes := configRead_wellFormed form low high
  simp only [configReadFields, idle, known, Nat.not_lt.2 inside, passes, absent, Option.isSome_none, Bool.false_eq_true, if_false]

theorem configReadFields_bytes {s : State} {code source : Byte} {sec : Sector} {img : Image} {offset length : Nat}
    (idle : s.store.writing = none) (known : sectorOf code = some sec) (inside : offset + length ≤ sectorSize sec)
    (low : 1 ≤ length) (high : length ≤ 96) (form : source = 0x01 ∨ source = 0x02)
    (image : readSource (s.store.sector sec) source = some img) :
    configReadFields code source offset length s =
      { result := .done
        body := .configRead (s.store.sector sec).valid (s.store.sector sec).activation (readBytes sec img offset length) } := by
  have passes := configRead_wellFormed form low high
  simp only [configReadFields, idle, known, Nat.not_lt.2 inside, passes, image, Option.isSome_none, Bool.false_eq_true, if_false]

theorem readSource_stored (x : SectorState) : readSource x 0x01 = some x.stored := rfl

theorem readSource_staging (x : SectorState) : readSource x 0x02 = x.staging := rfl

/-- Settles O38, by the checks of R182 in their order. -/
theorem configReadShowsTheBytes : Obligations.ConfigReadShowsTheBytes := by
  intro code source hi lo len s takes
  refine ⟨fun busy => ?_, fun sec idle known inside low high => ⟨fun isStaging absent => ?_, fun img names => ?_⟩⟩
  · exact request_refused takes (takeConfigRead_fields (configReadFields_busy busy code source _ _))
  · subst isStaging
    exact request_refused takes (takeConfigRead_fields
      (configReadFields_absent idle known inside low high (.inr rfl) ((readSource_staging _).trans absent)))
  · have image : readSource (s.store.sector sec) source = some img := by
      obtain ⟨rfl, rfl⟩ | ⟨rfl, staging⟩ := names
      · exact readSource_stored _
      · exact (readSource_staging _).trans staging
    have fields := configReadFields_bytes idle known inside low high (names.imp And.left And.left) image
    exact ⟨_, request_answers takes (congrArg (unchanged s) fields), readBytes_length sec img _ _,
      fun i => readBytes_getElem? sec img _⟩

/-! ## The bytes that a CONFIG-WRITE leaves (R183) -/

/-- The chunk stands from its offset on, and every other byte is as it was (R183). -/
theorem readByte_writeBytes {sec : Sector} {img : Image} {off : Nat} {chunk : List Byte} (wf : Memory.wf sec img = true)
    (inside : off + chunk.length ≤ sectorSize sec) (o : Nat) :
    readByte sec (writeBytes sec img off chunk) o =
      if off ≤ o ∧ o < off + chunk.length then chunk.getD (o - off) 0 else readByte sec img o := by
  split
  · rename_i within
    obtain ⟨i, rfl⟩ := Nat.exists_eq_add_of_le within.1
    have place : i < chunk.length := by omega
    rw [readByte_writeBytes_inside wf inside place, Nat.add_sub_cancel_left, List.getD_eq_getElem _ _ place]
  · exact readByte_writeBytes_outside (by omega)

/-- Settles O39, by the checks of R183 in their order and the bytes of the written image. -/
theorem configWriteTouchesStagingAlone : Obligations.ConfigWriteTouchesStagingAlone := by
  intro code hi lo chunk sec s takes sound idle known low high inside
  have fields := takeConfigWrite_fields low high code hi lo s
  have base : Memory.wf sec (s.store.sector sec).stagingBase = true := stagingBase_wf (sound.sector sec)
  refine ⟨fun key => request_refused takes (fields.trans (configWriteFields_keyOff idle known inside key)),
    fun key => ⟨_, request_answers takes (fields.trans (configWriteFields_staged idle known inside key)),
      writeBytes_wf base inside, fun o => ?_⟩⟩
  rw [readByte_writeBytes base inside, stagingBase_eq]

end Sys2Proof.Machine

end
